-- ==== Sys2Proof/Word.lean ====
section
/-!
DEFINITION. The word types of the Umbren 3460 model: what the manual treats as bits.
Everything the manual counts or measures (forces, lengths, ranks, counts) is a Nat or an Int.
-/

namespace Sys2Proof

/-- One byte of a link frame or of the configuration memory (spec 11). -/
abbrev Byte := BitVec 8

/-- Station time in ms, which wraps at 2^32 (R128, R129). -/
abbrev Time := BitVec 32

/-- A raw converter sample: a 24-bit signed count (R110). -/
abbrev RawSample := BitVec 24

/-- A camera pixel: a 10-bit code (R138). -/
abbrev Pixel := BitVec 10

end Sys2Proof
end

