-- ==== Sys2Proof/Syntax.lean ====
section
/-!
DEFINITION. The commands: one constructor of `Instr` for each row of spec/opcode_table.json.
A command is one event at the part, whole and indivisible (spec 95). Its operands are what the outside world decides:
bytes, lengths, samples, counted edges and positions.
-/

namespace Sys2Proof

/-- The two carriage axes, homed one by one (R100). -/
inductive Axis where
  | x
  | y
  deriving DecidableEq, Repr

/-- The two profile slots of the Measurement Unit (R150). -/
inductive SlotName where
  | a
  | b
  deriving DecidableEq, Repr

/-- The events of spec/opcode_table.json, in the table's order. -/
inductive Instr where
  /-- DEVICE_RESET (R29): power-on or RESET_N, with the rank straps. -/
  | deviceReset (straps : BitVec 3)
  /-- RESET_N_RELEASE (R127, R135). -/
  | resetNRelease
  /-- CONFIG_READ_DONE (R29): the bytes read from the configuration memory; a byte beyond the list reads FFh. -/
  | configReadDone (image : List Byte)
  /-- PLAN_SITE (R4): a request frame with its destination and payload. -/
  | planSite (dest : BitVec 4) (payload : List Byte)
  /-- PLAN_REMEASURE (R5). -/
  | planRemeasure (dest : BitVec 4) (payload : List Byte)
  /-- PLAN_WITHDRAW (R6). -/
  | planWithdraw (dest : BitVec 4) (payload : List Byte)
  /-- MAP_CLEAR (R24). -/
  | mapClear (dest : BitVec 4) (payload : List Byte)
  /-- START (R28). -/
  | start (dest : BitVec 4) (payload : List Byte)
  /-- PAUSE (R28, R46). -/
  | pause (dest : BitVec 4) (payload : List Byte)
  /-- RESUME (R28, R48). -/
  | resume (dest : BitVec 4) (payload : List Byte)
  /-- ABORT_SITE (R44). -/
  | abortSite (dest : BitVec 4) (payload : List Byte)
  /-- RESTART (R169). -/
  | restart (dest : BitVec 4) (payload : List Byte)
  /-- REF_RESELECT (R133). -/
  | refReselect (dest : BitVec 4) (payload : List Byte)
  /-- SET_MODE (R168). -/
  | setMode (dest : BitVec 4) (payload : List Byte)
  /-- QUERY_STATUS (R170). -/
  | queryStatus (dest : BitVec 4) (payload : List Byte)
  /-- QUERY_ENTRY (R171). -/
  | queryEntry (dest : BitVec 4) (payload : List Byte)
  /-- QUERY_COUNTERS (R174). -/
  | queryCounters (dest : BitVec 4) (payload : List Byte)
  /-- SET_COUNTER (R173). -/
  | setCounter (dest : BitVec 4) (payload : List Byte)
  /-- UNKNOWN_KIND (R175): a request frame whose kind byte is outside 10h..1Eh. -/
  | unknownKind (dest : BitVec 4) (kind : Byte) (payload : List Byte)
  /-- TRANSMIT_START (R78, R80): the levels on the line since the last command that told of one, `true` for recessive; none
where nothing stands between. -/
  | transmitStart (since : List Bool := [])
  /-- ARBITRATION_LOSS (R78, R81): the levels on the line since the last command that told of one, up to the dominant bit that
lost it. -/
  | arbitrationLoss (since : List Bool := [])
  /-- OWN_FRAME_COMPLETED (R82). -/
  | ownFrameCompleted
  /-- OWN_FRAME_ERROR (R78, R82): the levels on the line since the last command that told of one, up to the dominant bit that
ended it. -/
  | ownFrameError (since : List Bool := [])
  /-- FRAME_END (R86): the levels on the line from the start bit to the end of the check, `true` for recessive. -/
  | frameEnd (line : List Bool)
  /-- LENGTH_ABOVE_32 (R85): the length byte read, with the two bytes read before it. -/
  | lengthAbove32 (length : Byte) (arbitration : Byte := 0#8) (kind : Byte := 0#8)
  /-- DOMINANT_RUN_REACHES_9 (R86). -/
  | dominantRunReaches9
  /-- DOMINANT_RUN_END (R86, R88): the full length of the run in bit times. -/
  | dominantRunEnd (length : Nat)
  /-- HALT_PULSE (R88, R90): the run reaches 500 bit times. -/
  | haltPulse
  /-- LINE_IDLE (R78, R85). -/
  | lineIdle
  /-- STOP_ASSERTED (R78, R91): whether an own frame on the line is past its arbitration byte, and the levels on the line since
the last command that told of one, up to the first bit of the pulse. -/
  | stopAsserted (pastArbitration : Bool) (since : List Bool := [])
  /-- STOP_PULSE_END (R91): whether STOP_N is still asserted. -/
  | stopPulseEnd (stillAsserted : Bool)
  /-- STOP_PULSE_REPEAT (R78, R91): whether an own frame on the line is past its arbitration byte, no where none is on it, and
the levels on the line since the last command that told of one, up to the first bit of the pulse. -/
  | stopPulseRepeat (pastArbitration : Bool := false) (since : List Bool := [])
  /-- TICK (R129). -/
  | tick
  /-- LISTEN_IN_END (R69). -/
  | listenInEnd
  /-- DOUBT_END (R70). -/
  | doubtEnd
  /-- CLAIM_REFRESH_DUE (R60). -/
  | claimRefreshDue
  /-- HOLDOFF_REFRESH_DUE (R72). -/
  | holdoffRefreshDue
  /-- VIEW_EXPIRY (R68). -/
  | viewExpiry
  /-- HOLDOFF_QUEUED (R71). -/
  | holdoffQueued
  /-- TURRET_HOME_FOUND (R98). -/
  | turretHomeFound
  /-- INDEX_COMPLETE (R99): the rising edges of TU_IDX counted since the index started. -/
  | indexComplete (edges : Nat)
  /-- CARRIAGE_AXIS_HOME (R100). -/
  | carriageAxisHome (axis : Axis)
  /-- CARRIAGE_IN_POSITION (R101). -/
  | carriageInPosition
  /-- Z_HOME_FOUND (R102). -/
  | zHomeFound
  /-- Z_IN_POSITION (R102). -/
  | zInPosition
  /-- FINE_STEP_COMPLETE (R103). -/
  | fineStepComplete
  /-- MOVE_DEADLINE (R106). -/
  | moveDeadline
  /-- SETTLE_END (R104). -/
  | settleEnd
  /-- AXES_STOPPED (R105): the positions MOT counted when the axes came to rest. -/
  | axesStopped (x y : Int) (z : Nat)
  /-- SAMPLE_PAIR (R110): one primary and one check raw sample. -/
  | samplePair (primary check : RawSample)
  /-- TARE_DONE (R113): the 64th tare pair. -/
  | tareDone (primary check : RawSample)
  /-- WIRE_TEST_DONE (R114): the 32nd pair of the open-wire test. -/
  | wireTestDone (primary check : RawSample)
  /-- WIRE_TEST_RECOVERED (R114): the 40th pair of the open-wire test. -/
  | wireTestRecovered (primary check : RawSample)
  /-- LOAD_RAMP_END (R116): load pair T. -/
  | loadRampEnd (primary check : RawSample)
  /-- DWELL_END (R117): the hold pair at which the hold tick count reaches the dwell. -/
  | dwellEnd (primary check : RawSample)
  /-- UNLOAD_TIMEOUT (R122). -/
  | unloadTimeout
  /-- FAST_UNLOAD_TIMEOUT (R123). -/
  | fastUnloadTimeout
  /-- HOME_DRIVE_DONE (R124): the 1,000th pair of the home drive. -/
  | homeDriveDone (primary check : RawSample)
  /-- FREE_TEST_PASS (R124): the 8th consecutive free pair. -/
  | freeTestPass (primary check : RawSample)
  /-- RETRACT_TIMEOUT (R124). -/
  | retractTimeout
  /-- REF_WINDOW_END (R130, R132): the REFCLK edges counted in the window. -/
  | refWindowEnd (edges : Nat)
  /-- SOURCE_SWITCH (R131). -/
  | sourceSwitch
  /-- FOCUS_SETTLE_END (R145). -/
  | focusSettleEnd
  /-- FVAL_RISE (R141). -/
  | fvalRise
  /-- WINDOW_COMPLETE (R138): the lines of the sensor frame received so far, each a list of pixels, and whether a HALT falls due
  together with it and is taken next (R149; log 51). -/
  | windowComplete (lines : List (List Pixel)) (haltDue : Bool := false)
  /-- PCLK_STALL (R142): whether a HALT falls due together with it and is taken next (R149; log 51). -/
  | pclkStall (haltDue : Bool := false)
  /-- SHORT_FRAME (R138, R142): whether a HALT falls due together with it and is taken next (R149; log 51). -/
  | shortFrame (haltDue : Bool := false)
  /-- FRAME_WAIT_END (R142): whether a HALT falls due together with it and is taken next (R149; log 51). -/
  | frameWaitEnd (haltDue : Bool := false)
  /-- COMPUTE_COMPLETE (R153): the slot whose computation completes. -/
  | computeComplete (slot : SlotName)
  /-- START_BIT (R85). -/
  | startBit
  deriving DecidableEq, Repr

end Sys2Proof
end

