-- ==== Sys2Proof/Config.lean ====
section
/-!
DEFINITION. The configuration image as data (spec 11.6) and the free values: what the manual leaves open.
The image's field values and the clamping stand in Machine/ConfigImage.lean.
-/

namespace Sys2Proof.Machine

/-- The two ladders of threshold heights (R157). -/
inductive Ladder where
  | wide
  | narrow
  deriving DecidableEq, Repr

/-- The two indenter kinds (R1, R94). -/
inductive IndenterKind where
  | vickers
  | knoop
  deriving DecidableEq, Repr

/-- Slot-record fields of an indenter slot (R94, R20). -/
structure IndenterRecord where
  kind : IndenterKind
  offsetX : Int
  offsetY : Int
  standoff : Nat
  /-- The unknown-diagonal bound UB in nm. -/
  bound : Nat
  deriving DecidableEq, Repr

/-- Slot-record fields of an objective slot (R94, R137, R154). -/
structure ObjectiveRecord where
  offsetX : Int
  offsetY : Int
  focusStart : Nat
  /-- Scale Cq in 1/256 nm per pixel. -/
  scale : Nat
  width : Nat
  height : Nat
  originColumn : Nat
  originRow : Nat
  ladder : Ladder
  ladderStep : Nat
  minContrast : Nat
  minPixels : Nat
  maxPixels : Nat
  focusCount : Nat
  focusStep : Nat
  focusSettle : Nat
  minSharpness : Nat
  illumination : Nat
  deriving DecidableEq, Repr

/-- One turret slot's record (R94). -/
inductive SlotRecord where
  | empty
  | indenter (record : IndenterRecord)
  | objective (record : ObjectiveRecord)
  deriving DecidableEq, Repr

/-- The work modes (R26). -/
inductive WorkMode where
  | perSite
  | batch
  deriving DecidableEq, Repr

/-- The configuration image after clamping (spec 11.6); `slots` lists the six slot records. -/
structure ConfigImage where
  workMode : WorkMode
  batchLimit : Nat
  refreshInterval : Nat
  expiryMultiplier : Nat
  patience : Nat
  /-- The ranks named by the peer set, in rising order. -/
  peerSet : List Nat
  spacingFactor : Nat
  xLower : Int
  xUpper : Int
  yLower : Int
  yUpper : Int
  moveTimeout : Nat
  homeTimeout : Nat
  settleTime : Nat
  primaryGain : Nat
  checkGain : Nat
  contactPermille : Nat
  crossCheckPermille : Nat
  tolerancePermille : Nat
  overloadPermille : Nat
  approachSpeed : Nat
  /-- In micrometres. -/
  strokeLength : Nat
  defaultLoadTime : Nat
  unloadTime : Nat
  forceLoopStep : Nat
  owMin : Int
  owMax : Int
  freeMin : Int
  freeMax : Int
  referenceConfigured : Bool
  referenceDivider : Nat
  band : Nat
  captureRetries : Nat
  guardPoints : Nat
  asymmetryPermille : Nat
  slots : List SlotRecord
  deriving DecidableEq, Repr

/-- FREE VALUE (log 4): the carriage X position a device reset leaves, which R93 calls undefined. -/
opaque Config.freeCarriageX : Nat → BitVec 24

/-- FREE VALUE (log 4): the carriage Y position a device reset leaves, which R93 calls undefined. -/
opaque Config.freeCarriageY : Nat → BitVec 24

/-- FREE VALUE (log 4): the Z position a device reset leaves, which R93 calls undefined; the model keeps it in 0..500,000. -/
opaque Config.freeZ : Nat → BitVec 24

/-- FREE VALUE (log 30): byte number `field` of the `n`-th STATUS message, where the spec states no value for the byte. -/
opaque Config.freeStatusByte (field n : Nat) : Byte

end Sys2Proof.Machine
end

