-- ==== Sys2Proof/Machine/LineCode.lean ====
section
/-!
DEFINITION. Bits, bytes, the check and the line coding of a frame (R79, spec 11.1): how a frame stands on the line,
and how a receiver reads it back.
-/

namespace Sys2Proof.Machine

/-- The `width` low bits of `value`, most significant first (spec 11). -/
def bitsOf (width value : Nat) : List Bool :=
  (List.range width).map fun i => value.testBit (width - 1 - i)

/-- A signed field in two's complement, most significant bit first (spec 11). -/
def signedBits (width : Nat) (value : Int) : List Bool :=
  bitsOf width (BitVec.ofInt width value).toNat

/-- `count` bytes of `value`, most significant byte first (spec 11). -/
def bytesOf (count value : Nat) : List Byte :=
  (List.range count).map fun i => BitVec.ofNat 8 (value >>> (8 * (count - 1 - i)))

/-- A signed field of `count` bytes, most significant byte first (spec 11). -/
def signedBytes (count : Nat) (value : Int) : List Byte :=
  bytesOf count (BitVec.ofInt (8 * count) value).toNat

/-- The number that a list of bytes spells, most significant byte first (spec 11). -/
def natOfBytes (bytes : List Byte) : Nat :=
  bytes.foldl (fun acc b => acc * 256 + b.toNat) 0

/-- The signed number that a list of bytes spells in two's complement (spec 11). -/
def intOfBytes (bytes : List Byte) : Int :=
  (BitVec.ofNat (8 * bytes.length) (natOfBytes bytes)).toInt

/-- The eight bits of a byte, most significant first (R79). -/
def byteBits (b : Byte) : List Bool :=
  [b.getLsbD 7, b.getLsbD 6, b.getLsbD 5, b.getLsbD 4, b.getLsbD 3, b.getLsbD 2, b.getLsbD 1, b.getLsbD 0]

/-- The byte of eight bits, most significant first. -/
def byteOfBits (b7 b6 b5 b4 b3 b2 b1 b0 : Bool) : Byte :=
  BitVec.ofNat 8 (128 * b7.toNat + 64 * b6.toNat + 32 * b5.toNat + 16 * b4.toNat
    + 8 * b3.toNat + 4 * b2.toNat + 2 * b1.toNat + b0.toNat)

/-- Reads whole bytes from bits; a remainder of fewer than eight bits refuses the list. -/
def bytesOfBits : List Bool → Option (List Byte)
  | [] => some []
  | b7 :: b6 :: b5 :: b4 :: b3 :: b2 :: b1 :: b0 :: rest =>
    (bytesOfBits rest).map (byteOfBits b7 b6 b5 b4 b3 b2 b1 b0 :: ·)
  | _ => none

/-- Packs bits into bytes, most significant first; the last byte is filled up with zeros (spec 11.4). -/
def packBits : List Bool → List Byte
  | [] => []
  | b7 :: b6 :: b5 :: b4 :: b3 :: b2 :: b1 :: b0 :: rest =>
    byteOfBits b7 b6 b5 b4 b3 b2 b1 b0 :: packBits rest
  | short =>
    let bit (i : Nat) : Bool := short.getD i false
    [byteOfBits (bit 0) (bit 1) (bit 2) (bit 3) (bit 4) (bit 5) (bit 6) (bit 7)]

/-- One bit entering the check register: CRC-16 with polynomial x^16 + x^12 + x^5 + 1 (R79). -/
def crcBit (crc : BitVec 16) (bit : Bool) : BitVec 16 :=
  if crc.getLsbD 15 != bit then (crc <<< 1) ^^^ 0x1021#16 else crc <<< 1

/-- The check over a list of bytes: initial value all ones, most significant bit first, no final exclusive-or (R79). -/
def crc16 (bytes : List Byte) : BitVec 16 :=
  bytes.foldl (fun crc b => (byteBits b).foldl crcBit crc) 0xFFFF#16

/-- A frame of the link (spec 11.1). The length byte is the payload's length. -/
structure LinkFrame where
  arbitration : Byte
  kind : Byte
  payload : List Byte
  check : BitVec 16
  deriving DecidableEq, Repr

/-- The bytes the check covers: the arbitration byte to the last payload byte (R79). -/
def LinkFrame.covered (f : LinkFrame) : List Byte :=
  f.arbitration :: f.kind :: BitVec.ofNat 8 f.payload.length :: f.payload

/-- All bytes of a frame, the check high byte first (R79). -/
def LinkFrame.bytes (f : LinkFrame) : List Byte :=
  f.covered ++ [(f.check >>> 8).setWidth 8, f.check.setWidth 8]

/-- Whether the check received is the check formed (R79, R86). -/
def LinkFrame.checkGood (f : LinkFrame) : Bool :=
  crc16 f.covered == f.check

/-- The frame a sender forms: its check is the one it computes (R79). -/
def LinkFrame.sealed (arbitration kind : Byte) (payload : List Byte) : LinkFrame :=
  { arbitration, kind, payload
    check := crc16 (arbitration :: kind :: BitVec.ofNat 8 payload.length :: payload) }

/-- The sender address of an arbitration byte: bits 6..4 (spec 11.1). -/
def LinkFrame.sender (f : LinkFrame) : Nat := (f.arbitration.extractLsb' 4 3).toNat

/-- The destination of an arbitration byte: bits 3..0 (spec 11.1). -/
def LinkFrame.dest (f : LinkFrame) : BitVec 4 := f.arbitration.extractLsb' 0 4

/-- The class bit of an arbitration byte: set for a message (spec 11.1). -/
def LinkFrame.isMessage (f : LinkFrame) : Bool := f.arbitration.getLsbD 7

/-- Inserts one recessive bit after any 8 consecutive dominant bit times (R79); `run` counts the present dominant run.
`true` is recessive. -/
def stuff : Nat → List Bool → List Bool
  | _, [] => []
  | _, true :: rest => true :: stuff 0 rest
  | run, false :: rest => if run = 7 then false :: true :: stuff 0 rest else false :: stuff (run + 1) rest

/-- Removes the inserted bits (R85). A dominant level where an inserted bit is due refuses the line (R79, R86). -/
def destuff : Nat → List Bool → Option (List Bool)
  | _, [] => some []
  | 8, true :: rest => destuff 0 rest
  | 8, false :: _ => none
  | _, true :: rest => (destuff 0 rest).map (true :: ·)
  | run, false :: rest => (destuff (run + 1) rest).map (false :: ·)

/-- The levels of a frame on the line, from its dominant start bit to the end of its check (R79). -/
def LinkFrame.line (f : LinkFrame) : List Bool :=
  stuff 0 (false :: f.bytes.flatMap byteBits)

/-- Takes a frame apart: 5 + n bytes, the third of them n, and n at most 32 (R79, spec 11.1). -/
def frameOfBytes : List Byte → Option LinkFrame
  | arbitration :: kind :: length :: rest =>
    if length.toNat ≤ 32 ∧ rest.length = length.toNat + 2 then
      some { arbitration, kind, payload := rest.take length.toNat
             check := BitVec.ofNat 16 (natOfBytes (rest.drop length.toNat)) }
    else none
  | _ => none

/-- Reads a frame from the levels on the line: the start bit, then bytes, with inserted bits removed (R79, R85). -/
def readFrame (line : List Bool) : Option LinkFrame :=
  match destuff 0 line with
  | some (false :: bits) =>
    match bytesOfBits bits with
    | some bytes => frameOfBytes bytes
    | none => none
  | _ => none

end Sys2Proof.Machine
end

