-- ==== Sys2Proof/Machine/ConfigImage.lean ====
section
/-!
DEFINITION. Reading the configuration image (R29, spec 11.6): the fields at their offsets, each clamped into the range
that its block's rule gives, and the defaults that stand before an image is accepted.
-/

namespace Sys2Proof.Machine

/-- Clamping to the nearest allowed value (R29). -/
def clampNat (lower upper value : Nat) : Nat := max lower (min upper value)

/-- Clamping to the nearest allowed value, signed (R29). -/
def clampInt (lower upper value : Int) : Int := max lower (min upper value)

/-- A byte of the configuration memory; a silent memory reads as FFh (spec 11.6). -/
def memByte (image : List Byte) (offset : Nat) : Byte := image.getD offset 0xFF#8

/-- `count` bytes of the configuration memory from `offset`. -/
def memBytes (image : List Byte) (offset count : Nat) : List Byte :=
  (List.range count).map fun i => memByte image (offset + i)

/-- An unsigned field of the image. -/
def memNat (image : List Byte) (offset count : Nat) : Nat := natOfBytes (memBytes image offset count)

/-- A signed field of the image. -/
def memInt (image : List Byte) (offset count : Nat) : Int := intOfBytes (memBytes image offset count)

/-- Whether the format marker is 34h 60h 01h (R29, spec 11.6). -/
def markerGood (image : List Byte) : Bool :=
  memBytes image 0 3 == [0x34#8, 0x60#8, 0x01#8]

/-- The values that stand before an image is accepted: every field at its default (R26, R52, R95, R111, R128, R137, R154).
No slot record is read, so every slot is EMPTY. -/
def ConfigImage.defaults : ConfigImage where
  workMode := .perSite
  batchLimit := 8
  refreshInterval := 40
  expiryMultiplier := 4
  patience := 3000
  peerSet := [1, 2, 3, 4, 5, 6, 7]
  spacingFactor := 30
  xLower := -150000
  xUpper := 150000
  yLower := -150000
  yUpper := 150000
  moveTimeout := 5000
  homeTimeout := 20000
  settleTime := 150
  primaryGain := 4096
  checkGain := 4096
  contactPermille := 20
  crossCheckPermille := 20
  tolerancePermille := 10
  overloadPermille := 50
  approachSpeed := 60
  strokeLength := 500
  defaultLoadTime := 2000
  unloadTime := 3000
  forceLoopStep := 20
  owMin := 20000
  owMax := 200000
  freeMin := -400000
  freeMax := 400000
  referenceConfigured := false
  referenceDivider := 10000
  band := 8
  captureRetries := 2
  guardPoints := 16
  asymmetryPermille := 50
  slots := [.empty, .empty, .empty, .empty, .empty, .empty]

/-- A focus count that is even after clamping is taken as one less than its value (R137). -/
def oddCount (n : Nat) : Nat := if n % 2 = 0 then n - 1 else n

/-- A pair that is not in order takes both defaults (R95, R111). -/
def orderedPair (low high lowDefault highDefault : Int) : Int × Int :=
  if low < high then (low, high) else (lowDefault, highDefault)

/-- An indenter slot's record at offset `o` (R94, R20, spec 11.6). The offsets are clamped as R94 says, though the figure of
R95 and the walkthrough of 5.10 use an offset beyond that range (DEDUCED, log 46). -/
def readIndenter (image : List Byte) (o : Nat) (kind : IndenterKind) : IndenterRecord where
  kind := kind
  offsetX := clampInt (-20000) 20000 (memInt image (o + 1) 3)
  offsetY := clampInt (-20000) 20000 (memInt image (o + 4) 3)
  standoff := clampNat 0 500000 (memNat image (o + 7) 3)
  bound := clampNat 1 4194303 (memNat image (o + 10) 3)

/-- An objective slot's record at offset `o` (R94, R137, R154, spec 11.6), its offsets clamped as R94 says (DEDUCED, log 46). -/
def readObjective (image : List Byte) (o : Nat) : ObjectiveRecord :=
  let least := clampNat 1 1024 (memNat image (o + 25) 2)
  let most := clampNat 1 1024 (memNat image (o + 27) 2)
  { offsetX := clampInt (-20000) 20000 (memInt image (o + 1) 3)
    offsetY := clampInt (-20000) 20000 (memInt image (o + 4) 3)
    focusStart := clampNat 0 500000 (memNat image (o + 7) 3)
    scale := clampNat 1 1048575 (memNat image (o + 10) 3)
    width := clampNat 64 1024 (memNat image (o + 13) 2)
    height := clampNat 64 1024 (memNat image (o + 15) 2)
    originColumn := clampNat 0 4095 (memNat image (o + 17) 2)
    originRow := clampNat 0 4095 (memNat image (o + 19) 2)
    ladder := if memNat image (o + 21) 1 = 1 then .narrow else .wide
    ladderStep := clampNat 0 15 (memNat image (o + 22) 1)
    minContrast := clampNat 0 16368 (memNat image (o + 23) 2)
    minPixels := if least ≤ most then least else 8
    maxPixels := if least ≤ most then most else 900
    focusCount := oddCount (clampNat 1 33 (memNat image (o + 29) 1))
    focusStep := clampNat 1 100 (memNat image (o + 30) 1)
    focusSettle := clampNat 0 500 (memNat image (o + 31) 2)
    minSharpness := clampNat 0 33488928 (memNat image (o + 33) 4)
    illumination := clampNat 1 255 (memNat image (o + 37) 1) }

/-- The record of turret slot `s`; a kind that cannot be decoded is EMPTY (R94, spec 11.6). -/
def readSlot (image : List Byte) (s : Nat) : SlotRecord :=
  let o := 80 + 40 * s
  match memNat image o 1 with
  | 1 => .indenter (readIndenter image o .vickers)
  | 2 => .indenter (readIndenter image o .knoop)
  | 3 => .objective (readObjective image o)
  | _ => .empty

/-- The peer set: bit r for rank r; bit 0 is not used (spec 11.6). -/
def readPeerSet (b : Byte) : List Nat :=
  [1, 2, 3, 4, 5, 6, 7].filter fun r => b.getLsbD r

/-- The image with every field clamped (R29, spec 11.6). -/
def readConfigImage (image : List Byte) : ConfigImage :=
  let xs := orderedPair (clampInt (-300000) 300000 (memInt image 11 3)) (clampInt (-300000) 300000 (memInt image 14 3))
    (-150000) 150000
  let ys := orderedPair (clampInt (-300000) 300000 (memInt image 17 3)) (clampInt (-300000) 300000 (memInt image 20 3))
    (-150000) 150000
  let ow := orderedPair (memInt image 49 3) (memInt image 52 3) 20000 200000
  let free := orderedPair (memInt image 55 3) (memInt image 58 3) (-400000) 400000
  { workMode := if memNat image 3 1 = 1 then .batch else .perSite
    batchLimit := clampNat 1 16 (memNat image 4 1)
    refreshInterval := clampNat 10 200 (memNat image 5 1)
    expiryMultiplier := clampNat 3 8 (memNat image 6 1)
    patience := clampNat 500 30000 (memNat image 7 2)
    peerSet := readPeerSet (memByte image 9)
    spacingFactor := clampNat 20 60 (memNat image 10 1)
    xLower := xs.1
    xUpper := xs.2
    yLower := ys.1
    yUpper := ys.2
    moveTimeout := clampNat 500 20000 (memNat image 23 2)
    homeTimeout := clampNat 1000 60000 (memNat image 25 2)
    settleTime := clampNat 0 2000 (memNat image 27 2)
    primaryGain := clampNat 1 1048575 (memNat image 29 3)
    checkGain := clampNat 1 1048575 (memNat image 32 3)
    contactPermille := clampNat 5 100 (memNat image 35 1)
    crossCheckPermille := clampNat 5 100 (memNat image 36 1)
    tolerancePermille := clampNat 5 50 (memNat image 37 1)
    overloadPermille := clampNat 20 200 (memNat image 38 1)
    approachSpeed := clampNat 1 500 (memNat image 39 2)
    strokeLength := clampNat 50 2000 (memNat image 41 2)
    defaultLoadTime := clampNat 500 20000 (memNat image 43 2)
    unloadTime := clampNat 500 20000 (memNat image 45 2)
    forceLoopStep := clampNat 1 500 (memNat image 47 2)
    owMin := ow.1
    owMax := ow.2
    freeMin := free.1
    freeMax := free.2
    referenceConfigured := 1 ≤ memNat image 61 1
    referenceDivider := clampNat 1000 50000 (memNat image 62 2)
    band := clampNat 1 16 (memNat image 64 1)
    captureRetries := clampNat 0 3 (memNat image 65 1)
    guardPoints := clampNat 4 64 (memNat image 66 1)
    asymmetryPermille := clampNat 10 200 (memNat image 67 1)
    slots := (List.range 6).map (readSlot image) }

/-- The record of a slot number; numbers above 5 name no slot. -/
def ConfigImage.slot (c : ConfigImage) (i : Nat) : SlotRecord := c.slots.getD i .empty

/-- The indenter kind of a slot, where it is VICKERS or KNOOP (R1). -/
def ConfigImage.indenterKind? (c : ConfigImage) (i : Nat) : Option IndenterKind :=
  match c.slot i with
  | .indenter r => some r.kind
  | _ => none

/-- The objective record of a slot, where its kind is OBJECTIVE (R94). -/
def ConfigImage.objective? (c : ConfigImage) (i : Nat) : Option ObjectiveRecord :=
  match c.slot i with
  | .objective r => some r
  | _ => none

/-- Expiry interval: expiry multiplier × refresh interval (R52). -/
def ConfigImage.expiryInterval (c : ConfigImage) : Nat := c.expiryMultiplier * c.refreshInterval

/-- Listen-in interval: expiry interval + refresh interval (R52). -/
def ConfigImage.listenInterval (c : ConfigImage) : Nat := c.expiryInterval + c.refreshInterval

/-- Doubt interval: 2 × refresh interval (R52). -/
def ConfigImage.doubtInterval (c : ConfigImage) : Nat := 2 * c.refreshInterval

/-- The offset of a slot (R94); an EMPTY slot has none. -/
def SlotRecord.offset : SlotRecord → Int × Int
  | .empty => (0, 0)
  | .indenter r => (r.offsetX, r.offsetY)
  | .objective r => (r.offsetX, r.offsetY)

/-- Lower end of the X travel range: the lower limit less the largest offset magnitude on X among the slots (R95). -/
def ConfigImage.xHome (c : ConfigImage) : Int :=
  c.xLower - (c.slots.map fun r => r.offset.1.natAbs).foldl max 0

/-- Lower end of the Y travel range (R95). -/
def ConfigImage.yHome (c : ConfigImage) : Int :=
  c.yLower - (c.slots.map fun r => r.offset.2.natAbs).foldl max 0

/-- Upper end of the X travel range (R95). -/
def ConfigImage.xEnd (c : ConfigImage) : Int :=
  c.xUpper + (c.slots.map fun r => r.offset.1.natAbs).foldl max 0

/-- Upper end of the Y travel range (R95). -/
def ConfigImage.yEnd (c : ConfigImage) : Int :=
  c.yUpper + (c.slots.map fun r => r.offset.2.natAbs).foldl max 0

end Sys2Proof.Machine
end

