-- ==== Sys2Proof/Machine/Records.lean ====
section
/-!
DEFINITION. The records of the blocks as the chapters' tables give them (R7, R8, R26, R52, R92, R93, R109, R128, R136, R150,
R173). Each record is plain data.
-/

namespace Sys2Proof.Machine

/-- A deadline: the station time at which it was set and its interval; it is reached when the time elapsed since it was
set equals or exceeds the interval (R52). -/
structure Deadline where
  setAt : Time
  interval : Nat
  deriving DecidableEq, Repr

/-! ### Sites, entries and flags (chapter 1) -/

/-- The fields of an item that its map entry copies (R1, R7). -/
structure SiteFields where
  site : Nat
  x : Int
  y : Int
  indenter : Nat
  objective : Nat
  force : Nat
  /-- Expected diagonal in nm; `none` is absent. -/
  expected : Option Nat
  deriving DecidableEq, Repr

/-- An INDENT item (R1). -/
structure IndentItem where
  fields : SiteFields
  dwell : Nat
  /-- Load time in ms; `none` is absent. -/
  loadTime : Option Nat
  deriving DecidableEq, Repr

/-- An item of the site queue (R1, R2). -/
inductive Item where
  | indent (item : IndentItem)
  | remeasure (site : Nat)
  deriving DecidableEq, Repr

/-- The outcomes of an entry, in the order of their codes (R7, spec 11.4). -/
inductive SiteOutcome where
  | rejectedSpacing
  | noContact
  | abortedBeforeContact
  | awaitingMeasure
  | valid
  | flagged
  | measureFailed
  | aborted
  deriving DecidableEq, Repr

/-- The indent flags (R8), in the order of R8's table. -/
structure IndentFlags where
  forceTol : Bool
  forceDisagree : Bool
  lostContact : Bool
  overload : Bool
  dwellUntraceable : Bool
  frameDisturbedIndent : Bool
  indentAborted : Bool
  deriving DecidableEq, Repr

/-- The measure flags (R8), in the order of R8's table. -/
structure MeasureFlags where
  tooSmall : Bool
  tooLarge : Bool
  asymmetric : Bool
  saturated : Bool
  frameDisturbedImage : Bool
  lowContrast : Bool
  noImpression : Bool
  edgeNotFound : Bool
  focusFailed : Bool
  captureStall : Bool
  measureAborted : Bool
  deriving DecidableEq, Repr

/-- An entry of the impression map (R7). -/
structure Entry where
  fields : SiteFields
  made : Bool
  outcome : SiteOutcome
  indentFlags : IndentFlags
  measureFlags : MeasureFlags
  d1 : Option Nat
  d2 : Option Nat
  hardness : Option Nat
  meanForce : Option Nat
  indentTime : Time
  count : Nat
  deriving DecidableEq, Repr

/-- Why the head of the site queue waits (R23), in the order of spec 11.5's codes. -/
inductive DeferralReason where
  | mapFull
  | spacingWait
  deriving DecidableEq, Repr

/-- The head deferral record (R23). -/
structure Deferral where
  reason : DeferralReason
  since : Time
  deriving DecidableEq, Repr

/-- The Site Store (R3, R7, R23). The measure list is `Store.measureList`, a view of the map (R13). -/
structure Store where
  queue : List Item
  deferral : Option Deferral
  map : List Entry
  deriving DecidableEq, Repr

/-! ### The cycle record (chapter 2) -/

/-- The station modes, in the order of their codes (R26). -/
inductive StationMode where
  | start
  | ready
  | running
  | pausing
  | paused
  | halted
  | faulted
  deriving DecidableEq, Repr

/-- The fault causes, in the order of their codes (R26, R49). -/
inductive FaultCause where
  | none
  | noRank
  | configAbsent
  | motionTimeout
  | homeFailed
  | unloadTimeout
  | retractTimeout
  | sensorOpen
  | interlock
  deriving DecidableEq, Repr

/-- The phases, in the order of R32's table. SELECT and COMPUTE are never a current item's phase: selection is answered
within an event (R35) and COMPUTE belongs to the delivered entry (R32). -/
inductive Phase where
  | select
  | toSite
  | indent
  | toView
  | image
  | compute
  deriving DecidableEq, Repr

/-- The steps of a current item (R26). -/
inductive CycStep where
  | waiting
  | working
  | ending
  deriving DecidableEq, Repr

/-- What is current: an INDENT item, a REMEASURE item or an entry of the measure list (R26). -/
inductive Work where
  | indent (item : IndentItem)
  | remeasure (site : Nat)
  | listed (site : Nat)
  deriving DecidableEq, Repr

/-- The current item with its phase and step (R26). -/
structure Current where
  work : Work
  phase : Phase
  step : CycStep
  deriving DecidableEq, Repr

/-- The selection cue (R26, R35). -/
inductive Cue where
  | none
  | plan
  | result
  | room
  deriving DecidableEq, Repr

/-- The sources of a tick (R128), in the order of their codes. -/
inductive TickSource where
  | internal
  | reference
  deriving DecidableEq, Repr

/-- The causes a HELLO carries (R56, spec 11.2). -/
inductive HelloCause where
  | deviceReset
  | restart
  | resume
  deriving DecidableEq, Repr

/-- The cycle record (R26). `configReading` (the read of R29 is in hand) and `startCause` (which reset the present START
belongs to, R30, R31) are implied by those rules. -/
structure Cyc where
  mode : StationMode
  workMode : WorkMode
  batchLimit : Nat
  /-- `none` is CLOSED; `some slot` is OPEN with its indenter slot. -/
  batch : Option Nat
  current : Option Current
  gatheredIndent : IndentFlags
  gatheredMeasure : MeasureFlags
  delivered : List Nat
  contactMark : Option TickSource
  bufferFull : Bool
  cue : Cue
  fault : FaultCause
  haltSeen : Bool
  imageHeld : Bool
  configReading : Bool
  startCause : HelloCause
  deriving DecidableEq, Repr

/-! ### Frame coordination (chapter 3) -/

/-- The claim kinds (R51), in the order of their codes. -/
inductive ClaimKind where
  | quiet
  | motion
  deriving DecidableEq, Repr

/-- The coordination states, in the order of their codes (R52). -/
inductive CoordState where
  | inactive
  | listenIn
  | active
  | halted
  deriving DecidableEq, Repr

/-- A set need: its kind and the station time at which it was set (R52). -/
structure Need where
  kind : ClaimKind
  since : Time
  deriving DecidableEq, Repr

/-- Own claim (R52). -/
inductive OwnClaim where
  | none
  | pending (kind : ClaimKind)
  | held (kind : ClaimKind)
  deriving DecidableEq, Repr

/-- Own holdoff (R52). -/
inductive OwnHoldoff where
  | none
  | queued (kind : ClaimKind)
  | sent (kind : ClaimKind)
  deriving DecidableEq, Repr

/-- The causes of a block episode, in the order of their qualifiers (R55, spec 11.3). -/
inductive BlockCause where
  | peerClaim
  | peerHoldoff
  | doubt
  | listenIn
  deriving DecidableEq, Repr

/-- A live claim or holdoff of a peer: its kind and its expiry (R62). -/
structure PeerMark where
  kind : ClaimKind
  expiry : Deadline
  deriving DecidableEq, Repr

/-- One entry of the peer view (R62). -/
structure ViewEntry where
  rank : Nat
  claim : Option PeerMark
  holdoff : Option PeerMark
  /-- `none` is never. -/
  lastHeard : Option Time
  deriving DecidableEq, Repr

/-- The coordination record (R52). -/
structure Fcu where
  state : CoordState
  need : Option Need
  claim : OwnClaim
  collided : List Nat
  holdoff : OwnHoldoff
  block : Option BlockCause
  doubtUntil : Option Deadline
  listenEnd : Option Deadline
  claimRefresh : Option Deadline
  holdoffRefresh : Option Deadline
  view : List ViewEntry
  duplicateRank : Bool
  claimCollision : Bool
  deriving DecidableEq, Repr

/-! ### The frame link (chapter 4) and messages (chapter 10) -/

/-- The notices (R56). -/
inductive Notice where
  | hello (cause : HelloCause)
  | claim (kind : ClaimKind)
  | release (kind : ClaimKind)
  | holdoff (kind : ClaimKind)
  deriving DecidableEq, Repr

/-- The reply codes, in the order of R166. -/
inductive ReplyCode where
  | accepted
  | queueFull
  | duplicateId
  | badTool
  | badForce
  | outOfRange
  | unknownId
  | notMeasurable
  | busy
  | wrongMode
  | nothingToAbort
  | badLength
  | unknownKind
  | badValue
  deriving DecidableEq, Repr

/-- The event kinds, in the order of their codes (R173). -/
inductive EventKind where
  | none
  | outcome
  | flag
  | waitMs
  | block
  | withdrawn
  | expiry
  | linkError
  | deferral
  | captureRetry
  | collision
  deriving DecidableEq, Repr

/-- One event counter (R173). -/
structure Counter where
  kind : EventKind
  mask : BitVec 20
  value : Nat
  deriving DecidableEq, Repr

/-- The station's messages (R84, R166, spec 11.3). -/
inductive Message where
  | reply (tag kind : Byte) (code : ReplyCode)
  | status (tag page : Byte) (fields : List Byte)
  | entry (tag : Byte) (entry : Entry)
  | siteDone (entry : Entry) (attempt : SiteOutcome) (flags : MeasureFlags)
  | counters (tag : Byte) (counters : List Counter)
  deriving DecidableEq, Repr

/-- A message of the message queue, with the mark of the restart reply (R169). -/
structure QueuedMessage where
  message : Message
  restart : Bool
  deriving DecidableEq, Repr

/-- A frame the station sends. -/
inductive OutFrame where
  | notice (notice : Notice)
  | message (message : QueuedMessage)
  deriving DecidableEq, Repr

/-- The transmitter's frame: `stale` marks it for discarding on an arbitration loss (R61, R71, R81), `unreported` is a
frame that a restart has cut off from its block (R92). -/
structure Transmission where
  frame : OutFrame
  stale : Bool
  unreported : Bool
  deriving DecidableEq, Repr

/-- The receive engine's states (R85). -/
inductive EngineState where
  | sync
  | ready
  | receiving
  deriving DecidableEq, Repr

/-- The STOP drive (R91): not driving, driving a pulse, or waiting 1,000 µs after a pulse with STOP_N still asserted. -/
inductive StopDrive where
  | notDriving
  | driving
  | waiting
  deriving DecidableEq, Repr

/-- The interface state (R78, R92). -/
structure Fli where
  rank : Nat
  notices : List Notice
  messages : List QueuedMessage
  transmitter : Option Transmission
  engine : EngineState
  txOverflow : Bool
  stopDrive : StopDrive
  idleCount : Nat
  runLength : Nat
  deriving DecidableEq, Repr

/-! ### Motion (chapter 5) -/

/-- Turret activity (R93, R99): an index holds its target, the slots to pass and whether it turns the positive way. -/
inductive TurretActivity where
  | idle
  | homing
  | indexing (target slots : Nat) (positive : Bool)
  deriving DecidableEq, Repr

/-- Carriage activity (R93, R100): a homing holds which axes have reached home. -/
inductive CarriageActivity where
  | idle
  | homing (xHome yHome : Bool)
  | moving (x y : Int)
  deriving DecidableEq, Repr

/-- Z activity (R93). -/
inductive ZActivity where
  | idle
  | homing
  | rapid (target : Nat)
  | fine (target : Nat)
  deriving DecidableEq, Repr

/-- The pieces of a sequence (R38, R41, R96). -/
inductive Piece where
  | homeZ
  | homeTurret
  | homeCarriage
  | carriageTo (x y : Int)
  | indexTo (slot : Nat)
  | rapidTo (z : Nat)
  | settle
  deriving DecidableEq, Repr

/-- The motion record (R93). -/
structure Mot where
  /-- `none` is UNKNOWN. -/
  turret : Option Nat
  turretActivity : TurretActivity
  carriageHomed : Bool
  x : Int
  y : Int
  carriageActivity : CarriageActivity
  zHomed : Bool
  z : Nat
  zActivity : ZActivity
  /-- The pieces still to do, the one in hand first. -/
  sequence : Option (List Piece)
  settleEnd : Option Deadline
  stopping : Bool
  moveDeadline : Option Deadline
  deriving DecidableEq, Repr

/-! ### Force (chapter 6) -/

/-- The force states, in the order of their codes (R109). -/
inductive ForceState where
  | idle
  | tare
  | wireTest
  | approach
  | load
  | hold
  | unload
  | fastUnload
  | retract
  | retracted
  deriving DecidableEq, Repr

/-- The retract drive (R109, R124). -/
inductive RetractDrive where
  | running
  | homeDrive
  | freeTest
  | stopped
  deriving DecidableEq, Repr

/-- A force cycle with the thresholds formed from its force (R113). -/
structure ForceCycle where
  force : Nat
  dwell : Nat
  loadTime : Nat
  contactAt : Nat
  overloadAt : Nat
  crossLimit : Nat
  deriving DecidableEq, Repr

/-- The hold-source record (R117, R134): the mark of the opening tick and of each hold tick, the latest first. -/
structure HoldSource where
  opening : TickSource
  marks : List TickSource
  deriving DecidableEq, Repr

/-- The force record (R109). `pairs`, `sumPrimary` and `sumCheck` count and sum the pairs of the present state (R113, R114,
R116, R122, R124); `rawPrimary` and `rawCheck` are the last sample pair (R97). -/
structure Frc where
  state : ForceState
  /-- `none` is UNKNOWN; in nm. -/
  stroke : Option Nat
  drive : RetractDrive
  cycle : Option ForceCycle
  contact : Bool
  setPoint : Nat
  /-- The zero of each converter, while a tare is held. -/
  tare : Option (Int × Int)
  primary : Option Int
  check : Option Int
  rawPrimary : Option Int
  rawCheck : Option Int
  pairs : Nat
  sumPrimary : Int
  sumCheck : Int
  testCurrent : Bool
  holdTicks : Nat
  holdSum : Int
  holdSamples : Nat
  holdSource : Option HoldSource
  disagreement : Nat
  deadline : Option Deadline
  deriving DecidableEq, Repr

/-! ### Timebase (chapter 7) -/

/-- The monitor states, in the order of their codes (R128). -/
inductive MonitorState where
  | off
  | qualifying
  | qualified
  | selected
  | lost
  deriving DecidableEq, Repr

/-- The timebase record (R128), with the mark delivered with the last tick (R129). -/
structure Tbu where
  stationTime : Time
  source : TickSource
  monitor : MonitorState
  goodRun : Nat
  badRun : Nat
  refLost : Bool
  tickMark : TickSource
  deriving DecidableEq, Repr

/-! ### Images and profiles (chapters 8 and 9) -/

/-- The Image Unit's states, in the order of their codes (R136). -/
inductive ImageState where
  | idle
  | step
  | settle
  | capture
  | ending
  deriving DecidableEq, Repr

/-- The search stages, in the order of their codes (R136). -/
inductive SearchStage where
  | none
  | focus
  | final
  deriving DecidableEq, Repr

/-- The best position so far (R136). -/
structure BestFocus where
  index : Nat
  z : Nat
  sharpness : Nat
  deriving DecidableEq, Repr

/-- The image record (R136), with the height reached of the position in hand (R145). -/
structure Img where
  state : ImageState
  stage : SearchStage
  objective : Option Nat
  reserved : Option SlotName
  positions : Option (List Int)
  index : Nat
  best : Option BestFocus
  attempt : Nat
  settleEnd : Option Deadline
  frameWaitEnd : Option Deadline
  ph : List Nat
  pv : List Nat
  /-- 0 is OFF. -/
  illumination : Nat
  reachedZ : Nat
  deriving DecidableEq, Repr

/-- The profiles of a final capture (R147, R150). -/
structure Profiles where
  width : Nat
  height : Nat
  ph : List Nat
  pv : List Nat
  deriving DecidableEq, Repr

/-- A delivery (R150). -/
structure Delivery where
  site : Nat
  kind : IndenterKind
  force : Nat
  objective : Nat
  measureSet : MeasureFlags
  profiles : Option Profiles
  deriving DecidableEq, Repr

/-- A profile slot (R150). A FILLING slot is reserved for the current item's site, which STATUS reports (R150). -/
inductive ProfileSlot where
  | free
  | filling (site : Nat)
  | ready (delivery : Delivery)
  | computing (delivery : Delivery)
  deriving DecidableEq, Repr

/-- The Measurement Unit (R150). -/
structure Mea where
  slotA : ProfileSlot
  slotB : ProfileSlot
  deriving DecidableEq, Repr

end Sys2Proof.Machine
end

