-- ==== Sys2Proof/Machine/ResetValues.lean ====
section
/-!
DEFINITION. The values each block's record takes at device reset, from the tables of R26, R52, R92, R93, R109, R128, R136,
R150 and R173. Where a table gives none, the log entry named here does.
-/

namespace Sys2Proof.Machine

/-- No indent flag. -/
def IndentFlags.none : IndentFlags where
  forceTol := false
  forceDisagree := false
  lostContact := false
  overload := false
  dwellUntraceable := false
  frameDisturbedIndent := false
  indentAborted := false

/-- No measure flag. -/
def MeasureFlags.none : MeasureFlags where
  tooSmall := false
  tooLarge := false
  asymmetric := false
  saturated := false
  frameDisturbedImage := false
  lowContrast := false
  noImpression := false
  edgeNotFound := false
  focusFailed := false
  captureStall := false
  measureAborted := false

/-- The store's collections after a device reset or a RESTART (R25). -/
def Store.empty : Store where
  queue := []
  deferral := none
  map := []

/-- The cycle record at device reset (R26): START with the read in hand (R29), or FAULTED with NO_RANK for rank 0. -/
def Cyc.reset (rank : Nat) : Cyc where
  mode := if rank = 0 then .faulted else .start
  workMode := ConfigImage.defaults.workMode
  batchLimit := ConfigImage.defaults.batchLimit
  batch := none
  current := none
  gatheredIndent := .none
  gatheredMeasure := .none
  delivered := []
  contactMark := none
  bufferFull := false
  cue := .none
  fault := if rank = 0 then .noRank else .none
  haltSeen := false
  imageHeld := false
  configReading := rank != 0
  startCause := .deviceReset

/-- A cleared entry of the peer view, never heard (R62). -/
def ViewEntry.cleared (rank : Nat) : ViewEntry where
  rank := rank
  claim := none
  holdoff := none
  lastHeard := none

/-- The emptied view: one cleared entry for each rank of the peer set other than the own rank (R62). A rank 0 leaves all seven
ranks of the default peer set (DESIGN CHOICE, log 45). -/
def emptyView (peerSet : List Nat) (rank : Nat) : List ViewEntry :=
  (peerSet.filter (· != rank)).map ViewEntry.cleared

/-- The coordination record at device reset and RESTART (R52; log 15). -/
def Fcu.reset (view : List ViewEntry) : Fcu where
  state := .inactive
  need := none
  claim := .none
  collided := []
  holdoff := .none
  block := none
  doubtUntil := none
  listenEnd := none
  claimRefresh := none
  holdoffRefresh := none
  view := view
  duplicateRank := false
  claimCollision := false

/-- The interface state at device reset (R92; idle count and run length: log 9). -/
def Fli.reset (rank : Nat) : Fli where
  rank := rank
  notices := []
  messages := []
  transmitter := none
  engine := .sync
  txOverflow := false
  stopDrive := .notDriving
  idleCount := 0
  runLength := 0

/-- The motion record at device reset (R93) with the positions it is given: R93 calls them undefined (log 4). -/
def Mot.reset (x y : Int) (z : Nat) : Mot where
  turret := none
  turretActivity := .idle
  carriageHomed := false
  x := x
  y := y
  carriageActivity := .idle
  zHomed := false
  z := z
  zActivity := .idle
  sequence := none
  settleEnd := none
  stopping := false
  moveDeadline := none

/-- The force record at device reset while RESET_N is held (R109, R127). -/
def Frc.reset : Frc where
  state := .idle
  stroke := none
  drive := .homeDrive
  cycle := none
  contact := false
  setPoint := 0
  tare := none
  primary := none
  check := none
  rawPrimary := none
  rawCheck := none
  pairs := 0
  sumPrimary := 0
  sumCheck := 0
  testCurrent := false
  holdTicks := 0
  holdSum := 0
  holdSamples := 0
  holdSource := none
  disagreement := 0
  deadline := none

/-- The reset retract (R127): RETRACT in HOME_DRIVE with a deadline 2,000 ms ahead and everything else cleared (R124). The
last raw samples are kept: R127 does not clear them, and the converters go on being sampled. -/
def Frc.resetRetract (f : Frc) (now : Time) : Frc :=
  { Frc.reset with
    state := .retract
    rawPrimary := f.rawPrimary
    rawCheck := f.rawCheck
    deadline := some { setAt := now, interval := 2000 } }

/-- The timebase record at device reset (R128, R135; the tick mark: log 4). -/
def Tbu.reset : Tbu where
  stationTime := 0
  source := .internal
  monitor := .off
  goodRun := 0
  badRun := 0
  refLost := false
  tickMark := .internal

/-- The image record at device reset (R136; the height reached: log 4). -/
def Img.reset : Img where
  state := .idle
  stage := .none
  objective := none
  reserved := none
  positions := none
  index := 0
  best := none
  attempt := 0
  settleEnd := none
  frameWaitEnd := none
  ph := []
  pv := []
  illumination := 0
  reachedZ := 0

/-- Both profile slots FREE (R150). -/
def Mea.reset : Mea where
  slotA := .free
  slotB := .free

/-- A counter after a device reset or a RESTART (R173). -/
def Counter.reset : Counter where
  kind := .none
  mask := 0
  value := 0

/-- The four event counters after a device reset or a RESTART (R173). -/
def countersReset : List Counter := [.reset, .reset, .reset, .reset]

end Sys2Proof.Machine
end

