-- ==== Sys2Proof/Machine/State.lean ====
section
/-!
DEFINITION. The state of one Umbren 3460: the record of every block, the held configuration image, the RESET_N pin, the
queue of waiting commands and the free-value counter; the reasons to stop; and the state after reset.
-/

namespace Sys2Proof.Machine

/-- The whole part. -/
structure State where
  /-- The configuration image (R29), at its defaults until one is accepted. -/
  cfg : ConfigImage
  cyc : Cyc
  sst : Store
  fcu : Fcu
  fli : Fli
  mot : Mot
  frc : Frc
  tbu : Tbu
  img : Img
  mea : Mea
  /-- The Terminal Message Handler's restart pending field (R169). -/
  restartPending : Bool
  /-- The four event counters (R173). -/
  evc : List Counter
  /-- RESET_N is held (R127, R135). -/
  resetHeld : Bool
  /-- The MODEL's own field (log 40): how many free values have been drawn. -/
  freeCount : Nat
  /-- The MODEL's own field (log 1): the commands that wait, first in, first out. -/
  pending : List Instr
  deriving DecidableEq, Repr

/-- A command never faults: the spec gives every row of the table an effect, and the part's own faults are its mode
FAULTED (R50). Nobody raises a fault; the type has no constructor, which is safe. -/
inductive Fault : Type
  deriving DecidableEq, Repr

/-- Why a command is refused. -/
inductive Refusal where
  /-- Raised by `exec`'s arm of a command that has no meaning yet; safe, since the model stops. No arm raises it. -/
  | notModelled (mnemonic : String)
  deriving DecidableEq, Repr

/-- The state a device reset leaves while RESET_N is held (R29 and the device-reset column of each block's table), with the
rank the straps give and the positions that R93 leaves undefined. The view of rank 0, which R62 does not give, has seven
entries (DESIGN CHOICE, log 45). -/
def State.deviceReset (rank : Nat) (x y : Int) (z freeCount : Nat) (pending : List Instr) : State where
  cfg := ConfigImage.defaults
  cyc := Cyc.reset rank
  sst := Store.empty
  fcu := Fcu.reset (emptyView ConfigImage.defaults.peerSet rank)
  fli := Fli.reset rank
  mot := Mot.reset x y z
  frc := Frc.reset
  tbu := Tbu.reset
  img := Img.reset
  mea := Mea.reset
  restartPending := false
  evc := countersReset
  resetHeld := true
  freeCount := freeCount
  pending := pending

/-- The timebase at the release of RESET_N: station time 0, INTERNAL, REF_LOST clear, the monitor OFF (R135). -/
def Tbu.released (t : Tbu) : Tbu :=
  { t with stationTime := 0, source := .internal, monitor := .off, refLost := false }

/-- The release of RESET_N (R127, R135): the tick starts from station time 0 and the reset retract begins. -/
def State.released (s : State) : State :=
  { s with
    resetHeld := false
    tbu := s.tbu.released
    frc := s.frc.resetRetract 0 }

/-- The machine right after a device reset, at the release of RESET_N (log 2). DESIGN CHOICE (log 3, unsafe): rank straps 1.
DESIGN CHOICE (log 4, unsafe): positions 0. No command waits. -/
def State.reset : State := (State.deviceReset 1 0 0 0 0 []).released

end Sys2Proof.Machine
end

