-- ==== Sys2Proof/Machine/Flags.lean ====
section
/-!
DEFINITION. Flags and codes: the two flag groups of R8, the outcome R9 derives from them, the qualifier bits of spec 11.3
and the enumerated codes of spec 11.
-/

namespace Sys2Proof.Machine

/-- The seven indent flags in the order of R8's table, FORCE_TOL first. -/
def IndentFlags.bits (f : IndentFlags) : List Bool :=
  [f.forceTol, f.forceDisagree, f.lostContact, f.overload, f.dwellUntraceable, f.frameDisturbedIndent, f.indentAborted]

/-- The eleven measure flags in the order of R8's table, TOO_SMALL first. -/
def MeasureFlags.bits (f : MeasureFlags) : List Bool :=
  [f.tooSmall, f.tooLarge, f.asymmetric, f.saturated, f.frameDisturbedImage, f.lowContrast, f.noImpression,
    f.edgeNotFound, f.focusFailed, f.captureStall, f.measureAborted]

/-- The union of two indent sets. -/
def IndentFlags.union (f g : IndentFlags) : IndentFlags where
  forceTol := f.forceTol || g.forceTol
  forceDisagree := f.forceDisagree || g.forceDisagree
  lostContact := f.lostContact || g.lostContact
  overload := f.overload || g.overload
  dwellUntraceable := f.dwellUntraceable || g.dwellUntraceable
  frameDisturbedIndent := f.frameDisturbedIndent || g.frameDisturbedIndent
  indentAborted := f.indentAborted || g.indentAborted

/-- The union of two measure sets; a flag raised twice appears once (R164). -/
def MeasureFlags.union (f g : MeasureFlags) : MeasureFlags where
  tooSmall := f.tooSmall || g.tooSmall
  tooLarge := f.tooLarge || g.tooLarge
  asymmetric := f.asymmetric || g.asymmetric
  saturated := f.saturated || g.saturated
  frameDisturbedImage := f.frameDisturbedImage || g.frameDisturbedImage
  lowContrast := f.lowContrast || g.lowContrast
  noImpression := f.noImpression || g.noImpression
  edgeNotFound := f.edgeNotFound || g.edgeNotFound
  focusFailed := f.focusFailed || g.focusFailed
  captureStall := f.captureStall || g.captureStall
  measureAborted := f.measureAborted || g.measureAborted

/-- Whether any indent flag is present. -/
def IndentFlags.any (f : IndentFlags) : Bool := f.bits.any id

/-- Whether any measure flag is present. -/
def MeasureFlags.any (f : MeasureFlags) : Bool := f.bits.any id

/-- Whether one of the five flags is present that make a measurement MEASURE_FAILED (R8, R9). -/
def MeasureFlags.failed (f : MeasureFlags) : Bool :=
  f.lowContrast || f.noImpression || f.edgeNotFound || f.focusFailed || f.captureStall

/-- The measure set of an abandoned measurement: MEASURE_ABORTED alone (R15). -/
def MeasureFlags.aborted : MeasureFlags := { MeasureFlags.none with measureAborted := true }

/-- The outcome derived from the flags as they stand after the write (R9). -/
def measuredOutcome (indent : IndentFlags) (measure : MeasureFlags) : SiteOutcome :=
  if measure.failed then .measureFailed
  else if indent.any || measure.any then .flagged
  else .valid

/-- Outcome codes (spec 11.4). -/
def SiteOutcome.code : SiteOutcome → Nat
  | .rejectedSpacing => 0
  | .noContact => 1
  | .abortedBeforeContact => 2
  | .awaitingMeasure => 3
  | .valid => 4
  | .flagged => 5
  | .measureFailed => 6
  | .aborted => 7

/-- Whether an outcome is final: every outcome but AWAITING_MEASURE (R7). -/
def SiteOutcome.final (o : SiteOutcome) : Bool := o != .awaitingMeasure

/-- Whether an outcome carries diagonals and hardness (R9, spec 11.4). -/
def SiteOutcome.measured (o : SiteOutcome) : Bool := o == .valid || o == .flagged

/-- A qualifier mask of one qualifier: qualifier j sets bit j (spec 11.3). -/
def qualifierBit (j : Nat) : BitVec 20 := BitVec.twoPow 20 j

/-- The mask of the positions of a list that hold `true`, the first at bit 0. -/
def maskOfBits (bits : List Bool) : BitVec 20 :=
  BitVec.ofNat 20 (bits.foldr (fun b acc => 2 * acc + b.toNat) 0)

/-- The flags of an entry as a qualifier mask of kind FLAG (spec 11.3). -/
def Entry.flagMask (e : Entry) : BitVec 20 := maskOfBits (e.indentFlags.bits ++ e.measureFlags.bits)

/-- The qualifiers that belong to an event kind (R173, R174): a mask outside them is refused. -/
def EventKind.qualifiers : EventKind → BitVec 20
  | .none => 0x00000#20
  | .outcome => 0x000F7#20
  | .flag => 0x3FFFF#20
  | .waitMs => 0x00003#20
  | .block => 0x0000F#20
  | .withdrawn => 0x00003#20
  | .expiry => 0x00003#20
  | .linkError => 0x0003F#20
  | .deferral => 0x00007#20
  | .captureRetry => 0x00000#20
  | .collision => 0x00000#20

/-- Event kind codes (spec 11.3). -/
def EventKind.code : EventKind → Nat
  | .none => 0
  | .outcome => 1
  | .flag => 2
  | .waitMs => 3
  | .block => 4
  | .withdrawn => 5
  | .expiry => 6
  | .linkError => 7
  | .deferral => 8
  | .captureRetry => 9
  | .collision => 10

/-- The event kind of a code (R173). -/
def EventKind.ofCode? : Nat → Option EventKind
  | 0 => some .none
  | 1 => some .outcome
  | 2 => some .flag
  | 3 => some .waitMs
  | 4 => some .block
  | 5 => some .withdrawn
  | 6 => some .expiry
  | 7 => some .linkError
  | 8 => some .deferral
  | 9 => some .captureRetry
  | 10 => some .collision
  | _ => Option.none

/-- Whether the kind takes qualifiers at all (R174). -/
def EventKind.qualified : EventKind → Bool
  | .none | .captureRetry | .collision => false
  | _ => true

/-- Claim kind codes (spec 11.2). -/
def ClaimKind.code : ClaimKind → Nat
  | .quiet => 0
  | .motion => 1

/-- The claim kind of a payload byte (spec 11.2, R176). -/
def ClaimKind.ofCode? : Nat → Option ClaimKind
  | 0 => some .quiet
  | 1 => some .motion
  | _ => none

/-- The other claim kind: a QUIET claim conflicts with a MOTION claim of another station (R51). -/
def ClaimKind.opposite : ClaimKind → ClaimKind
  | .quiet => .motion
  | .motion => .quiet

/-- HELLO cause codes (spec 11.2). -/
def HelloCause.code : HelloCause → Nat
  | .deviceReset => 0
  | .restart => 1
  | .resume => 2

/-- The HELLO cause of a payload byte (spec 11.2, R176). -/
def HelloCause.ofCode? : Nat → Option HelloCause
  | 0 => some .deviceReset
  | 1 => some .restart
  | 2 => some .resume
  | _ => none

/-- Block cause qualifiers (spec 11.3). -/
def BlockCause.code : BlockCause → Nat
  | .peerClaim => 0
  | .peerHoldoff => 1
  | .doubt => 2
  | .listenIn => 3

/-- Station mode codes (R26, spec 11). -/
def StationMode.code : StationMode → Nat
  | .start => 0
  | .ready => 1
  | .running => 2
  | .pausing => 3
  | .paused => 4
  | .halted => 5
  | .faulted => 6

/-- Fault cause codes (R26, spec 11). -/
def FaultCause.code : FaultCause → Nat
  | .none => 0
  | .noRank => 1
  | .configAbsent => 2
  | .motionTimeout => 3
  | .homeFailed => 4
  | .unloadTimeout => 5
  | .retractTimeout => 6
  | .sensorOpen => 7
  | .interlock => 8

/-- Work mode codes (R26, spec 11.3). -/
def WorkMode.code : WorkMode → Nat
  | .perSite => 0
  | .batch => 1

/-- Phase codes (R32's table, spec 11). -/
def Phase.code : Phase → Nat
  | .select => 0
  | .toSite => 1
  | .indent => 2
  | .toView => 3
  | .image => 4
  | .compute => 5

/-- Step codes (R26, spec 11). -/
def CycStep.code : CycStep → Nat
  | .waiting => 0
  | .working => 1
  | .ending => 2

/-- Reply codes (R166, spec 11.3). -/
def ReplyCode.code : ReplyCode → Nat
  | .accepted => 0
  | .queueFull => 1
  | .duplicateId => 2
  | .badTool => 3
  | .badForce => 4
  | .outOfRange => 5
  | .unknownId => 6
  | .notMeasurable => 7
  | .busy => 8
  | .wrongMode => 9
  | .nothingToAbort => 10
  | .badLength => 11
  | .unknownKind => 12
  | .badValue => 13

/-- Coordination state codes (R52, spec 11.5). -/
def CoordState.code : CoordState → Nat
  | .inactive => 0
  | .listenIn => 1
  | .active => 2
  | .halted => 3

/-- Own claim codes (spec 11.5). -/
def OwnClaim.code : OwnClaim → Nat
  | .none => 0
  | .pending .quiet => 1
  | .pending .motion => 2
  | .held .quiet => 3
  | .held .motion => 4

/-- Own holdoff codes, coded as own claim with QUEUED and SENT (spec 11.5). -/
def OwnHoldoff.code : OwnHoldoff → Nat
  | .none => 0
  | .queued .quiet => 1
  | .queued .motion => 2
  | .sent .quiet => 3
  | .sent .motion => 4

/-- Force state codes (R109, spec 11.5). -/
def ForceState.code : ForceState → Nat
  | .idle => 0
  | .tare => 1
  | .wireTest => 2
  | .approach => 3
  | .load => 4
  | .hold => 5
  | .unload => 6
  | .fastUnload => 7
  | .retract => 8
  | .retracted => 9

/-- Tick source codes (R128, spec 11.5). -/
def TickSource.code : TickSource → Nat
  | .internal => 0
  | .reference => 1

/-- Monitor state codes (R128, spec 11.5). -/
def MonitorState.code : MonitorState → Nat
  | .off => 0
  | .qualifying => 1
  | .qualified => 2
  | .selected => 3
  | .lost => 4

/-- Image Unit state codes (R136, spec 11.5). -/
def ImageState.code : ImageState → Nat
  | .idle => 0
  | .step => 1
  | .settle => 2
  | .capture => 3
  | .ending => 4

/-- Search stage codes (R136, spec 11.5). -/
def SearchStage.code : SearchStage → Nat
  | .none => 0
  | .focus => 1
  | .final => 2

/-- Profile slot state codes (R150, spec 11.5). -/
def ProfileSlot.code : ProfileSlot → Nat
  | .free => 0
  | .filling _ => 1
  | .ready _ => 2
  | .computing _ => 3

/-- Turret activity codes (R93, spec 11.5). -/
def TurretActivity.code : TurretActivity → Nat
  | .idle => 0
  | .homing => 1
  | .indexing _ _ _ => 2

/-- Carriage activity codes (R93, spec 11.5). -/
def CarriageActivity.code : CarriageActivity → Nat
  | .idle => 0
  | .homing _ _ => 1
  | .moving _ _ => 2

/-- Z activity codes (R93, spec 11.5). -/
def ZActivity.code : ZActivity → Nat
  | .idle => 0
  | .homing => 1
  | .rapid _ => 2
  | .fine _ => 3

end Sys2Proof.Machine
end

