-- ==== Sys2Proof/Machine/Ops.lean ====
section
/-!
DEFINITION. The shared operations over the whole state: deadlines, event signals, the two transmit queues, the map and the
profile slots. Every block's own operations are built from these.
-/

namespace Sys2Proof.Machine

/-- A command's effect while RESET_N is released: the part does nothing while it is held (R91, R110, R127, R129, R149). -/
def State.act (s : State) (f : State → State) : Host.Outcome State Fault Refusal :=
  .next (if s.resetHeld then s else f s)

/-! ### Deadlines -/

/-- Station time elapsed since a time, in ms; the wrap of station time has no effect (R52). -/
def elapsed (since now : Time) : Nat := (now - since).toNat

/-- Whether a deadline is reached (R52). -/
def Deadline.reached (d : Deadline) (now : Time) : Bool := d.interval ≤ elapsed d.setAt now

/-- Whether a deadline is set and reached. -/
def due (d : Option Deadline) (now : Time) : Bool :=
  match d with
  | some d => d.reached now
  | none => false

/-- The present station time. -/
def State.now (s : State) : Time := s.tbu.stationTime

/-- A deadline `interval` ms ahead. -/
def State.ahead (s : State) (interval : Nat) : Deadline := { setAt := s.now, interval }

/-! ### Event counters -/

/-- Whether a counter counts a signal of `kind` with the qualifiers `bits` (R174). -/
def Counter.matches (c : Counter) (kind : EventKind) (bits : BitVec 20) : Bool :=
  c.kind == kind && (!kind.qualified || (c.mask &&& bits) != 0)

/-- One signal at one counter: an increment that saturates at 4,294,967,295 (R174). -/
def Counter.count (kind : EventKind) (bits : BitVec 20) (c : Counter) : Counter :=
  if c.matches kind bits then { c with value := min (c.value + 1) 4294967295 } else c

/-- Signals an event to the Event Counters (R174). -/
def State.signal (s : State) (kind : EventKind) (bits : BitVec 20) : State :=
  { s with evc := s.evc.map (Counter.count kind bits) }

/-- Signals LINK_ERROR: check 0, framing 1, malformed pulse 2, stray 3, duplicate rank 4, overflow 5 (spec 11.3). -/
def State.linkError (s : State) (qualifier : Nat) : State := s.signal .linkError (qualifierBit qualifier)

/-! ### The message queue -/

/-- Whether a message placed now is dropped (R84). -/
def State.messageQueueFull (s : State) : Bool := 8 ≤ s.fli.messages.length

/-- Places a message at the tail of the message queue, or drops it, sets TX_OVERFLOW and signals overflow (R84). -/
def State.queueMessage (s : State) (m : QueuedMessage) : State :=
  if s.messageQueueFull then { s with fli.txOverflow := true }.linkError 5
  else { s with fli.messages := s.fli.messages ++ [m] }

/-- Places a message that no restart waits for. -/
def State.send (s : State) (m : Message) : State := s.queueMessage { message := m, restart := false }

/-- Places a REPLY (R166). -/
def State.reply (s : State) (tag kind : Byte) (code : ReplyCode) : State := s.send (.reply tag kind code)

/-! ### The notice queue -/

/-- Whether two notices are of one kind (R56). -/
def Notice.sameKind : Notice → Notice → Bool
  | .hello _, .hello _ => true
  | .claim _, .claim _ => true
  | .release _, .release _ => true
  | .holdoff _, .holdoff _ => true
  | _, _ => false

/-- Whether a notice is a CLAIM. -/
def Notice.isClaim : Notice → Bool
  | .claim _ => true
  | _ => false

/-- Whether a notice is a HOLDOFF. -/
def Notice.isHoldoff : Notice → Bool
  | .holdoff _ => true
  | _ => false

/-- A notice placed in a queue: it replaces a queued notice of its kind in that one's place, and else joins the tail
(R56, R83). -/
def placeNotice (n : Notice) (queue : List Notice) : List Notice :=
  if queue.any n.sameKind then queue.map fun q => if n.sameKind q then n else q
  else queue ++ [n]

/-- Places a notice in the notice queue (R56). -/
def State.queueNotice (s : State) (n : Notice) : State :=
  { s with fli.notices := placeNotice n s.fli.notices }

/-- Whether a CLAIM stands in the notice queue (R57). -/
def State.claimQueued (s : State) : Bool := s.fli.notices.any Notice.isClaim

/-- Whether a HOLDOFF stands in the notice queue (R71). -/
def State.holdoffQueued (s : State) : Bool := s.fli.notices.any Notice.isHoldoff

/-- Removes a CLAIM from the notice queue without a count (R61, R83). -/
def State.removeClaim (s : State) : State :=
  { s with fli.notices := s.fli.notices.filter fun n => !n.isClaim }

/-- Removes a HOLDOFF from the notice queue without a count (R83). -/
def State.removeHoldoff (s : State) : State :=
  { s with fli.notices := s.fli.notices.filter fun n => !n.isHoldoff }

/-- Withdraws a queued CLAIM, with a WITHDRAWN event of kind CLAIM when one was queued (R54, R57, R77). -/
def State.withdrawClaim (s : State) : State :=
  if s.claimQueued then s.removeClaim.signal .withdrawn (qualifierBit 0) else s

/-- Withdraws a queued HOLDOFF, with a WITHDRAWN event of kind HOLDOFF when one was queued (R71, R77). -/
def State.withdrawHoldoff (s : State) : State :=
  if s.holdoffQueued then s.removeHoldoff.signal .withdrawn (qualifierBit 1) else s

/-- Whether a frame of the transmitter is a notice of which `p` holds. -/
def Transmission.noticeIs (p : Notice → Bool) (t : Transmission) : Bool :=
  match t.frame with
  | .notice n => p n
  | .message _ => false

/-- Marks the frame in the transmitter stale when it is a notice of which `p` holds (R61, R71, R72, R81). -/
def State.markStale (s : State) (p : Notice → Bool) : State :=
  { s with fli.transmitter := s.fli.transmitter.map fun t => if t.noticeIs p then { t with stale := true } else t }

/-! ### The impression map -/

/-- The entry of a site id (R7). -/
def Store.entry? (st : Store) (site : Nat) : Option Entry := st.map.find? fun e => e.fields.site == site

/-- Rewrites the entry of a site id. -/
def Store.update (st : Store) (site : Nat) (f : Entry → Entry) : Store :=
  { st with map := st.map.map fun e => if e.fields.site = site then f e else e }

/-- The measure list: exactly the entries whose outcome is AWAITING_MEASURE, in map order, by site id (R13). -/
def Store.measureList (st : Store) : List Nat :=
  (st.map.filter fun e => e.outcome == .awaitingMeasure).map fun e => e.fields.site

/-- The site id a queued item carries. -/
def Item.site : Item → Nat
  | .indent i => i.fields.site
  | .remeasure id => id

/-- Whether an item is an INDENT item of a site id. -/
def Item.isIndentOf (site : Nat) : Item → Bool
  | .indent i => i.fields.site == site
  | .remeasure _ => false

/-- Whether an item is a REMEASURE item. -/
def Item.isRemeasure : Item → Bool
  | .indent _ => false
  | .remeasure _ => true

/-- The site id of what is current. -/
def Work.site : Work → Nat
  | .indent i => i.fields.site
  | .remeasure id => id
  | .listed id => id

/-- The site fields of what is current: the item's own, or those recorded in the entry it names (R2, R40). -/
def State.fieldsOf (s : State) (w : Work) : Option SiteFields :=
  match w with
  | .indent i => some i.fields
  | .remeasure id => (s.sst.entry? id).map (·.fields)
  | .listed id => (s.sst.entry? id).map (·.fields)

/-! ### The carriage's axes -/

/-- Whether X is under way: not once it is home in a homing, nor in a move that does not displace it (R100, R101). -/
def Mot.movesX (m : Mot) : Bool :=
  match m.carriageActivity with
  | .idle => false
  | .homing xHome _ => !xHome
  | .moving x _ => x != m.x

/-- Whether Y is under way (R100, R101). -/
def Mot.movesY (m : Mot) : Bool :=
  match m.carriageActivity with
  | .idle => false
  | .homing _ yHome => !yHome
  | .moving _ y => y != m.y

/-! ### Profile slots -/

/-- The state of a profile slot. -/
def Mea.get (m : Mea) : SlotName → ProfileSlot
  | .a => m.slotA
  | .b => m.slotB

/-- Sets a profile slot. -/
def Mea.set (m : Mea) (n : SlotName) (p : ProfileSlot) : Mea :=
  match n with
  | .a => { m with slotA := p }
  | .b => { m with slotB := p }

/-- Whether a slot is FREE. -/
def ProfileSlot.isFree : ProfileSlot → Bool
  | .free => true
  | _ => false

/-- The slot a reservation takes: A when both are FREE (R144, R151). -/
def Mea.freeSlot? (m : Mea) : Option SlotName :=
  if m.slotA.isFree then some .a else if m.slotB.isFree then some .b else none

end Sys2Proof.Machine
end

