-- ==== Sys2Proof/Machine/Force.lean ====
section
/-!
DEFINITION. The Force Unit (chapter 6) as functions of its record: readings, the force states' tests, the ends of a hold,
the withdrawals, stop orders and timeouts. Each answers the new record and the reports the unit makes.
-/

namespace Sys2Proof.Machine

/-- What the unit reports to the Cycle Controller (6.11). -/
inductive ForceReport where
  | contact
  | strokeExhausted
  | overload (afterContact : Bool)
  | forceDisagree
  | lostContact
  | holdResults (outsideTolerance untraceable : Bool)
  | sensorOpen
  | unloadTimeout
  | retractTimeout
  | retracted
  deriving DecidableEq, Repr

/-! ### Readings (R110) -/

/-- A calibrated reading in mN, clamped into -200,000..200,000 (R110). -/
def calibrate (raw zero : Int) (gain : Nat) : Int :=
  clampInt (-200000) 200000 (((raw - zero) * gain + 32768) / 65536)

/-- The readings of the last pair under the tare held; absent while none is held (R110). -/
def Frc.calibrated (f : Frc) (c : ConfigImage) (p q : Int) : Frc :=
  { f with
    primary := f.tare.map fun z => calibrate p z.1 c.primaryGain
    check := f.tare.map fun z => calibrate q z.2 c.checkGain }

/-- A sample pair taken: its raw samples and readings are recorded (R97, R110). -/
def Frc.record (f : Frc) (c : ConfigImage) (p q : Int) : Frc :=
  { f with rawPrimary := some p, rawCheck := some q }.calibrated c p q

/-- The primary reading as the monitors use it; a tare is held whenever they run. -/
def Frc.reading (f : Frc) : Int := f.primary.getD 0

/-- The check reading as the monitors use it. -/
def Frc.checkReading (f : Frc) : Int := f.check.getD 0

/-! ### Beginning a cycle (R113) -/

/-- The three thresholds formed from the nominal force (R113). -/
def ConfigImage.forceCycle (c : ConfigImage) (force dwell : Nat) (loadTime : Option Nat) : ForceCycle where
  force := force
  dwell := dwell
  loadTime := loadTime.getD c.defaultLoadTime
  contactAt := max 5 (force * c.contactPermille / 1000)
  overloadAt := force + max 20 (force * c.overloadPermille / 1000)
  crossLimit := max 5 (force * c.crossCheckPermille / 1000)

/-- The start of a cycle: the accumulators, the disagreement run and the set-point are cleared and TARE is entered (R113). -/
def Frc.startCycle (f : Frc) (k : ForceCycle) : Frc :=
  { f with
    state := .tare
    cycle := some k
    contact := false
    setPoint := 0
    pairs := 0
    sumPrimary := 0
    sumCheck := 0
    holdTicks := 0
    holdSum := 0
    holdSamples := 0
    holdSource := none
    disagreement := 0 }

/-! ### The stroke -/

/-- The retract speed: 2,000 nm per tick (R111). -/
def retractSpeed : Nat := 2000

/-- The stroke withdrawn at the retract speed, at most to 0 (R123, R124). -/
def Frc.withdrawn (f : Frc) : Frc := { f with stroke := f.stroke.map (· - retractSpeed) }

/-- One step of the force loop: advance below the set-point, withdraw above it, within 0..stroke length (R112). -/
def Frc.loopStep (f : Frc) (c : ConfigImage) : Frc :=
  if f.reading < f.setPoint then
    { f with stroke := f.stroke.map fun z => min (z + c.forceLoopStep) (c.strokeLength * 1000) }
  else if (f.setPoint : Int) < f.reading then { f with stroke := f.stroke.map (· - c.forceLoopStep) }
  else f

/-- Whether the force loop runs in a state (R112). -/
def ForceState.looped : ForceState → Bool
  | .load | .hold | .unload => true
  | _ => false

/-! ### Withdrawals (R122 to R124) -/

/-- The drive a retract begins with: FREE_TEST from home, RUNNING from a known position, HOME_DRIVE from an unknown one
(R124). -/
def Frc.firstDrive (f : Frc) : RetractDrive :=
  match f.stroke with
  | none => .homeDrive
  | some 0 => .freeTest
  | some _ => .running

/-- RETRACT entered, with its deadline 2,000 ms ahead and the test current off (R114, R124, R125). -/
def Frc.enterRetract (f : Frc) (now : Time) : Frc :=
  { f with
    state := .retract
    drive := f.firstDrive
    setPoint := 0
    pairs := 0
    testCurrent := false
    deadline := some { setAt := now, interval := 2000 } }

/-- FAST_UNLOAD entered, with its deadline 2,000 ms ahead (R123). The disagreement run of a hold ends with it (R118). -/
def Frc.enterFastUnload (f : Frc) (now : Time) : Frc :=
  { f with
    state := .fastUnload
    setPoint := 0
    pairs := 0
    disagreement := 0
    deadline := some { setAt := now, interval := 2000 } }

/-- UNLOAD entered at the pair at which HOLD ended, its pair 0 (R122). The disagreement run ends with the hold (R118). -/
def Frc.enterUnload (f : Frc) (c : ConfigImage) (k : ForceCycle) (now : Time) : Frc :=
  { f with
    state := .unload
    setPoint := k.force
    pairs := 0
    disagreement := 0
    deadline := some { setAt := now, interval := c.unloadTime + 2000 } }

/-! ### The end of a hold (R120, R134) -/

/-- The mean hold force of the accumulators; absent when no hold sample was taken (R120; log 42). -/
def Frc.holdMean (f : Frc) : Option Nat :=
  if f.holdSamples = 0 then none
  else some ((f.holdSum + (f.holdSamples / 2 : Nat)) / (f.holdSamples : Int)).toNat

/-- Whether a mean lies outside the tolerance (R120). -/
def outsideTolerance (permille force : Nat) (mean : Option Nat) : Bool :=
  match mean with
  | none => false
  | some m => permille * force < ((m : Int) - force).natAbs * 1000

/-- Whether two neighbours of a list of marks differ (R134). -/
def marksChange : List TickSource → Bool
  | a :: b :: rest => a != b || marksChange (b :: rest)
  | _ => false

/-- Whether a hold-source record calls for DWELL_UNTRACEABLE (R134). -/
def HoldSource.untraceable (h : HoldSource) : Bool :=
  h.marks.contains .internal || marksChange (h.marks ++ [h.opening]) || (h.marks.isEmpty && h.opening == .internal)

/-- The end-of-hold results of the accumulators (R120). -/
def Frc.holdReport (f : Frc) (c : ConfigImage) : ForceReport :=
  .holdResults
    (match f.cycle with
      | some k => outsideTolerance c.tolerancePermille k.force f.holdMean
      | none => false)
    (match f.holdSource with
      | some h => h.untraceable
      | none => false)

/-- The hold results, when the state is HOLD (R120, R121, R125, R126). -/
def Frc.cutHold (f : Frc) (c : ConfigImage) : List ForceReport :=
  if f.state = .hold then [f.holdReport c] else []

/-! ### The tests of a sample pair, state by state -/

/-- Whether either reading is above the overload threshold (R121). -/
def Frc.overloaded (f : Frc) (k : ForceCycle) : Bool :=
  decide ((k.overloadAt : Int) < f.reading) || decide ((k.overloadAt : Int) < f.checkReading)

/-- An overload: the report by whether contact was reached, R120 if the state was HOLD, and FAST_UNLOAD (R121). Its withdrawal
and its end test begin with the next pair, which the spec leaves open (DESIGN CHOICE, log 26). -/
def Frc.overload (f : Frc) (c : ConfigImage) (now : Time) : Frc × List ForceReport :=
  (f.enterFastUnload now, f.cutHold c ++ [.overload f.contact])

/-- One tare pair; the 64th forms the zeros and enters WIRE_TEST (R113; log 27). -/
def Frc.tarePair (f : Frc) (c : ConfigImage) (p q : Int) : Frc :=
  let g := { f with pairs := f.pairs + 1, sumPrimary := f.sumPrimary + p, sumCheck := f.sumCheck + q }
  if g.pairs = 64 then
    { g with
      tare := some ((g.sumPrimary + 32) / 64, (g.sumCheck + 32) / 64)
      state := .wireTest
      pairs := 0
      sumPrimary := 0
      sumCheck := 0
      testCurrent := true }.calibrated c p q
  else g

/-- Whether a shift of the open-wire test lies within its window (R114). -/
def ConfigImage.shiftGood (c : ConfigImage) (sum zero : Int) : Bool :=
  decide (c.owMin ≤ (sum + 16) / 32 - zero) && decide ((sum + 16) / 32 - zero ≤ c.owMax)

/-- Whether the bridge is whole (R114). -/
def Frc.bridgeWhole (f : Frc) (c : ConfigImage) : Bool :=
  match f.tare with
  | some (zp, zq) => c.shiftGood f.sumPrimary zp && c.shiftGood f.sumCheck zq
  | none => false

/-- One pair of the open-wire test (R114). -/
def Frc.wirePair (f : Frc) (c : ConfigImage) (p q : Int) (now : Time) : Frc × List ForceReport :=
  let n := f.pairs + 1
  if n < 32 then ({ f with pairs := n, sumPrimary := f.sumPrimary + p, sumCheck := f.sumCheck + q }, [])
  else if n = 32 then
    let g := { f with
      pairs := n, sumPrimary := f.sumPrimary + p, sumCheck := f.sumCheck + q, testCurrent := false }
    if g.bridgeWhole c then (g, []) else (g.enterRetract now, [.sensorOpen])
  else if n < 40 then ({ f with pairs := n }, [])
  else ({ f with state := .approach, pairs := 0 }, [])

/-- One pair of the approach: contact, overload, stroke, advance (R115). -/
def Frc.approachPair (f : Frc) (c : ConfigImage) (k : ForceCycle) (now : Time) : Frc × List ForceReport :=
  if (k.contactAt : Int) ≤ f.reading then
    let g := { f with contact := true, state := .load, pairs := 0, setPoint := k.contactAt }
    if g.overloaded k then
      match g.overload c now with
      | (h, reports) => (h, .contact :: reports)
    else (g, [.contact])
  else if f.overloaded k then f.overload c now
  else if f.stroke = some (c.strokeLength * 1000) then (f.enterRetract now, [.strokeExhausted])
  else ({ f with stroke := f.stroke.map fun z => min (z + c.approachSpeed) (c.strokeLength * 1000) }, [])

/-- One pair of the load ramp; pair T enters HOLD with its tick's mark as the opening mark (R116, R134). -/
def Frc.loadPair (f : Frc) (c : ConfigImage) (k : ForceCycle) (mark : TickSource) (now : Time) :
    Frc × List ForceReport :=
  let t := f.pairs + 1
  let g := { f with pairs := t, setPoint := k.contactAt + (k.force - k.contactAt) * t / k.loadTime }
  if g.overloaded k then g.overload c now
  else if t = k.loadTime then
    ({ g with state := .hold, pairs := 0, holdSource := some { opening := mark, marks := [] } }, [])
  else (g, [])

/-- A hold tick counted, with its mark (R117). -/
def Frc.countHold (f : Frc) (mark : TickSource) : Frc :=
  { f with
    holdTicks := f.holdTicks + 1
    holdSource := f.holdSource.map fun h => { h with marks := mark :: h.marks } }

/-- The sample accumulated (R117, test 3). -/
def Frc.accumulate (f : Frc) : Frc :=
  { f with holdSamples := f.holdSamples + 1, holdSum := f.holdSum + f.reading }

/-- The cross-check of an accumulated pair: the run, which stays at 3, and the report when it first reaches 3 (R118). -/
def Frc.crossCheck (f : Frc) (k : ForceCycle) : Frc × List ForceReport :=
  if (k.crossLimit : Int) < (f.reading - f.checkReading).natAbs then
    ({ f with disagreement := min (f.disagreement + 1) 3 },
      if f.disagreement = 2 then [.forceDisagree] else [])
  else if f.disagreement = 3 then (f, [])
  else ({ f with disagreement := 0 }, [])

/-- One hold pair: overload, lost contact, accumulation, cross-check, and the end by dwell (R117 to R120). -/
def Frc.holdPair (f : Frc) (c : ConfigImage) (k : ForceCycle) (mark : TickSource) (now : Time) :
    Frc × List ForceReport :=
  let g := f.countHold mark
  if g.overloaded k then g.overload c now
  else if g.reading < k.contactAt then (g.enterUnload c k now, [.lostContact, g.holdReport c])
  else
    match g.accumulate.crossCheck k with
    | (h, reports) =>
      if h.holdTicks = k.dwell then (h.enterUnload c k now, reports ++ [h.holdReport c]) else (h, reports)

/-- The falling set-point of unload pair u (R122). -/
def unloadSetPoint (c : ConfigImage) (k : ForceCycle) (u : Nat) : Nat := k.force - k.force * min u c.unloadTime / c.unloadTime

/-- One unload pair: overload, then the end of the unload (R122). -/
def Frc.unloadPair (f : Frc) (c : ConfigImage) (k : ForceCycle) (now : Time) : Frc × List ForceReport :=
  let u := f.pairs + 1
  let g := { f with pairs := u, setPoint := unloadSetPoint c k u }
  if g.overloaded k then g.overload c now
  else if g.setPoint = 0 ∧ 2 * g.reading < k.contactAt then (g.enterRetract now, [])
  else (g, [])

/-- One pair of the fast unload: the stroke withdraws, and a low reading ends it (R123; log 26). -/
def Frc.fastUnloadPair (f : Frc) (k : ForceCycle) (now : Time) : Frc :=
  if 2 * f.reading < k.contactAt then f.withdrawn.enterRetract now else f.withdrawn

/-- Whether a raw sample lies within the free window (R124). -/
def ConfigImage.free (c : ConfigImage) (raw : Int) : Bool := decide (c.freeMin ≤ raw) && decide (raw ≤ c.freeMax)

/-- The free test passed: RETRACTED, with the cycle, contact and deadline cleared (R124). -/
def Frc.becomeRetracted (f : Frc) : Frc :=
  { f with state := .retracted, cycle := none, contact := false, deadline := none, pairs := 0 }

/-- One pair of the free test (R124). -/
def Frc.freePair (f : Frc) (c : ConfigImage) (p q : Int) : Frc × List ForceReport :=
  if c.free p && c.free q then
    if f.pairs + 1 = 8 then (f.becomeRetracted, [.retracted]) else ({ f with pairs := f.pairs + 1 }, [])
  else ({ f with pairs := 0 }, [])

/-- One pair of RETRACT, by its drive (R124). -/
def Frc.retractPair (f : Frc) (c : ConfigImage) (p q : Int) : Frc × List ForceReport :=
  match f.drive with
  | .running =>
    if f.withdrawn.stroke = some 0 then ({ f.withdrawn with drive := .freeTest, pairs := 0 }, [])
    else (f.withdrawn, [])
  | .homeDrive =>
    if f.pairs + 1 = 1000 then ({ f with stroke := some 0, drive := .freeTest, pairs := 0 }, [])
    else ({ f with pairs := f.pairs + 1 }, [])
  | .freeTest => f.freePair c p q
  | .stopped => (f, [])

/-- The tests of a pair in the states that have a cycle in hand (R112). -/
def Frc.cyclePair (f : Frc) (c : ConfigImage) (k : ForceCycle) (mark : TickSource) (now : Time) :
    Frc × List ForceReport :=
  match f.state with
  | .approach => f.approachPair c k now
  | .load => f.loadPair c k mark now
  | .hold => f.holdPair c k mark now
  | .unload => f.unloadPair c k now
  | .fastUnload => (f.fastUnloadPair k now, [])
  | _ => (f, [])

/-- The force loop's move after the tests of a pair: in LOAD, HOLD and UNLOAD, not at the contact pair and not at a pair that
leaves those states (R112; log 25). -/
def Frc.afterTests (f : Frc) (c : ConfigImage) (before : ForceState) : Frc :=
  if before.looped && f.state.looped then f.loopStep c else f

/-- The tests of a pair, by the force state (R112). -/
def Frc.testPair (f : Frc) (c : ConfigImage) (p q : Int) (mark : TickSource) (now : Time) : Frc × List ForceReport :=
  match f.state with
  | .idle => (f, [])
  | .tare => (f.tarePair c p q, [])
  | .wireTest => f.wirePair c p q now
  | .retract => f.retractPair c p q
  | .retracted => (f, [])
  | _ =>
    match f.cycle with
    | some k => match f.cyclePair c k mark now with
      | (g, reports) => (g.afterTests c f.state, reports)
    | none => (f, [])

/-- One sample pair, whole (R110, R112). No sample is taken in IDLE. -/
def Frc.takePair (f : Frc) (c : ConfigImage) (p q : Int) (mark : TickSource) (now : Time) : Frc × List ForceReport :=
  if f.state = .idle then (f, []) else (f.record c p q).testPair c p q mark now

/-! ### Timeouts (R122 to R124) -/

/-- UNLOAD's deadline: the timeout is reported and FAST_UNLOAD is entered (R122). -/
def Frc.unloadTimeout (f : Frc) (now : Time) : Frc × List ForceReport :=
  if f.state = .unload ∧ due f.deadline now then (f.enterFastUnload now, [.unloadTimeout]) else (f, [])

/-- FAST_UNLOAD's deadline: the timeout is reported and RETRACT is entered (R123). -/
def Frc.fastUnloadTimeout (f : Frc) (now : Time) : Frc × List ForceReport :=
  if f.state = .fastUnload ∧ due f.deadline now then (f.enterRetract now, [.unloadTimeout]) else (f, [])

/-- RETRACT's deadline: the timeout is reported and the drive stops; that the deadline is none from then on is the model's
choice (R124; log 47). -/
def Frc.retractTimeout (f : Frc) (now : Time) : Frc × List ForceReport :=
  if f.state = .retract ∧ due f.deadline now then
    ({ f with drive := .stopped, deadline := none }, [.retractTimeout])
  else (f, [])

/-! ### Stop orders and HALT (R125, R126) -/

/-- A stop order on ABORT_SITE (R125). -/
def Frc.stopForAbort (f : Frc) (c : ConfigImage) (now : Time) : Frc × List ForceReport :=
  match f.state with
  | .tare | .wireTest | .approach => (f.enterRetract now, [])
  | .load | .hold | .unload => (f.enterFastUnload now, f.cutHold c)
  | _ => (f, [])

/-- A stop order on a station fault (R125). -/
def Frc.stopForFault (f : Frc) (c : ConfigImage) (now : Time) : Frc × List ForceReport :=
  match f.state with
  | .tare | .wireTest => (f.enterRetract now, [])
  | .approach | .load | .hold | .unload => (f.enterFastUnload now, f.cutHold c)
  | _ => (f, [])

/-- A HALT pulse (R109, R126): withdrawn as for a fault; the set-point and the disagreement run become 0. -/
def Frc.halt (f : Frc) (c : ConfigImage) (now : Time) : Frc × List ForceReport :=
  match f.stopForFault c now with
  | (g, reports) => ({ g with setPoint := 0, disagreement := 0 }, reports)

end Sys2Proof.Machine
end

