-- ==== Sys2Proof/Machine/Motion.lean ====
section
/-!
DEFINITION. The Motion Unit (chapter 5) as functions of its record: the pieces of a sequence and the interlock, the
completions of homings and moves, fine steps, settle, deadlines, stop orders and the coming to rest.
-/

namespace Sys2Proof.Machine

/-- What the unit reports of a sequence or a deadline (R96, R97, R106). -/
inductive MotionReport where
  | sequenceDone
  | failed (cause : FaultCause)
  deriving DecidableEq, Repr

/-! ### The interlock (R97) -/

/-- Whether a raw sample is there and lies in the free window. -/
def ConfigImage.freeSample (c : ConfigImage) (raw : Option Int) : Bool :=
  match raw with
  | some r => c.free r
  | none => false

/-- The interlock test: RETRACTED, with both raw samples of the last pair in the free window (R97). -/
def Frc.interlockOpen (f : Frc) (c : ConfigImage) : Bool :=
  f.state == .retracted && c.freeSample f.rawPrimary && c.freeSample f.rawCheck

/-! ### Pieces (R96) -/

/-- The forward distance from slot `a` to slot `b` (R99). -/
def forwardDistance (a b : Nat) : Nat := if a < b then b - a else b + 6 - a

/-- Whether the shorter way round is the positive one; a tie goes positive (R99). -/
def goesPositive (f : Nat) : Bool := f ≤ 3

/-- The slots passed on the shorter way (R99). -/
def slotsPassed (f : Nat) : Nat := if f ≤ 3 then f else 6 - f

/-- Whether a piece needs no motion: it is passed over, or completes at once (R96). -/
def Mot.needsNothing (m : Mot) : Piece → Bool
  | .homeZ => m.zHomed
  | .homeTurret => m.turret.isSome
  | .homeCarriage => m.carriageHomed
  | .carriageTo x y => m.x == x && m.y == y
  | .indexTo slot => m.turret == some slot
  | .rapidTo z => m.z == z
  | .settle => false

/-- The move deadline `interval` ms ahead. -/
def Mot.withDeadline (m : Mot) (now : Time) (interval : Nat) : Mot :=
  { m with moveDeadline := some { setAt := now, interval } }

/-- The drives as a piece starts them (R98 to R102). An index is made only from a known slot; an UNKNOWN turret is homed
first (R99). -/
def Mot.drive (m : Mot) (c : ConfigImage) (now : Time) : Piece → Mot
  | .homeZ => { m with zActivity := .homing }.withDeadline now c.homeTimeout
  | .homeTurret => { m with turretActivity := .homing }.withDeadline now 4000
  | .homeCarriage => { m with carriageActivity := .homing false false }.withDeadline now c.homeTimeout
  | .carriageTo x y => { m with carriageActivity := .moving x y }.withDeadline now c.moveTimeout
  | .indexTo slot =>
    match m.turret with
    | some a =>
      { m with
        turret := none
        turretActivity := .indexing slot (slotsPassed (forwardDistance a slot))
          (goesPositive (forwardDistance a slot)) }.withDeadline now 3000
    | none => { m with turretActivity := .homing }.withDeadline now 4000
  | .rapidTo z => { m with zActivity := .rapid z }.withDeadline now c.moveTimeout
  | .settle => m

/-- The pieces that stand in the sequence when a piece starts: an index from an UNKNOWN turret waits for its homing (R99). -/
def Mot.inHand (m : Mot) (p : Piece) (rest : List Piece) : List Piece :=
  match p, m.turret with
  | .indexTo slot, none => .homeTurret :: .indexTo slot :: rest
  | p, _ => p :: rest

/-- A start: made when the interlock is open, else refused, and the sequence ends with INTERLOCK (R97). -/
def Mot.startPiece (m : Mot) (c : ConfigImage) (open_ : Bool) (now : Time) (p : Piece) (rest : List Piece) :
    Mot × List MotionReport :=
  if open_ then ({ m with sequence := some (m.inHand p rest) }.drive c now p, [])
  else ({ m with sequence := none }, [.failed .interlock])

/-- Settle: ended at once for a settle time of 0 (R104). -/
def Mot.startSettle (m : Mot) (c : ConfigImage) (now : Time) : Mot × List MotionReport :=
  if c.settleTime = 0 then ({ m with sequence := none }, [.sequenceDone])
  else ({ m with sequence := some [.settle], settleEnd := some { setAt := now, interval := c.settleTime } }, [])

/-- The first piece that needs motion is started; the others before it are passed over (R96). -/
def Mot.runPieces (m : Mot) (c : ConfigImage) (open_ : Bool) (now : Time) : List Piece → Mot × List MotionReport
  | [] => ({ m with sequence := none }, [.sequenceDone])
  | .settle :: _ => m.startSettle c now
  | p :: rest => if m.needsNothing p then m.runPieces c open_ now rest else m.startPiece c open_ now p rest

/-- The piece in hand has completed: the deadline is cleared, no settle is under way, and the next piece starts (R96). -/
def Mot.nextPiece (m : Mot) (c : ConfigImage) (open_ : Bool) (now : Time) : Mot × List MotionReport :=
  match m.sequence with
  | some (_ :: rest) => { m with moveDeadline := none, settleEnd := none }.runPieces c open_ now rest
  | _ => ({ m with moveDeadline := none }, [])

/-! ### Completions (R98 to R102); none is acted on while the axes are being stopped (R105) -/

/-- TU_HOME with TU_IDX: the turret is on slot 0 (R98). -/
def Mot.turretHome (m : Mot) (c : ConfigImage) (open_ : Bool) (now : Time) : Mot × List MotionReport :=
  if m.turretActivity = .homing ∧ m.stopping = false then
    { m with turret := some 0, turretActivity := .idle }.nextPiece c open_ now
  else (m, [])

/-- TU_IDX confirmed after a count of edges equal to the slots to be passed (R99). -/
def Mot.indexDone (m : Mot) (c : ConfigImage) (open_ : Bool) (now : Time) (edges : Nat) : Mot × List MotionReport :=
  match m.turretActivity with
  | .indexing target slots _ =>
    if edges = slots ∧ m.stopping = false then
      { m with turret := some target, turretActivity := .idle }.nextPiece c open_ now
    else (m, [])
  | _ => (m, [])

/-- Both carriage axes home (R100). -/
def Mot.carriageHome (m : Mot) (c : ConfigImage) (open_ : Bool) (now : Time) : Mot × List MotionReport :=
  { m with carriageHomed := true, carriageActivity := .idle }.nextPiece c open_ now

/-- One carriage axis asserts its home input (R100). -/
def Mot.axisHome (m : Mot) (c : ConfigImage) (open_ : Bool) (now : Time) (a : Axis) : Mot × List MotionReport :=
  match m.carriageActivity, a with
  | .homing false yHome, .x =>
    if m.stopping then (m, [])
    else if yHome then { m with x := c.xHome }.carriageHome c open_ now
    else ({ m with x := c.xHome, carriageActivity := .homing true false }, [])
  | .homing xHome false, .y =>
    if m.stopping then (m, [])
    else if xHome then { m with y := c.yHome }.carriageHome c open_ now
    else ({ m with y := c.yHome, carriageActivity := .homing false true }, [])
  | _, _ => (m, [])

/-- CX_INP and CY_INP at the targets (R101). -/
def Mot.carriageDone (m : Mot) (c : ConfigImage) (open_ : Bool) (now : Time) : Mot × List MotionReport :=
  match m.carriageActivity with
  | .moving x y =>
    if m.stopping then (m, []) else { m with x := x, y := y, carriageActivity := .idle }.nextPiece c open_ now
  | _ => (m, [])

/-- Z_HOME: Z is at 500,000 (R102). -/
def Mot.zHome (m : Mot) (c : ConfigImage) (open_ : Bool) (now : Time) : Mot × List MotionReport :=
  if m.zActivity = .homing ∧ m.stopping = false then
    { m with z := 500000, zHomed := true, zActivity := .idle }.nextPiece c open_ now
  else (m, [])

/-- Z_INP at the target of a rapid move (R102). -/
def Mot.rapidDone (m : Mot) (c : ConfigImage) (open_ : Bool) (now : Time) : Mot × List MotionReport :=
  match m.zActivity with
  | .rapid z => if m.stopping then (m, []) else { m with z := z, zActivity := .idle }.nextPiece c open_ now
  | _ => (m, [])

/-- Settle end reached (R104). -/
def Mot.settleDone (m : Mot) (now : Time) : Mot × List MotionReport :=
  if due m.settleEnd now then ({ m with settleEnd := none, sequence := none }, [.sequenceDone]) else (m, [])

/-! ### Fine steps (R103) -/

/-- A fine step's target clamped into the Z range (R103). -/
def fineTarget (target : Int) : Nat := (clampInt 0 500000 target).toNat

/-- A fine step asked for: the new record, and the height reached when it completes at once (R103). A step is taken only
with Z homed and idle. -/
def Mot.fineStep (m : Mot) (c : ConfigImage) (now : Time) (target : Int) : Mot × Option Nat :=
  if m.zHomed ∧ m.zActivity = .idle ∧ m.stopping = false then
    if m.z = fineTarget target then (m, some m.z)
    else ({ m with zActivity := .fine (fineTarget target) }.withDeadline now c.moveTimeout, none)
  else (m, none)

/-- Whether a fine step is under way (R148). -/
def Mot.stepping (m : Mot) : Bool :=
  match m.zActivity with
  | .fine _ => true
  | _ => false

/-- Z_INP at the target of a fine step: the new record and the height reached (R103). -/
def Mot.fineDone (m : Mot) : Mot × Option Nat :=
  match m.zActivity with
  | .fine z => if m.stopping then (m, none) else ({ m with z := z, zActivity := .idle, moveDeadline := none }, some z)
  | _ => (m, none)

/-! ### Stops (R105, R107, R108) -/

/-- Whether any axis is moving. -/
def Mot.moving (m : Mot) : Bool :=
  m.turretActivity != .idle || m.carriageActivity != .idle || m.zActivity != .idle

/-- A stop: the sequence, a settle and the move deadline end, and every moving axis is brought to rest. The Bool is true when
nothing was moving, so that the stop is complete at once. A stop taken while stopping changes nothing (R105). -/
def Mot.stop (m : Mot) : Mot × Bool :=
  if m.stopping then (m, false)
  else ({ m with sequence := none, settleEnd := none, moveDeadline := none, stopping := m.moving }, !m.moving)

/-- Every axis still (R105): the counted positions stand for the axes that moved; the turret that was homing or indexing is
UNKNOWN, and an axis whose homing was cut short is unhomed. -/
def Mot.rest (m : Mot) (x y : Int) (z : Nat) : Mot :=
  { m with
    stopping := false
    turret := if m.turretActivity = .idle then m.turret else none
    turretActivity := .idle
    x := if m.movesX then x else m.x
    y := if m.movesY then y else m.y
    carriageHomed := match m.carriageActivity with
      | .homing _ _ => false
      | _ => m.carriageHomed
    carriageActivity := .idle
    z := if m.zActivity = .idle then m.z else z
    zHomed := if m.zActivity = .homing then false else m.zHomed
    zActivity := .idle }

/-! ### Deadlines (R106) -/

/-- The cause a reached deadline gives: HOME_FAILED for a homing, MOTION_TIMEOUT for a move (R98 to R103, R106). -/
def Mot.timeoutCause (m : Mot) : FaultCause :=
  if m.turretActivity = .homing ∨ m.zActivity = .homing then .homeFailed
  else match m.carriageActivity with
    | .homing _ _ => .homeFailed
    | _ => .motionTimeout

/-- The state of the axis that timed out: the turret UNKNOWN, the carriage or Z unhomed (R98 to R103, R106). -/
def Mot.timedOut (m : Mot) : Mot :=
  { m with
    turret := if m.turretActivity = .idle then m.turret else none
    carriageHomed := if m.carriageActivity = .idle then m.carriageHomed else false
    zHomed := if m.zActivity = .idle then m.zHomed else false }

/-- The move deadline reached: the axis is marked, every axis is stopped and the fault is reported (R106). -/
def Mot.deadlineReached (m : Mot) (now : Time) : Mot × List MotionReport :=
  if due m.moveDeadline now then (m.timedOut.stop.1, [.failed m.timeoutCause]) else (m, [])

/-! ### Sequences (R38, R41) -/

/-- The homings a sequence begins with, in the order Z, turret, carriage (R96). -/
def homings : List Piece := [.homeZ, .homeTurret, .homeCarriage]

/-- TO_SITE's sequence (R38). -/
def ConfigImage.siteSequence (c : ConfigImage) (f : SiteFields) : List Piece :=
  homings ++
    [.carriageTo (f.x - (c.slot f.indenter).offset.1) (f.y - (c.slot f.indenter).offset.2),
      .indexTo f.indenter,
      .rapidTo (match c.slot f.indenter with
        | .indenter r => r.standoff
        | _ => 0),
      .settle]

/-- TO_VIEW's sequence (R41). -/
def ConfigImage.viewSequence (c : ConfigImage) (f : SiteFields) : List Piece :=
  homings ++
    [.indexTo f.objective,
      .carriageTo (f.x - (c.slot f.objective).offset.1) (f.y - (c.slot f.objective).offset.2),
      .rapidTo (match c.slot f.objective with
        | .objective r => r.focusStart
        | _ => 0),
      .settle]

end Sys2Proof.Machine
end

