-- ==== Sys2Proof/Machine/Image.lean ====
section
/-!
DEFINITION. The Image Unit (chapter 8): the window and its profiles, sharpness, capture attempts, the focus search and
abandonment. Fine steps are asked of the Motion Unit's record, so the operations act on the whole state.
-/

namespace Sys2Proof.Machine

/-! ### From sensor frame to profiles (R138, R139) -/

/-- Whether a received line holds every pixel of a window row (R138). -/
def ObjectiveRecord.rowWhole (o : ObjectiveRecord) (lines : List (List Pixel)) (r : Nat) : Bool :=
  match lines[o.originRow + r]? with
  | some line => o.originColumn + o.width ≤ line.length
  | none => false

/-- Whether the lines received hold the whole window (R138). -/
def ObjectiveRecord.windowWhole (o : ObjectiveRecord) (lines : List (List Pixel)) : Bool :=
  (List.range o.height).all (o.rowWhole lines)

/-- The window's rows as pixel values: H rows of W pixels (R138). -/
def ObjectiveRecord.window (o : ObjectiveRecord) (lines : List (List Pixel)) : List (List Nat) :=
  ((lines.drop o.originRow).take o.height).map fun line =>
    ((line.drop o.originColumn).take o.width).map BitVec.toNat

/-- The first band row or band column of a side of the window (R139). -/
def bandStart (side band : Nat) : Nat := side / 2 - band / 2

/-- Ph: for each column, the sum of its pixels over the band rows (R139). -/
def horizontalProfile (o : ObjectiveRecord) (band : Nat) (window : List (List Nat)) : List Nat :=
  let rows := (window.drop (bandStart o.height band)).take band
  (List.range o.width).map fun c => (rows.map fun row => row.getD c 0).sum

/-- Pv: for each row, the sum of its pixels over the band columns (R139). -/
def verticalProfile (o : ObjectiveRecord) (band : Nat) (window : List (List Nat)) : List Nat :=
  window.map fun row => ((row.drop (bandStart o.width band)).take band).sum

/-- The sum of the steps between neighbours of a profile (R145). -/
def stepSum : List Nat → Nat
  | a :: b :: rest => ((b : Int) - a).natAbs + stepSum (b :: rest)
  | _ => 0

/-- The sharpness S of two profiles (R145). -/
def sharpness (ph pv : List Nat) : Nat := stepSum ph + stepSum pv

/-! ### The focus search (R144 to R146) -/

/-- The heights p_0 to p_(N_f - 1), from the highest to the lowest (R144). -/
def ObjectiveRecord.positions (o : ObjectiveRecord) : List Int :=
  (List.range o.focusCount).map fun i =>
    (o.focusStart : Int) + (((o.focusCount - 1) / 2 : Nat) - (i : Int)) * o.focusStep

/-- The record of the objective in use (R137). -/
def State.objectiveInUse (s : State) : Option ObjectiveRecord := s.img.objective.bind s.cfg.objective?

/-- A capture attempt begins: CAPTURE, with the working profiles cleared and 250 ms to wait for a frame (R141). -/
def State.beginAttempt (s : State) : State :=
  { s with
    img.state := .capture
    img.ph := []
    img.pv := []
    img.settleEnd := none
    img.frameWaitEnd := some (s.ahead 250) }

/-- A fine step reported: its height is recorded and the focus settle begins; a settle of 0 ends at the report (R145). -/
def State.stepReported (s : State) (z : Nat) : State :=
  let settle := match s.objectiveInUse with
    | some o => o.focusSettle
    | none => 0
  if settle = 0 then { s with img.reachedZ := z }.beginAttempt
  else { s with img.state := .settle, img.reachedZ := z, img.settleEnd := some (s.ahead settle) }

/-- A fine step asked of the Motion Unit (R103, R145). -/
def State.askStep (s : State) (target : Int) : State :=
  match s.mot.fineStep s.cfg s.now target with
  | (m, some z) => { s with mot := m, img.state := .step }.stepReported z
  | (m, none) => { s with mot := m, img.state := .step }

/-- A position of the list is taken in hand (R145). -/
def State.takePosition (s : State) (i : Nat) : State :=
  { s with img.index := i }.askStep ((s.img.positions.getD []).getD i 0)

/-- The IMAGE work begins: a FREE slot is reserved, the lamp is lit and the first position is taken in hand (R144). -/
def State.beginImage (s : State) (site slot : Nat) : State :=
  match s.mea.freeSlot?, s.cfg.objective? slot with
  | some name, some o =>
    { s with
      mea := s.mea.set name (.filling site)
      img :=
        { s.img with
          stage := .focus
          objective := some slot
          reserved := some name
          positions := some o.positions
          best := none
          attempt := 0
          illumination := o.illumination } }.takePosition 0
  | _, _ => s

/-- How the IMAGE work ends (R147). -/
inductive ImageEnding where
  | delivered (profiles : Profiles)
  | focusFailed
  | captureStall
  deriving DecidableEq, Repr

/-- The best position so far after a score; a tie goes to the position visited first (R145). -/
def Img.scored (i : Img) (score : Nat) : Option BestFocus :=
  match i.best with
  | some b =>
    if b.sharpness < score then some { index := i.index, z := i.reachedZ, sharpness := score } else some b
  | none => some { index := i.index, z := i.reachedZ, sharpness := score }

/-- After the last position: the final capture at the best height, or FOCUS_FAILED (R146). -/
def State.searchEnd (s : State) (o : ObjectiveRecord) : State × Option ImageEnding :=
  match s.img.best with
  | some b =>
    if b.sharpness < o.minSharpness then (s, some .focusFailed)
    else ({ s with img.stage := .final }.askStep b.z, none)
  | none => (s, some .focusFailed)

/-- A scored position of the focus search: the next position, or the end of the search (R145). -/
def State.positionScored (s : State) (o : ObjectiveRecord) (score : Nat) : State × Option ImageEnding :=
  let s := { s with img.best := s.img.scored score, img.ph := [], img.pv := [] }
  if s.img.index + 1 < o.focusCount then (s.takePosition (s.img.index + 1), none) else s.searchEnd o

/-- Whether a frame is being received for the attempt in hand (R141, R142). -/
def Img.receiving (i : Img) : Bool := i.state == .capture && i.frameWaitEnd.isNone

/-- A successful attempt with its two profiles (R141, R145, R147). -/
def State.attemptDone (s : State) (o : ObjectiveRecord) (ph pv : List Nat) : State × Option ImageEnding :=
  let s := { s with img.attempt := 0, img.ph := ph, img.pv := pv }
  match s.img.stage with
  | .focus => s.positionScored o (sharpness ph pv)
  | .final => (s, some (.delivered { width := o.width, height := o.height, ph := ph, pv := pv }))
  | .none => (s, none)

/-- The window complete in the lines received so far; no effect where a frame is not being received or a window pixel is
missing (R138, R141; log 5). -/
def State.windowReceived (s : State) (lines : List (List Pixel)) : State × Option ImageEnding :=
  match s.objectiveInUse with
  | some o =>
    if s.img.receiving && o.windowWhole lines then
      s.attemptDone o (horizontalProfile o s.cfg.band (o.window lines)) (verticalProfile o s.cfg.band (o.window lines))
    else (s, none)
  | none => (s, none)

/-- A failed attempt: a retry within the capture retries, else CAPTURE_STALL (R143). -/
def State.attemptFailed (s : State) : State × Option ImageEnding :=
  if s.img.attempt < s.cfg.captureRetries then
    (({ s with img.attempt := s.img.attempt + 1 }.signal .captureRetry 0).beginAttempt, none)
  else (s, some .captureStall)

/-- The reserved slot returns to FREE, if it is FILLING (R148). -/
def State.freeReserved (s : State) : State :=
  match s.img.reserved with
  | some name => match s.mea.get name with
    | .filling _ => { s with mea := s.mea.set name .free }
    | _ => s
  | none => s

/-- Abandonment from any state but IDLE and ENDING: the unit waits in ENDING for a fine step under way, and is IDLE
otherwise (R148). -/
def State.abandonImage (s : State) : State :=
  if s.img.state = .idle ∨ s.img.state = .ending then s
  else
    { s.freeReserved with
      img :=
        { s.img with
          state := if s.img.state = .step ∧ s.mot.stepping then .ending else .idle
          stage := .none
          reserved := none
          settleEnd := none
          frameWaitEnd := none
          illumination := 0 } }

/-- The record at the HALT values of R136; best so far is kept. -/
def Img.halted (i : Img) : Img :=
  { Img.reset with state := i.state, best := i.best, reachedZ := i.reachedZ }

/-- A HALT pulse at the unit: no change in IDLE (R149; log 29). -/
def State.haltImage (s : State) : State :=
  if s.img.state = .idle then s else { s.abandonImage with img := s.abandonImage.img.halted }

/-- The record when a RESTART takes effect (R136, R149). -/
def Img.restarted (i : Img) : Img := { Img.reset with best := i.best, reachedZ := i.reachedZ }

/-- The Motion Unit's stop has come to rest: ENDING becomes IDLE (R148, R149). -/
def Img.stopped (i : Img) : Img := if i.state = .ending then { i with state := .idle } else i

end Sys2Proof.Machine
end

