-- ==== Sys2Proof/Machine/Operands.lean ====
section
/-!
DEFINITION. Decoding what arrives in a frame: the fifteen terminal requests with their fields (spec 11.3, R175) and the four
notices (spec 11.2, R176).
-/

namespace Sys2Proof.Machine

/-- The site record a PLAN_SITE carries, as sent (spec 11.3). -/
structure PlanRecord where
  site : Nat
  x : Int
  y : Int
  indenter : Nat
  objective : Nat
  force : Nat
  dwell : Nat
  loadTime : Nat
  expected : Nat
  deriving DecidableEq, Repr

/-- The fifteen requests with their fields (spec 11.3). -/
inductive Request where
  | planSite (record : PlanRecord)
  | planRemeasure (site : Nat)
  | planWithdraw (site : Nat)
  | mapClear
  | start
  | pause
  | resume
  | abortSite
  | restart
  | refReselect
  | setMode (mode : WorkMode) (limit : Nat)
  | queryStatus (page : Nat)
  | queryEntry (site : Nat)
  | queryCounters
  | setCounter (index kind mask : Nat)
  deriving DecidableEq, Repr

/-- What decoding a request finds (R175). -/
inductive Decoded where
  | request (request : Request)
  | refusal (code : ReplyCode)
  deriving DecidableEq, Repr

/-- An unsigned field of a payload. -/
def fieldNat (payload : List Byte) (offset count : Nat) : Nat := natOfBytes ((payload.drop offset).take count)

/-- A signed field of a payload. -/
def fieldInt (payload : List Byte) (offset count : Nat) : Int := intOfBytes ((payload.drop offset).take count)

/-- The site record of a PLAN_SITE payload (spec 11.3). -/
def readPlanRecord (p : List Byte) : PlanRecord where
  site := fieldNat p 1 2
  x := fieldInt p 3 3
  y := fieldInt p 6 3
  indenter := fieldNat p 9 1
  objective := fieldNat p 10 1
  force := fieldNat p 11 3
  dwell := fieldNat p 14 3
  loadTime := fieldNat p 17 2
  expected := fieldNat p 19 3

/-- The payload length of a request kind (spec 11.3); `none` outside 10h..1Eh. -/
def requestLength (kind : Nat) : Option Nat :=
  match kind with
  | 0x10 => some 22
  | 0x11 => some 3
  | 0x12 => some 3
  | 0x13 => some 1
  | 0x14 => some 1
  | 0x15 => some 1
  | 0x16 => some 1
  | 0x17 => some 1
  | 0x18 => some 1
  | 0x19 => some 1
  | 0x1A => some 3
  | 0x1B => some 2
  | 0x1C => some 3
  | 0x1D => some 1
  | 0x1E => some 6
  | _ => none

/-- The fields of a request whose kind and length are right (R175, test 3). -/
def requestFields (kind : Nat) (p : List Byte) : Decoded :=
  match kind with
  | 0x10 => .request (.planSite (readPlanRecord p))
  | 0x11 => .request (.planRemeasure (fieldNat p 1 2))
  | 0x12 => .request (.planWithdraw (fieldNat p 1 2))
  | 0x13 => .request .mapClear
  | 0x14 => .request .start
  | 0x15 => .request .pause
  | 0x16 => .request .resume
  | 0x17 => .request .abortSite
  | 0x18 => .request .restart
  | 0x19 => .request .refReselect
  | 0x1A => match fieldNat p 1 1 with
    | 0 => .request (.setMode .perSite (fieldNat p 2 1))
    | 1 => .request (.setMode .batch (fieldNat p 2 1))
    | _ => .refusal .badValue
  | 0x1B => if fieldNat p 1 1 ≤ 5 then .request (.queryStatus (fieldNat p 1 1)) else .refusal .badValue
  | 0x1C => .request (.queryEntry (fieldNat p 1 2))
  | 0x1D => .request .queryCounters
  | 0x1E => .request (.setCounter (fieldNat p 1 1) (fieldNat p 2 1) (fieldNat p 3 3))
  | _ => .refusal .unknownKind

/-- The three decoding tests of a request in their order: kind, length, fields (R175). -/
def decodeRequest (kind : Byte) (payload : List Byte) : Decoded :=
  match requestLength kind.toNat with
  | none => .refusal .unknownKind
  | some n => if payload.length = n then requestFields kind.toNat payload else .refusal .badLength

/-- The tag of a request: its first payload byte, or 0 when the payload is empty (R175). -/
def requestTag (payload : List Byte) : Byte := payload.headD 0

/-- The requests that are taken from destination 15 (R167). -/
def Request.broadcast : Request → Bool
  | .start | .pause | .resume | .mapClear => true
  | _ => false

/-- Decodes a notice; `none` is undecodable (R176). -/
def decodeNotice (kind : Byte) (payload : List Byte) : Option Notice :=
  match payload with
  | [b] =>
    match kind.toNat with
    | 1 => (HelloCause.ofCode? b.toNat).map .hello
    | 2 => (ClaimKind.ofCode? b.toNat).map .claim
    | 3 => (ClaimKind.ofCode? b.toNat).map .release
    | 4 => (ClaimKind.ofCode? b.toNat).map .holdoff
    | _ => none
  | _ => none

end Sys2Proof.Machine
end

