-- ==== Sys2Proof/Machine/Coordination.lean ====
section
/-!
DEFINITION. The Frame Coordination Unit's operations (chapter 3): needs and claims, the permit test and block episodes, the
peer view, listen-in, doubt, holdoff and collision.
-/

namespace Sys2Proof.Machine

/-! ### The view -/

/-- Whether the view holds a live claim of a kind (R62). -/
def liveClaim (view : List ViewEntry) (k : ClaimKind) : Bool :=
  view.any fun v => match v.claim with
    | some m => m.kind == k
    | none => false

/-- Whether the view holds a live holdoff that wants a kind (R62). -/
def liveHoldoff (view : List ViewEntry) (k : ClaimKind) : Bool :=
  view.any fun v => match v.holdoff with
    | some m => m.kind == k
    | none => false

/-- To clear an entry: claim and holdoff become NONE (R62). -/
def ViewEntry.clear (v : ViewEntry) : ViewEntry := { v with claim := none, holdoff := none }

/-- To empty the view: every entry cleared and never heard (R62). -/
def emptied (view : List ViewEntry) : List ViewEntry := view.map fun v => .cleared v.rank

/-- Rewrites the entry of one rank. -/
def updateRank (view : List ViewEntry) (rank : Nat) (f : ViewEntry → ViewEntry) : List ViewEntry :=
  view.map fun v => if v.rank = rank then f v else v

/-! ### Block episodes and the permit test -/

/-- Whether the station is in doubt (R70). -/
def Fcu.inDoubt (f : Fcu) : Bool := f.doubtUntil.isSome

/-- Conditions 1 to 4 of the permit test for a claim of kind `k`, tried in order: the cause of the first that fails, or none
when all hold (R55). -/
def Fcu.firstFailure (f : Fcu) (k : ClaimKind) : Option BlockCause :=
  if f.state ≠ .active then some .listenIn
  else if f.inDoubt then some .doubt
  else if liveClaim f.view k.opposite then some .peerClaim
  else if liveHoldoff f.view k.opposite then some .peerHoldoff
  else none

/-- Records that the need is blocked with a cause: a new cause begins an episode, which is signalled (R55). -/
def State.blockOn (s : State) (c : BlockCause) : State :=
  if s.fcu.block = some c then s
  else { s with fcu.block := some c }.signal .block (qualifierBit c.code)

/-- Whether HOLDOFF may be queued for the set need (R71). -/
def State.holdoffAllowed (s : State) (n : Need) : Bool :=
  s.cfg.patience ≤ elapsed n.since s.now && s.fcu.claim == .none && s.fcu.holdoff == .none
    && s.fcu.state == .active && !s.fcu.inDoubt && !liveHoldoff s.fcu.view n.kind.opposite

/-- Tries to queue HOLDOFF for the set need (R71). -/
def State.tryHoldoff (s : State) : State :=
  match s.fcu.need with
  | some n =>
    if s.holdoffAllowed n then { s with fcu.holdoff := .queued n.kind }.queueNotice (.holdoff n.kind) else s
  | none => s

/-- The permit test at a set need with own claim NONE (R55): on a pass CLAIM is queued and the claim is PENDING; otherwise
the need is blocked, and the holdoff is tried at the same event (R71). -/
def State.permitTest (s : State) : State :=
  match s.fcu.need with
  | some n =>
    if s.fcu.claim = .none then
      match s.fcu.firstFailure n.kind with
      | none => { s with fcu.claim := .pending n.kind, fcu.block := none }.queueNotice (.claim n.kind)
      | some c => (s.blockOn c).tryHoldoff
    else s
  | none => s

/-! ### Own holdoff -/

/-- A QUEUED own holdoff is withdrawn: with a WITHDRAWN event while its notice is queued, and without one, its frame marked
stale, while it is in the transmitter (R71). -/
def State.dropQueuedHoldoff (s : State) : State :=
  match s.fcu.holdoff with
  | .queued _ => { (s.withdrawHoldoff.markStale Notice.isHoldoff) with fcu.holdoff := .none }
  | _ => s

/-- The own holdoff stops at a grant or a cleared need: a queued notice is withdrawn and counted, a frame in the transmitter
is stale, and no refresh is due (R54, R58, R71, R72). -/
def State.endHoldoff (s : State) : State :=
  match s.fcu.holdoff with
  | .none => s
  | _ => { (s.withdrawHoldoff.markStale Notice.isHoldoff) with fcu.holdoff := .none, fcu.holdoffRefresh := none }

/-- The own holdoff stops on a peer's opposing one: no further refresh is sent (R73; the queued refresh: log 14). -/
def State.yieldHoldoff (s : State) : State :=
  { (s.removeHoldoff.markStale Notice.isHoldoff) with fcu.holdoff := .none, fcu.holdoffRefresh := none }

/-! ### Need and claim reports of the Cycle Controller (R54) -/

/-- Set need: recorded with the present time; the permit test is applied when own claim is NONE (R54). -/
def State.setNeed (s : State) (k : ClaimKind) : State :=
  { s with fcu.need := some { kind := k, since := s.now } }.permitTest

/-- A PENDING claim whose notice is still queued is withdrawn and counted (R54). -/
def State.withdrawPending (s : State) : State :=
  match s.fcu.claim with
  | .pending _ => if s.claimQueued then { s.withdrawClaim with fcu.claim := .none } else s
  | _ => s

/-- Clear need: the need and its block episode end, a queued CLAIM of a PENDING claim and a queued HOLDOFF are withdrawn, a
CLAIM on the line stays PENDING, a HELD claim stays HELD (R54, R55, R72). -/
def State.clearNeed (s : State) : State :=
  ({ s with fcu.need := none, fcu.block := none }.endHoldoff).withdrawPending

/-- Release (R61): a HELD claim becomes NONE, a queued refresh is removed uncounted, one in the transmitter is stale, and
RELEASE is queued. A need that waits meets the permit test. With no claim held it has no effect (R54). -/
def State.release (s : State) : State :=
  match s.fcu.claim with
  | .held k =>
    ({ (s.removeClaim.markStale Notice.isClaim) with
        fcu.claim := .none, fcu.claimRefresh := none, fcu.collided := [] }.queueNotice (.release k)).permitTest
  | _ => s

/-! ### The recheck and doubt -/

/-- The recheck of a PENDING claim whose notice is queued: when one of conditions 1 to 4 fails, the CLAIM is withdrawn and
counted, own claim returns to NONE, and the need waits with the failing cause (R57). -/
def State.recheckPending (s : State) : State :=
  match s.fcu.claim with
  | .pending k =>
    if s.claimQueued && (s.fcu.firstFailure k).isSome then
      { s.withdrawClaim with fcu.claim := .none }.permitTest
    else s
  | _ => s

/-- A set need is blocked with cause doubt, in LISTEN_IN and ACTIVE alike, and whether or not a CLAIM of it is on the line
(R70; log 18). -/
def State.blockNeed (s : State) : State :=
  match s.fcu.need with
  | some _ => s.blockOn .doubt
  | none => s

/-- Doubt begins, in LISTEN_IN and ACTIVE only (R70): doubt-until moves one doubt interval ahead, a queued PENDING claim is
withdrawn (R57), a QUEUED holdoff is withdrawn and a set need is blocked. A disturbance taken in doubt does all of this again,
where R70 says only that it moves doubt-until (DESIGN CHOICE, log 18). -/
def State.beginDoubt (s : State) : State :=
  if s.fcu.state = .listenIn ∨ s.fcu.state = .active then
    (({ s with fcu.doubtUntil := some (s.ahead s.cfg.doubtInterval) }.recheckPending).dropQueuedHoldoff).blockNeed
  else s

/-! ### Own frames at the unit -/

/-- Whether the CLAIM(k) that completed is granted (R58). -/
def State.grantHolds (s : State) (k : ClaimKind) : Bool :=
  (match s.fcu.need with
    | some n => n.kind == k
    | none => false)
    && s.fcu.state == .active && !s.fcu.inDoubt && !liveClaim s.fcu.view k.opposite

/-- The claim becomes HELD (R58). -/
def State.grantClaim (s : State) (k : ClaimKind) : State :=
  { s.endHoldoff with
    fcu.claim := .held k
    fcu.collided := []
    fcu.claimRefresh := some (s.ahead s.cfg.refreshInterval)
    fcu.need := none
    fcu.block := none }

/-- A claim announced but not granted is taken back at once (R58). -/
def State.takeBackClaim (s : State) (k : ClaimKind) : State :=
  ({ s with fcu.claim := .none }.queueNotice (.release k)).permitTest

/-- Whether the unit acts on reports of own frames: not in INACTIVE or HALTED (R63, R75). -/
def Fcu.listening (f : Fcu) : Bool := f.state == .listenIn || f.state == .active

/-- The own CLAIM(k) completed, the frame not stale: the new state, and whether the Cycle Controller is told of a grant
(R58). -/
def State.claimCompleted (s : State) (k : ClaimKind) : State × Bool :=
  match s.fcu.claim with
  | .pending j =>
    if j = k then
      if s.grantHolds k then (s.grantClaim k, true) else (s.takeBackClaim k, false)
    else (s, false)
  | .held j =>
    if j = k then ({ s with fcu.claimRefresh := some (s.ahead s.cfg.refreshInterval) }, false) else (s, false)
  | .none => (s, false)

/-- The own HOLDOFF completed, the frame not stale (R71, R72). -/
def State.holdoffCompleted (s : State) : State :=
  match s.fcu.holdoff with
  | .queued k => { s with fcu.holdoff := .sent k, fcu.holdoffRefresh := some (s.ahead s.cfg.refreshInterval) }
  | .sent _ => { s with fcu.holdoffRefresh := some (s.ahead s.cfg.refreshInterval) }
  | .none => s

/-- The own notice completed (R63 step 2): the new state and the claim kind granted, if any. A stale frame's completion sets
no state (R61, R72; log 13). -/
def State.noticeCompleted (s : State) (n : Notice) (stale : Bool) : State × Option ClaimKind :=
  if s.fcu.listening && !stale then
    match n with
    | .claim k => match s.claimCompleted k with
      | (s', granted) => (s', if granted then some k else none)
    | .holdoff _ => (s.holdoffCompleted, none)
    | _ => (s, none)
  else (s, none)

/-- The failed CLAIM of a PENDING claim leaves own claim NONE; that of a refresh sets the next refresh (R59). -/
def State.claimFailed (s : State) : State :=
  match s.fcu.claim with
  | .pending _ => if s.claimQueued then s else { s with fcu.claim := .none }.permitTest
  | .held _ => { s with fcu.claimRefresh := some (s.ahead s.cfg.refreshInterval) }
  | .none => s

/-- An own notice frame ended with an error: doubt begins, and the unit acts by the kind of the notice (R59). A HOLDOFF refresh
queued while the failing HOLDOFF was on the line stays queued and is sent, which the spec leaves open (DESIGN CHOICE, log 49). -/
def State.noticeFailed (s : State) (n : Notice) : State :=
  if s.fcu.listening then
    match n with
    | .claim _ => s.beginDoubt.claimFailed
    | .holdoff _ => { s.beginDoubt with fcu.holdoff := .none, fcu.holdoffRefresh := none }
    | _ => s.beginDoubt
  else s

/-! ### Notices taken -/

/-- A CLAIM(k) in the sender's entry (R64). -/
def ViewEntry.takeClaim (v : ViewEntry) (k : ClaimKind) (expiry : Deadline) : ViewEntry :=
  { v with
    claim := some { kind := k, expiry }
    holdoff := match v.holdoff with
      | some h => if h.kind = k then none else some h
      | none => none }

/-- A RELEASE(k) in the sender's entry (R65). -/
def ViewEntry.takeRelease (v : ViewEntry) (k : ClaimKind) : ViewEntry :=
  { v with
    claim := match v.claim with
      | some c => if c.kind = k then none else some c
      | none => none }

/-- A HOLDOFF(w) in the sender's entry (R66). -/
def ViewEntry.takeHoldoff (v : ViewEntry) (w : ClaimKind) (expiry : Deadline) : ViewEntry :=
  { v with holdoff := some { kind := w, expiry } }

/-- A notice in the sender's entry, with the time it was heard (R63 step 4, R64 to R67). -/
def ViewEntry.take (v : ViewEntry) (n : Notice) (now : Time) (expiry : Deadline) : ViewEntry :=
  let heard := { v with lastHeard := some now }
  match n with
  | .claim k => heard.takeClaim k expiry
  | .release k => heard.takeRelease k
  | .holdoff w => heard.takeHoldoff w expiry
  | .hello _ => heard.clear

/-- Records a notice in the view (R63 step 4). -/
def State.recordNotice (s : State) (rank : Nat) (n : Notice) : State :=
  { s with fcu.view := updateRank s.fcu.view rank fun v => v.take n s.now (s.ahead s.cfg.expiryInterval) }

/-- An opposing HOLDOFF stops the own one (R66, R73). -/
def State.meetHoldoff (s : State) (w : ClaimKind) : State :=
  match s.fcu.holdoff with
  | .queued k => if k = w.opposite then s.dropQueuedHoldoff else s
  | .sent k => if k = w.opposite then s.yieldHoldoff else s
  | .none => s

/-- The Cycle Controller's flag of a collision under a QUIET claim: on the indent set in INDENT, on the measure set in IMAGE
(R34, R74). -/
def Cyc.disturbed (c : Cyc) : Cyc :=
  match c.current with
  | some i => match i.phase with
    | .indent => { c with gatheredIndent.frameDisturbedIndent := true }
    | .image => { c with gatheredMeasure.frameDisturbedImage := true }
    | _ => c
  | none => c

/-- A collision with rank `r` while own claim is HELD(k) (R74). -/
def State.collide (s : State) (r : Nat) (k : ClaimKind) : State :=
  let s1 := { s with fcu.claimCollision := true }
  let s2 := if s1.fcu.collided.contains r then s1
    else { s1 with fcu.collided := s1.fcu.collided ++ [r] }.signal .collision 0
  if k = .quiet then { s2 with cyc := s2.cyc.disturbed } else s2

/-- A CLAIM of the opposite kind while own claim is HELD is a collision (R64, R74). -/
def State.meetClaim (s : State) (r : Nat) (k : ClaimKind) : State :=
  match s.fcu.claim with
  | .held own => if own = k.opposite then s.collide r own else s
  | _ => s

/-- What a notice does beyond the sender's entry (R64, R66). -/
def State.meetNotice (s : State) (r : Nat) (n : Notice) : State :=
  match n with
  | .claim k => s.meetClaim r k
  | .holdoff w => s.meetHoldoff w
  | _ => s

/-- Step 4 of R63: the entry, the notice's further effect, the recheck of a PENDING claim (R57) and the permit test. -/
def State.acceptNotice (s : State) (r : Nat) (n : Notice) : State :=
  (((s.recordNotice r n).meetNotice r n).recheckPending).permitTest

/-- Whether the view has an entry for a rank (R62). -/
def Fcu.knows (f : Fcu) (rank : Nat) : Bool := f.view.any fun v => v.rank == rank

/-- A not-own notice frame taken (R63, R176). -/
def State.noticeTaken (s : State) (f : LinkFrame) : State :=
  if s.fcu.listening then
    if f.sender = s.fli.rank then { s with fcu.duplicateRank := true }.linkError 4
    else if s.fcu.knows f.sender = false ∨ f.dest ≠ 15#4 then s.linkError 3
    else match decodeNotice f.kind f.payload with
      | none => s.linkError 3
      | some n => s.acceptNotice f.sender n
  else s

/-! ### States and deadlines -/

/-- Entering LISTEN_IN: the listen-in end is set and HELLO is queued (R69). -/
def State.enterListenIn (s : State) (cause : HelloCause) : State :=
  { s with fcu.state := .listenIn, fcu.listenEnd := some (s.ahead s.cfg.listenInterval) }.queueNotice (.hello cause)

/-- Entering HALTED: nothing is held or needed and the view is emptied; DUPLICATE_RANK and CLAIM_COLLISION stay (R75). -/
def Fcu.halt (f : Fcu) : Fcu :=
  { Fcu.reset (emptied f.view) with
    state := .halted
    duplicateRank := f.duplicateRank
    claimCollision := f.claimCollision }

/-- A HALT pulse at the unit (R53, R75). -/
def Fcu.onHalt (f : Fcu) : Fcu := if f.state = .inactive then f else f.halt

/-- One mark of a peer lapses when its expiry is reached (R68). -/
def lapse (m : Option PeerMark) (now : Time) : Option PeerMark :=
  match m with
  | some p => if p.expiry.reached now then none else some p
  | none => none

/-- Whether a mark is live and its expiry reached (R68). -/
def lapsed (m : Option PeerMark) (now : Time) : Bool :=
  match m with
  | some p => p.expiry.reached now
  | none => false

/-- Whether a claim or holdoff of the view reaches its expiry (R68). -/
def Fcu.expires (f : Fcu) (now : Time) : Bool := f.view.any fun v => lapsed v.claim now || lapsed v.holdoff now

/-- An entry after the tick's look at it (R68). -/
def ViewEntry.expire (now : Time) (v : ViewEntry) : ViewEntry :=
  { v with claim := lapse v.claim now, holdoff := lapse v.holdoff now }

/-- The signals of one entry's lapses: claim 0, holdoff 1 (R68, spec 11.3). -/
def State.signalLapses (s : State) (now : Time) (v : ViewEntry) : State :=
  let s1 := if lapsed v.claim now then s.signal .expiry (qualifierBit 0) else s
  if lapsed v.holdoff now then s1.signal .expiry (qualifierBit 1) else s1

/-- The tick's look at the view: every claim and holdoff whose expiry is reached lapses and is signalled (R68; log 16). -/
def State.expireView (s : State) : State :=
  { s.fcu.view.foldl (fun acc v => acc.signalLapses s.now v) s with
    fcu.view := s.fcu.view.map (ViewEntry.expire s.now) }

/-- Whether the need is blocked: set, with own claim NONE or PENDING (R54). -/
def Fcu.needBlocked (f : Fcu) : Bool :=
  f.need.isSome && match f.claim with
    | .held _ => false
    | _ => true

/-- The WAIT_MS signal of a tick (R54). -/
def State.countWait (s : State) : State :=
  match s.fcu.need with
  | some n => if s.fcu.needBlocked then s.signal .waitMs (qualifierBit n.kind.code) else s
  | none => s

end Sys2Proof.Machine
end

