-- ==== Sys2Proof/Machine/Store.lean ====
section
/-!
DEFINITION. The Site Store's operations (chapter 1): planning requests, entries and their outcomes, result writes, the
spacing check and selection.
-/

namespace Sys2Proof.Machine

/-! ### Planning requests -/

/-- Whether the station mode is START or FAULTED (R4, R5). -/
def State.planRefused (s : State) : Bool := s.cyc.mode == .start || s.cyc.mode == .faulted

/-- Whether the current item carries a site id (R4, R6). -/
def State.currentIs (s : State) (site : Nat) : Bool :=
  match s.cyc.current with
  | some c => c.work.site == site
  | none => false

/-- Whether a site id is held by a queued INDENT item, the current item or an entry (R4, test 4). -/
def State.idHeld (s : State) (site : Nat) : Bool :=
  s.sst.queue.any (Item.isIndentOf site) || s.currentIs site || (s.sst.entry? site).isSome

/-- The largest nominal force of an indenter kind (R4). -/
def IndenterKind.largestForce : IndenterKind → Nat
  | .vickers => 98067
  | .knoop => 19613

/-- Whether a force lies outside the range of an indenter slot (R4, test 6). -/
def ConfigImage.badForce (c : ConfigImage) (slot force : Nat) : Bool :=
  match c.indenterKind? slot with
  | some k => force < 49 || k.largestForce < force
  | none => false

/-- Whether a point lies outside the carriage limits (R4, test 7). -/
def ConfigImage.outOfRange (c : ConfigImage) (x y : Int) : Bool :=
  x < c.xLower || c.xUpper < x || y < c.yLower || c.yUpper < y

/-- PLAN_SITE's seven tests in order (R4). -/
def State.planSiteCode (s : State) (r : PlanRecord) : ReplyCode :=
  if s.planRefused then .wrongMode
  else if r.site = 0 then .badValue
  else if 32 ≤ s.sst.queue.length then .queueFull
  else if s.idHeld r.site then .duplicateId
  else if (s.cfg.indenterKind? r.indenter).isNone || (s.cfg.objective? r.objective).isNone then .badTool
  else if s.cfg.badForce r.indenter r.force then .badForce
  else if s.cfg.outOfRange r.x r.y then .outOfRange
  else .accepted

/-- The item stored for an accepted record, with its three clamps (R4). -/
def PlanRecord.item (r : PlanRecord) : IndentItem where
  fields :=
    { site := r.site
      x := r.x
      y := r.y
      indenter := r.indenter
      objective := r.objective
      force := r.force
      expected := if r.expected = 0 then none else some (min r.expected 4194303) }
  dwell := clampNat 1000 99000 r.dwell
  loadTime := if r.loadTime = 0 then none else some (clampNat 500 20000 r.loadTime)

/-- An item joins the tail of the site queue (R3). -/
def State.pushItem (s : State) (i : Item) : State := { s with sst.queue := s.sst.queue ++ [i] }

/-- Whether an entry can be named by PLAN_REMEASURE (R5, test 3). -/
def Entry.measurable (e : Entry) : Bool :=
  e.made && !e.indentFlags.indentAborted && e.outcome != .awaitingMeasure

/-- PLAN_REMEASURE's five tests in order (R5). -/
def State.planRemeasureCode (s : State) (site : Nat) : ReplyCode :=
  if s.planRefused then .wrongMode
  else match s.sst.entry? site with
    | none => .unknownId
    | some e =>
      if !e.measurable then .notMeasurable
      else if s.sst.queue.contains (.remeasure site) then .duplicateId
      else if 32 ≤ s.sst.queue.length then .queueFull
      else .accepted

/-- PLAN_WITHDRAW's two tests in order (R6). -/
def State.planWithdrawCode (s : State) (site : Nat) : ReplyCode :=
  if s.currentIs site then .busy
  else if s.sst.queue.any fun i => i.site == site then .accepted
  else .unknownId

/-- Whether the head of the queue carries a site id. -/
def Store.headIs (st : Store) (site : Nat) : Bool :=
  match st.queue.head? with
  | some i => i.site == site
  | none => false

/-- The pending item of a site id leaves the queue; a deferred head's episode ends with it (R6, R23). -/
def State.withdrawItem (s : State) (site : Nat) : State :=
  { s with
    sst.queue := s.sst.queue.filter fun i => i.site != site
    sst.deferral := if s.sst.headIs site then none else s.sst.deferral }

/-- MAP_CLEAR's tests: BUSY while an entry waits for its measurement, an item is current, a REMEASURE item is queued or a
profile slot is not FREE (R24). -/
def State.mapClearCode (s : State) : ReplyCode :=
  if !s.sst.measureList.isEmpty || s.cyc.current.isSome || s.sst.queue.any Item.isRemeasure
      || !s.mea.slotA.isFree || !s.mea.slotB.isFree then .busy
  else .accepted

/-- The map is emptied, without a report (R24). -/
def State.clearMap (s : State) : State := { s with sst.map := [] }

/-! ### Entries and their outcomes -/

/-- The signal of an outcome write: the outcome and the entry's flags after it (R17, R174). -/
def State.signalOutcome (s : State) (e : Entry) : State :=
  (s.signal .outcome (qualifierBit e.outcome.code)).signal .flag e.flagMask

/-- The handover of an entry at a final outcome (R17, R172). -/
def State.handOver (s : State) (e : Entry) : State := s.send (.siteDone e e.outcome e.measureFlags)

/-- An entry that made no impression (R10). -/
def Entry.unmade (f : SiteFields) (o : SiteOutcome) (flags : IndentFlags) (now : Time) : Entry where
  fields := f
  made := false
  outcome := o
  indentFlags := flags
  measureFlags := .none
  d1 := none
  d2 := none
  hardness := none
  meanForce := none
  indentTime := now
  count := 0

/-- The entry created at contact (R11). -/
def Entry.atContact (f : SiteFields) (flags : IndentFlags) (now : Time) : Entry :=
  { Entry.unmade f .awaitingMeasure flags now with made := true }

/-- Creates an entry with made = no and a final outcome, and hands it over (R10, R17). -/
def State.createUnmade (s : State) (f : SiteFields) (o : SiteOutcome) (flags : IndentFlags) : State :=
  ({ s with sst.map := s.sst.map ++ [Entry.unmade f o flags s.now] }.signalOutcome (.unmade f o flags s.now)).handOver
    (.unmade f o flags s.now)

/-- Creates the entry of an impression at contact; it is not reported (R11). -/
def State.createMade (s : State) (f : SiteFields) (flags : IndentFlags) : State :=
  { s with sst.map := s.sst.map ++ [Entry.atContact f flags s.now] }

/-- Rewrites an entry with no report. -/
def State.rewrite (s : State) (site : Nat) (f : Entry → Entry) : State := { s with sst := s.sst.update site f }

/-- Writes a final outcome into an entry, signals it and hands the entry over (R17). -/
def State.finish (s : State) (site : Nat) (f : Entry → Entry) : State :=
  match s.sst.entry? site with
  | some e => ((s.rewrite site f).signalOutcome (f e)).handOver (f e)
  | none => s

/-- A completed force cycle: the flags since contact and the mean hold force (R12). -/
def Entry.completed (flags : IndentFlags) (mean : Option Nat) (e : Entry) : Entry :=
  { e with indentFlags := e.indentFlags.union flags, meanForce := mean }

/-- A cycle abandoned after contact: INDENT_ABORTED joins the flags and the outcome is ABORTED (R12). -/
def Entry.indentAbandoned (flags : IndentFlags) (mean : Option Nat) (e : Entry) : Entry :=
  { e.completed { flags with indentAborted := true } mean with outcome := .aborted }

/-- An abandoned first measurement (R15). -/
def Entry.measureAbandoned (e : Entry) : Entry :=
  { e with outcome := .aborted, measureFlags := .aborted, d1 := none, d2 := none, hardness := none }

/-- An abandoned REMEASURE attempt leaves the entry as it was and is reported (R16, R172). -/
def State.abandonRemeasure (s : State) (site : Nat) : State :=
  match s.sst.entry? site with
  | some e => s.send (.siteDone e .aborted .aborted)
  | none => s

/-- An abandoned TO_VIEW or IMAGE: R16 for a REMEASURE item, else R15. -/
def State.abandonMeasurement (s : State) (w : Work) : State :=
  match w with
  | .remeasure site => s.abandonRemeasure site
  | w => s.finish w.site Entry.measureAbandoned

/-! ### Results (R9, R14, R16) -/

/-- A result the Measurement Unit hands back (R153). -/
structure MeasureResult where
  site : Nat
  d1 : Option Nat
  d2 : Option Nat
  hardness : Option Nat
  flags : MeasureFlags
  deriving DecidableEq, Repr

/-- A value is written only with an outcome that carries it (R9). -/
def keptWhen (present : Bool) (v : Option Nat) : Option Nat := if present then v else none

/-- An entry with a measurement written into it (R9): the measure flags replaced as a whole, the outcome derived, the numbers
written or absent. -/
def Entry.measuredWith (r : MeasureResult) (count : Nat) (e : Entry) : Entry :=
  let o := measuredOutcome e.indentFlags r.flags
  { e with
    measureFlags := r.flags
    outcome := o
    d1 := keptWhen o.measured r.d1
    d2 := keptWhen o.measured r.d2
    hardness := keptWhen o.measured r.hardness
    count := count }

/-- Whether a REMEASURE attempt succeeds (R16). -/
def MeasureResult.good (r : MeasureResult) : Bool := !r.flags.failed

/-- The outcome of a REMEASURE attempt, from its own flags (R172; log 33). -/
def MeasureResult.attemptOutcome (r : MeasureResult) : SiteOutcome := measuredOutcome .none r.flags

/-- Writes a result: R14 for an entry that waits for its measurement, else R16. -/
def State.writeResult (s : State) (r : MeasureResult) : State :=
  match s.sst.entry? r.site with
  | none => s
  | some e =>
    if e.outcome = .awaitingMeasure then s.finish r.site (.measuredWith r 1)
    else if r.good then
      ((s.rewrite r.site (.measuredWith r (min (e.count + 1) 255))).signalOutcome
          (e.measuredWith r (min (e.count + 1) 255))).send
        (.siteDone (e.measuredWith r (min (e.count + 1) 255)) r.attemptOutcome r.flags)
    else s.send (.siteDone e r.attemptOutcome r.flags)

/-! ### The spacing check (R19 to R23) -/

/-- The unknown-diagonal bound of a slot (R20). -/
def ConfigImage.bound (c : ConfigImage) (slot : Nat) : Nat :=
  match c.slot slot with
  | .indenter r => r.bound
  | _ => 0

/-- The measured diagonal of an entry whose d1 is `d1`: the larger of d1 and d2 for VICKERS, d1 for KNOOP (R20, 1). -/
def ConfigImage.measuredDiagonal (c : ConfigImage) (e : Entry) (d1 : Nat) : Nat :=
  if c.indenterKind? e.fields.indenter = some .vickers then max d1 (e.d2.getD 0) else d1

/-- The governing diagonal of an entry (R20). -/
def ConfigImage.governing (c : ConfigImage) (e : Entry) : Nat :=
  match e.d1, e.fields.expected with
  | some d1, _ => c.measuredDiagonal e d1
  | none, some d => d
  | none, none => c.bound e.fields.indenter

/-- The reference diagonal for a pair (R20). -/
def ConfigImage.reference (c : ConfigImage) (e : Entry) (f : SiteFields) : Nat :=
  max (c.governing e) (f.expected.getD 0)

/-- Whether a new item conflicts with an entry (R21). -/
def ConfigImage.conflicts (c : ConfigImage) (f : SiteFields) (e : Entry) : Bool :=
  e.made && decide
    (100000000 * ((f.x - e.fields.x) ^ 2 + (f.y - e.fields.y) ^ 2)
      < ((c.spacingFactor : Int) ^ 2 * (c.reference e f : Int) ^ 2))

/-- The spacing check's three answers (R18). -/
inductive Spacing where
  | proceed
  | wait (reason : DeferralReason)
  | rejected
  deriving DecidableEq, Repr

/-- The spacing check (R19, R22). -/
def State.spacing (s : State) (f : SiteFields) : Spacing :=
  if 256 ≤ s.sst.map.length then .wait .mapFull
  else if s.sst.map.any fun e => e.outcome == .awaitingMeasure && s.cfg.conflicts f e then .wait .spacingWait
  else if s.sst.map.any fun e => s.cfg.conflicts f e then .rejected
  else .proceed

/-- The DEFERRAL qualifier of a reason: spacing-wait 0, map-full 1 (spec 11.3). -/
def DeferralReason.qualifier : DeferralReason → Nat
  | .spacingWait => 0
  | .mapFull => 1

/-- The reason of the present deferral. -/
def Store.deferredFor (st : Store) : Option DeferralReason := st.deferral.map (·.reason)

/-- A WAIT answer starts an episode, or continues one of the same reason (R23). -/
def State.defer (s : State) (r : DeferralReason) : State :=
  if s.sst.deferredFor = some r then s
  else { s with sst.deferral := some { reason := r, since := s.now } }.signal .deferral (qualifierBit r.qualifier)

/-- The answers to a selection request (R18). -/
inductive Selection where
  | empty
  | remeasure (site : Nat)
  | proceed (item : IndentItem)
  | wait (reason : DeferralReason)
  | rejected
  deriving DecidableEq, Repr

/-- The head leaves the queue, and its deferral ends (R18, R23). -/
def State.takeHead (s : State) : State := { s with sst.queue := s.sst.queue.tail, sst.deferral := none }

/-- Selection (R18): the store's answer, and the state after it. -/
def State.select (s : State) : Selection × State :=
  match s.sst.queue.head? with
  | none => (.empty, s)
  | some (.remeasure site) => (.remeasure site, s.takeHead)
  | some (.indent i) =>
    match s.spacing i.fields with
    | .proceed => (.proceed i, s.takeHead)
    | .wait r => (.wait r, s.defer r)
    | .rejected => (.rejected, s.takeHead.createUnmade i.fields .rejectedSpacing .none)

end Sys2Proof.Machine
end

