-- ==== Sys2Proof/Machine/Measure.lean ====
section
/-!
DEFINITION. The Measurement Unit's arithmetic (R155 to R164): levels, threshold, edges, diagonals and hardness, all in
integers.
-/

namespace Sys2Proof.Machine

/-- The three failures of a profile (R156, R158, R159). -/
inductive ProfileFailure where
  | lowContrast
  | noImpression
  | edgeNotFound
  deriving DecidableEq, Repr

/-- A point of a profile. -/
def point (p : List Nat) (c : Nat) : Nat := p.getD c 0

/-- The guard of a profile of length `length`: G, clamped to at most floor((L - 3) / 2) (R155). -/
def guardOf (g length : Nat) : Nat := min g ((length - 3) / 2)

/-- The bright level: the rounded mean of the guard points at both ends (R155). -/
def brightLevel (p : List Nat) (g : Nat) : Nat :=
  ((p.take g).sum + (p.drop (p.length - g)).sum + g) / (2 * g)

/-- The points between the guards, G to L - 1 - G (R155). -/
def betweenGuards (p : List Nat) (g : Nat) : List Nat := (p.drop g).take (p.length - 2 * g)

/-- The least value of a list of points. -/
def leastOf : List Nat → Nat
  | [] => 0
  | v :: rest => rest.foldl min v

/-- The dark level: the least value between the guards (R155). -/
def darkLevel (p : List Nat) (g : Nat) : Nat := leastOf (betweenGuards p g)

/-- The threshold's height above the dark level (R157). -/
def thresholdHeight (ladder : Ladder) (n : Nat) (span : Nat) : Nat :=
  match ladder with
  | .wide => (max n 1 * span + 12) / 24
  | .narrow => ((8 + n) * span + 16) / 32

/-- The first point at or above the threshold to the right of the centre, within the guard (R159). -/
def rightFound (p : List Nat) (g k t : Nat) : Option Nat :=
  ((List.range (p.length - 1 - g - k)).map (k + 1 + ·)).find? fun c => t ≤ point p c

/-- The first point at or above the threshold to the left of the centre, within the guard (R159). -/
def leftFound (p : List Nat) (g k t : Nat) : Option Nat :=
  ((List.range (k - g)).map (k - 1 - ·)).find? fun c => t ≤ point p c

/-- The fraction of a pixel, in 1/256, between an inner point and the found point (R159). -/
def edgeFraction (t inner found : Nat) : Nat := 256 * (t - inner) / (found - inner)

/-- The right edge at found point `c`, in 1/256 pixel (R159). -/
def rightEdge (p : List Nat) (t c : Nat) : Nat := (c - 1) * 256 + edgeFraction t (point p (c - 1)) (point p c)

/-- The left edge at found point `c`, in 1/256 pixel (R159). -/
def leftEdge (p : List Nat) (t c : Nat) : Nat := (c + 1) * 256 - edgeFraction t (point p (c + 1)) (point p c)

/-- The length D256 between the two edges of a profile with a threshold (R158 to R160). -/
def lengthAt (p : List Nat) (g k t : Nat) : Except ProfileFailure Nat :=
  if t ≤ point p k then .error .noImpression
  else match rightFound p g k t, leftFound p g k t with
    | some r, some l => .ok (rightEdge p t r - leftEdge p t l)
    | _, _ => .error .edgeNotFound

/-- The length D256 of a profile (R155 to R160): its guard is clamped, its span tested against the minimum contrast, its
threshold set by the objective's ladder, and its centre is floor(L / 2). -/
def profileLength (o : ObjectiveRecord) (g : Nat) (p : List Nat) : Except ProfileFailure Nat :=
  let g := guardOf g p.length
  let bright := brightLevel p g
  let dark := darkLevel p g
  if (bright : Int) - dark < o.minContrast then .error .lowContrast
  else lengthAt p g (p.length / 2) (dark + thresholdHeight o.ladder o.ladderStep (bright - dark))

/-- The length in nm, clamped to 4,194,303 (R161). -/
def diagonalOf (scale d256 : Nat) : Nat := min 4194303 ((d256 * scale + 32768) / 65536)

/-- The flags a profile's result raises: its failure, or TOO_SMALL and TOO_LARGE (R156, R158 to R160). -/
def lengthFlags (o : ObjectiveRecord) : Except ProfileFailure Nat → MeasureFlags
  | .error .lowContrast => { MeasureFlags.none with lowContrast := true }
  | .error .noImpression => { MeasureFlags.none with noImpression := true }
  | .error .edgeNotFound => { MeasureFlags.none with edgeNotFound := true }
  | .ok d => { MeasureFlags.none with tooSmall := decide (d < o.minPixels * 256), tooLarge := decide (o.maxPixels * 256 < d) }

/-- The diagonal a profile's result gives, where it succeeded (R161). -/
def lengthDiagonal (o : ObjectiveRecord) : Except ProfileFailure Nat → Option Nat
  | .error _ => none
  | .ok d => some (diagonalOf o.scale d)

/-- The mean diagonal of a VICKERS impression (R162). -/
def meanDiagonal (d1 d2 : Nat) : Nat := (d1 + d2 + 1) / 2

/-- Whether two diagonals are ASYMMETRIC (R162). -/
def asymmetric (permille d1 d2 : Nat) : Bool :=
  permille * meanDiagonal d1 d2 < ((d1 : Int) - d2).natAbs * 1000

/-- The rounded quotient of force and governing diagonal (R163). -/
def hardnessQuotient (kind : IndenterKind) (force d : Nat) : Nat :=
  let num := match kind with
    | .vickers => 18909290000 * force
    | .knoop => 145095000000 * force
  (2 * num + d * d) / (2 * (d * d))

/-- The hardness and the flags of R163: EDGE_NOT_FOUND with no hardness for a diagonal of 0, SATURATED above 999,999. -/
def hardnessOf (kind : IndenterKind) (force d : Nat) : Option Nat × MeasureFlags :=
  if d = 0 then (none, { MeasureFlags.none with edgeNotFound := true })
  else if 999999 < hardnessQuotient kind force d then (some 999999, { MeasureFlags.none with saturated := true })
  else (some (hardnessQuotient kind force d), .none)

/-- A KNOOP delivery's result: Ph alone (R164). -/
def knoopResult (o : ObjectiveRecord) (g : Nat) (d : Delivery) (p : Profiles) : MeasureResult :=
  let h := profileLength o g p.ph
  let flags := d.measureSet.union (lengthFlags o h)
  match lengthDiagonal o h with
  | some d1 =>
    let r := hardnessOf .knoop d.force d1
    { site := d.site, d1 := some d1, d2 := none, hardness := r.1, flags := flags.union r.2 }
  | none => { site := d.site, d1 := none, d2 := none, hardness := none, flags := flags }

/-- A VICKERS delivery's result: Ph and Pv, each to its own end (R162 to R164). -/
def vickersResult (o : ObjectiveRecord) (g permille : Nat) (d : Delivery) (p : Profiles) : MeasureResult :=
  let h := profileLength o g p.ph
  let v := profileLength o g p.pv
  let flags := (d.measureSet.union (lengthFlags o h)).union (lengthFlags o v)
  match lengthDiagonal o h, lengthDiagonal o v with
  | some d1, some d2 =>
    let r := hardnessOf .vickers d.force (meanDiagonal d1 d2)
    { site := d.site, d1 := some d1, d2 := some d2, hardness := r.1
      flags := (flags.union { MeasureFlags.none with asymmetric := asymmetric permille d1 d2 }).union r.2 }
  | d1, d2 => { site := d.site, d1 := d1, d2 := d2, hardness := none, flags := flags }

/-- A delivery without profiles: the measure set alone (R164). -/
def bareResult (d : Delivery) : MeasureResult where
  site := d.site
  d1 := none
  d2 := none
  hardness := none
  flags := d.measureSet

/-- The result of a delivery (R164). -/
def ConfigImage.resultOf (c : ConfigImage) (d : Delivery) : MeasureResult :=
  match d.profiles, c.objective? d.objective with
  | some p, some o =>
    match d.kind with
    | .knoop => knoopResult o c.guardPoints d p
    | .vickers => vickersResult o c.guardPoints c.asymmetryPermille d p
  | _, _ => bareResult d

end Sys2Proof.Machine
end

