-- ==== Sys2Proof/Machine/Cycle.lean ====
section
/-!
DEFINITION. The Cycle Controller (chapter 2): phases and needs, choosing work, grants and completions, the reports of the
Force, Motion, Image and Measurement Units, station faults, abort, HALT, start-up and RESTART.
-/

namespace Sys2Proof.Machine

/-! ### Phases and needs -/

/-- The claim a phase asks for (R32). -/
def Phase.claim : Phase → Option ClaimKind
  | .toSite | .toView => some .motion
  | .indent | .image => some .quiet
  | .select | .compute => none

/-- Whether the head's blocks are at rest, so that a claimed need may be set (R48). -/
def State.atRest (s : State) : Bool := s.frc.state == .retracted && !s.mot.stopping && s.img.state == .idle

/-- The room test: the measure list is shorter than its limit, which is 1 in PER_SITE mode (R37). -/
def State.hasRoom (s : State) : Bool :=
  match s.cyc.workMode with
  | .perSite => s.sst.measureList.length < 1
  | .batch => s.sst.measureList.length < s.cyc.batchLimit

/-- What a phase waits for before its need is set: room for INDENT (R37), a FREE slot for IMAGE (R42). -/
def State.phaseReady (s : State) : Phase → Bool
  | .indent => s.hasRoom
  | .image => s.mea.freeSlot?.isSome
  | _ => true

/-- Sets the need of a WAITING phase once nothing forbids it (R32, R37, R42, R48). -/
def State.trySetNeed (s : State) : State :=
  match s.cyc.current with
  | some c =>
    match c.phase.claim with
    | some k =>
      if c.step = .waiting ∧ s.fcu.need = none ∧ s.atRest ∧ s.phaseReady c.phase then s.setNeed k else s
    | none => s
  | none => s

/-- The gathered flags start empty at an INDENT or IMAGE phase (R34). -/
def Cyc.startGathering (c : Cyc) : Phase → Cyc
  | .indent => { c with gatheredIndent := .none }
  | .image => { c with gatheredMeasure := .none }
  | _ => c

/-- INDENT with no room waits with cue ROOM (R37). -/
def State.cueRoom (s : State) (p : Phase) : State :=
  if p = .indent ∧ s.hasRoom = false then { s with cyc.cue := .room } else s

/-- IMAGE with no FREE slot starts a buffer-full episode (R42). -/
def State.openBufferFull (s : State) (p : Phase) : State :=
  if p = .image ∧ s.mea.freeSlot? = none then { s with cyc.bufferFull := true }.signal .deferral (qualifierBit 2) else s

/-- A phase begins in step WAITING (R26, R32). -/
def State.enterPhase (s : State) (w : Work) (p : Phase) : State :=
  (({ s with
      cyc := { s.cyc.startGathering p with current := some { work := w, phase := p, step := .waiting } } }.cueRoom
    p).openBufferFull p).trySetNeed

/-- Sets the step of the current item. -/
def Cyc.setStep (c : Cyc) (st : CycStep) : Cyc :=
  { c with current := c.current.map fun i => { i with step := st } }

/-! ### Choosing the next work (R35, R36) -/

/-- The first entry of the measure list that is not delivered (R35 rule 1). -/
def State.undelivered? (s : State) : Option Nat := s.sst.measureList.find? fun id => !s.cyc.delivered.contains id

/-- CYC waits with a cue. The Bool says whether it chooses again: an open batch closes first, and the choice is made afresh
(R35, R36). A WAIT that closes a batch leaves the cue NONE while the run that its close begins goes on (DESIGN CHOICE, log 53). -/
def State.waitFor (s : State) (cue : Cue) : State × Bool :=
  match s.cyc.batch with
  | some _ => ({ s with cyc.batch := none }, true)
  | none => ({ s with cyc.cue := cue }, false)

/-- The batch that a PROCEED opens in BATCH mode (R36). -/
def Cyc.batchFor (c : Cyc) (i : IndentItem) : Option Nat :=
  match c.workMode, c.batch with
  | .batch, none => some i.fields.indenter
  | _, b => b

/-- Acts on the answer to a selection request (R35). -/
def State.onSelection (s : State) : Selection → State × Bool
  | .proceed i => ({ s with cyc.batch := s.cyc.batchFor i }.enterPhase (.indent i) .toSite, false)
  | .remeasure site => (s.enterPhase (.remeasure site) .toView, false)
  | .rejected => (s, true)
  | .wait .spacingWait => s.waitFor .result
  | .wait .mapFull => s.waitFor .plan
  | .empty => s.waitFor .plan

/-- Asks the store for a selection and acts on its answer (R35). -/
def State.askSelection (s : State) : State × Bool :=
  match s.select with
  | (answer, s') => s'.onSelection answer

/-- Whether one of R36's four conditions closes the batch of an indenter slot. -/
def State.batchCloses (s : State) (slot : Nat) : Bool :=
  s.cyc.batchLimit ≤ s.sst.measureList.length ||
    match s.sst.queue.head? with
    | none => true
    | some (.remeasure _) => true
    | some (.indent i) => i.fields.indenter != slot

/-- R35 rule 3: no batch is open in BATCH mode. -/
def State.chooseInBatchMode (s : State) : State × Bool :=
  match s.sst.queue.head? with
  | some (.indent _) => if s.sst.measureList.isEmpty then s.askSelection else s.waitFor .result
  | _ => s.askSelection

/-- R35 rules 1, 3 and 4: no batch is open. -/
def State.chooseUnbatched (s : State) : State × Bool :=
  match s.undelivered? with
  | some site => (s.enterPhase (.listed site) .toView, false)
  | none =>
    match s.cyc.workMode with
    | .batch => s.chooseInBatchMode
    | .perSite => s.askSelection

/-- One choice, made afresh from rule 1; the Bool says whether CYC chooses again at once (R35). A PLAN or RESULT cue returns to
NONE here, at every fresh choice, and so stays through PAUSE (DESIGN CHOICE, log 53). -/
def State.chooseOnce (s : State) : State × Bool :=
  let s := { s with cyc.cue := .none }
  match s.cyc.batch with
  | some slot => if s.batchCloses slot then ({ s with cyc.batch := none }, true) else s.askSelection
  | none => s.chooseUnbatched

/-- Choices until an item is current or CYC waits. -/
def State.chooseUpTo : Nat → State → State
  | 0, s => s
  | n + 1, s => match s.chooseOnce with
    | (s', true) => State.chooseUpTo n s'
    | (s', false) => s'

/-- Chooses work (R35). A choice is repeated after a REJECTED item, which shortens the queue, and after the close of the
batch, which comes once; so the queue's length and two more are enough. -/
def State.choose (s : State) : State := State.chooseUpTo (s.sst.queue.length + 2) s

/-- Whether the station holds a claim. -/
def Fcu.holds (f : Fcu) : Bool :=
  match f.claim with
  | .held _ => true
  | _ => false

/-- Whether the conditions of PAUSED hold (R46; a CLAIM still on the line is not held: log 22). -/
def State.nothingToFinish (s : State) : Bool :=
  s.cyc.current.isNone && s.undelivered?.isNone && !s.fcu.holds && s.fcu.need.isNone && s.frc.state == .retracted

/-- The PAUSED test (R46). -/
def State.checkPaused (s : State) : State :=
  if s.cyc.mode = .pausing ∧ s.nothingToFinish then { s with cyc.mode := .paused } else s

/-- PAUSING carries the measurement run to its end and selects nothing (R46). -/
def State.pausingNext (s : State) : State :=
  match s.undelivered? with
  | some site => s.enterPhase (.listed site) .toView
  | none => s.checkPaused

/-- With no current item, CYC takes up its next work by its mode (R35, R46). -/
def State.continueWork (s : State) : State :=
  match s.cyc.current, s.cyc.mode with
  | none, .running => s.choose
  | none, .pausing => s.pausingNext
  | _, _ => s

/-- What the cycle record forgets when an item stops being current (R26). -/
def Cyc.dropCurrent (c : Cyc) : Cyc :=
  { c with
    current := none
    gatheredIndent := .none
    gatheredMeasure := .none
    contactMark := none
    bufferFull := false
    cue := if c.cue = .room then .none else c.cue }

/-- The current item ends, and CYC goes on (R35, R37, R44). -/
def State.endItem (s : State) : State := { s with cyc := s.cyc.dropCurrent }.continueWork

/-! ### Result writes and computations -/

/-- A cue that a result write removes (R35, R37). -/
def Cyc.afterWrite (c : Cyc) (room : Bool) : Cyc := if c.cue = .room ∧ room then { c with cue := .none } else c

/-- CYC waits with a cue and no current item in RUNNING. -/
def Cyc.waitsWith (c : Cyc) (cue : Cue) : Bool := c.cue == cue && c.mode == .running && c.current.isNone

/-- What a result write wakes: a buffer-full episode ends with a FREE slot, the room and slot waits are tried again, and a
choice that waits with cue RESULT is made (R35, R37, R42, R43). -/
def State.afterWrite (s : State) : State :=
  let s := { s with
    cyc := { s.cyc.afterWrite s.hasRoom with bufferFull := s.cyc.bufferFull && s.mea.freeSlot?.isNone } }.trySetNeed
  if s.cyc.waitsWith .result then s.choose else s

/-- A computation completes: its result is written, its slot is FREE and its site is no longer delivered (R43, R153). -/
def State.completeSlot (s : State) (name : SlotName) (d : Delivery) : State :=
  let s := { s with mea := s.mea.set name .free, cyc.delivered := s.cyc.delivered.erase d.site }
  s.writeResult (s.cfg.resultOf d)

/-- CYC's permission to compute (R27, R152). -/
def StationMode.permits : StationMode → Bool
  | .running | .pausing | .paused => true
  | _ => false

/-- A READY slot starts; one without profiles completes at its start. The Bool says whether a result was written (R152). -/
def State.startSlot (s : State) (name : SlotName) : State × Bool :=
  match s.mea.get name with
  | .ready d =>
    if s.cyc.mode.permits then
      if d.profiles.isSome then ({ s with mea := s.mea.set name (.computing d) }, false)
      else (s.completeSlot name d, true)
    else (s, false)
  | _ => (s, false)

/-- Both READY slots start where the mode permits, A before B (R152; log 24). -/
def State.startComputations (s : State) : State :=
  match s.startSlot .a with
  | (s, wroteA) => match s.startSlot .b with
    | (s, wroteB) => if wroteA || wroteB then s.afterWrite else s

/-- The computation of a COMPUTING slot completes (R153). -/
def State.computeDone (s : State) (name : SlotName) : State :=
  match s.mea.get name with
  | .computing d => (s.completeSlot name d).afterWrite
  | _ => s

/-! ### Writing the end of an item -/

/-- DWELL_UNTRACEABLE for a cycle that made an impression and ended before HOLD (R134). -/
def State.dwellFlags (s : State) : IndentFlags :=
  { IndentFlags.none with
    dwellUntraceable := s.frc.holdSource.isNone && s.cyc.contactMark == some .internal }

/-- The write of an INDENT phase abandoned: R12 after contact, R10 before it. -/
def State.writeIndentAbandoned (s : State) (f : SiteFields) : State :=
  if s.cyc.contactMark.isSome then
    s.finish f.site (.indentAbandoned (s.cyc.gatheredIndent.union s.dwellFlags) s.frc.holdMean)
  else s.createUnmade f .abortedBeforeContact s.cyc.gatheredIndent

/-- The write for the current item when it is abandoned, by its phase; an item in ENDING is not written again (R44, R47,
R50). -/
def State.writeAbandoned (s : State) : State :=
  match s.cyc.current with
  | none => s
  | some c =>
    if c.step = .ending then s
    else match c.phase, c.work with
      | .toSite, .indent i => s.createUnmade i.fields .abortedBeforeContact .none
      | .indent, .indent i => s.writeIndentAbandoned i.fields
      | .toView, w => s.abandonMeasurement w
      | .image, w => s.abandonMeasurement w
      | _, _ => s

/-- Flags of a force report gathered for the current item (R34). -/
def IndentFlags.gather (g : IndentFlags) : ForceReport → IndentFlags
  | .overload _ => { g with overload := true }
  | .forceDisagree => { g with forceDisagree := true }
  | .lostContact => { g with lostContact := true }
  | .holdResults tol untraceable =>
    { g with forceTol := g.forceTol || tol, dwellUntraceable := g.dwellUntraceable || untraceable }
  | _ => g

/-- Gathers the flags of reports that come with a stop (R34, R120). -/
def Cyc.gatherAll (c : Cyc) (reports : List ForceReport) : Cyc :=
  { c with gatheredIndent := reports.foldl IndentFlags.gather c.gatheredIndent }

/-- The Force Unit's answer to a stop: its new record, and the hold results gathered for the current item. -/
def State.withForceStop (s : State) (r : Frc × List ForceReport) : State :=
  { s with frc := r.1, cyc := s.cyc.gatherAll r.2 }

/-! ### Station faults (R50) -/

/-- A station fault: the Force Unit's stop order comes first, so that the hold results stand in the write (R50, R120; log 19).
The item is dropped at the fault, not at RETRACTED (R50, R125; log 48). A fault in FAULTED leaves the first cause. A fault that cuts
START off leaves halt seen in START as it is, until a RESTART or a device reset (R30; DESIGN CHOICE, log 54). -/
def State.stationFault (s : State) (cause : FaultCause) : State :=
  if s.cyc.mode = .faulted then s
  else
    let s := (s.withForceStop (s.frc.stopForFault s.cfg s.now)).writeAbandoned
    let s := { s with
      cyc := { s.cyc.dropCurrent with mode := .faulted, fault := cause, batch := none, cue := .none } }
    let s := s.clearNeed.release.abandonImage
    { s with mot := s.mot.stop.1 }

/-! ### Start-up (R29 to R31) -/

/-- Whether the START of the present reset is over: RETRACTED, and after a device reset the image accepted (R30, R31). -/
def State.startOver (s : State) : Bool :=
  s.cyc.mode == .start && s.frc.state == .retracted && (s.cyc.startCause == .restart || !s.cyc.configReading)

/-- START ends, when it is over (R30, R31): CONFIG_ABSENT with no image held, HALTED when a HALT was seen, else READY with
LISTEN_IN and HELLO. With no image held and a HALT seen R31 gives FAULTED and R30 HALTED: the model takes FAULTED and clears
the flag (DEDUCED, log 50). -/
def State.tryEndStart (s : State) : State :=
  if s.startOver then
    if s.cyc.imageHeld = false then { s with cyc.mode := .faulted, cyc.fault := .configAbsent, cyc.haltSeen := false }
    else if s.cyc.haltSeen then
      { s with cyc.mode := .halted, cyc.haltSeen := false, fcu := s.fcu.halt }
    else { s with cyc.mode := .ready }.enterListenIn s.cyc.startCause
  else s

/-! ### Reports of the Force Unit -/

/-- Contact: the entry is created with the flags gathered so far, and the mark of the tick is kept (R11, R34, R134). -/
def State.onContact (s : State) : State :=
  match s.cyc.current with
  | some { work := .indent i, phase := .indent, .. } =>
    { s.createMade i.fields s.cyc.gatheredIndent with cyc.contactMark := some s.tbu.tickMark }
  | _ => s

/-- The fields of a current INDENT item. -/
def Cyc.indentFields (c : Cyc) : Option SiteFields :=
  match c.current with
  | some { work := .indent i, phase := .indent, .. } => some i.fields
  | _ => none

/-- The stroke is exhausted: NO_CONTACT, and the item is ENDING until RETRACTED (R10, R39). -/
def State.onStrokeExhausted (s : State) : State :=
  match s.cyc.indentFields with
  | some f => { s.createUnmade f .noContact s.cyc.gatheredIndent with cyc := s.cyc.setStep .ending }
  | none => s

/-- An overload, gathered: the item is written by R12 or R10 and is ENDING until RETRACTED (R39, R121). -/
def State.onOverload (s : State) : State := { s.writeAbandoned with cyc := s.cyc.setStep .ending }

/-- The completed write of a force cycle (R12). -/
def State.writeCompleted (s : State) (f : SiteFields) : State :=
  s.rewrite f.site (.completed (s.cyc.gatheredIndent.union s.dwellFlags) s.frc.holdMean)

/-- After a completed cycle: in PER_SITE mode an entry on the measure list goes on to TO_VIEW; else the item ends (R37). -/
def State.afterIndent (s : State) (w : Work) : State :=
  if s.cyc.workMode = .perSite ∧ w.site ∈ s.sst.measureList then s.enterPhase w .toView else s.endItem

/-- A completed INDENT: the write, the release and what follows (R12, R37, R39). -/
def State.indentCompleted (s : State) (i : IndentItem) : State :=
  if s.cyc.contactMark.isSome then (s.writeCompleted i.fields).release.afterIndent (.indent i)
  else s.release.endItem

/-- RETRACTED at the current item (R39, R44, R48). -/
def State.retractedAtItem (s : State) : State :=
  match s.cyc.current with
  | some { phase := .indent, step := .ending, .. } => s.release.endItem
  | some { work := .indent i, phase := .indent, step := .working } => s.indentCompleted i
  | _ => s.trySetNeed

/-- RETRACTED (R30, R39, R46, R48). -/
def State.onRetracted (s : State) : State := s.tryEndStart.retractedAtItem.checkPaused

/-- One report of the Force Unit (R34, R39, R49). -/
def State.onForceReport (s : State) (r : ForceReport) : State :=
  let s := { s with cyc.gatheredIndent := s.cyc.gatheredIndent.gather r }
  match r with
  | .contact => s.onContact
  | .strokeExhausted => s.onStrokeExhausted
  | .overload _ => s.onOverload
  | .sensorOpen => s.stationFault .sensorOpen
  | .unloadTimeout => s.stationFault .unloadTimeout
  | .retractTimeout => s.stationFault .retractTimeout
  | .retracted => s.onRetracted
  | .forceDisagree | .lostContact | .holdResults _ _ => s

/-- The Force Unit's answer to a pair or a timeout: its record, then its reports in order. -/
def State.withForce (s : State) (r : Frc × List ForceReport) : State :=
  r.2.foldl State.onForceReport { s with frc := r.1 }

/-- One sample pair taken whole (R110). -/
def State.samplePair (s : State) (p q : RawSample) : State :=
  s.withForce (s.frc.takePair s.cfg p.toInt q.toInt s.tbu.tickMark s.now)

/-! ### Reports of the Motion Unit -/

/-- A sequence done: the phase is reported done, its claim is released and the next phase begins (R38, R41, R96). -/
def State.onSequenceDone (s : State) : State :=
  match s.cyc.current with
  | some { work, phase := .toSite, .. } => s.release.enterPhase work .indent
  | some { work, phase := .toView, .. } => s.release.enterPhase work .image
  | _ => s

/-- One report of the Motion Unit. -/
def State.onMotionReport (s : State) : MotionReport → State
  | .sequenceDone => s.onSequenceDone
  | .failed cause => s.stationFault cause

/-- The Motion Unit's answer: its record, then its reports. -/
def State.withMotion (s : State) (r : Mot × List MotionReport) : State :=
  r.2.foldl State.onMotionReport { s with mot := r.1 }

/-- Whether the interlock is open now (R97). -/
def State.interlockOpen (s : State) : Bool := s.frc.interlockOpen s.cfg

/-- A completion of the Motion Unit, with the configuration, the interlock and the time it needs (R96, R97). -/
def State.motion (s : State) (f : Mot → ConfigImage → Bool → Time → Mot × List MotionReport) : State :=
  s.withMotion (f s.mot s.cfg s.interlockOpen s.now)

/-- Hands a sequence to the Motion Unit (R96). -/
def State.handSequence (s : State) (pieces : List Piece) : State :=
  s.withMotion (s.mot.runPieces s.cfg s.interlockOpen s.now pieces)

/-- The Motion Unit reports stopped, or comes to rest after a HALT or a RESTART: an item in ENDING ends, and a phase that
waited for rest is tried (R44, R48, R105, R148). -/
def State.onStopped (s : State) : State :=
  match s.cyc.current with
  | some { phase := .indent, step := .ending, .. } => s
  | some { step := .ending, .. } => s.release.endItem
  | _ => s.trySetNeed

/-- Every axis still (R105). -/
def State.axesStopped (s : State) (x y : Int) (z : Nat) : State :=
  if s.mot.stopping then { s with mot := s.mot.rest x y z, img := s.img.stopped }.onStopped else s

/-! ### Reports of the Image Unit -/

/-- The profiles an ending writes into the slot (R147). -/
def ImageEnding.profiles : ImageEnding → Option Profiles
  | .delivered p => some p
  | _ => none

/-- The measure set with the flag an ending adds (R34, R147). -/
def ImageEnding.flags (g : MeasureFlags) : ImageEnding → MeasureFlags
  | .delivered _ => g
  | .focusFailed => { g with focusFailed := true }
  | .captureStall => { g with captureStall := true }

/-- The delivery of the current item (R42, R150). -/
def State.delivery (s : State) (f : SiteFields) (e : ImageEnding) : Delivery where
  site := f.site
  kind := (s.cfg.indenterKind? f.indenter).getD .vickers
  force := f.force
  objective := f.objective
  measureSet := e.flags s.cyc.gatheredMeasure
  profiles := e.profiles

/-- The Image Unit at rest after its work: dark, IDLE, with no stage and no reserved slot; the rest of its record stays (R147;
log 29). -/
def Img.ended (i : Img) : Img :=
  { i with
    state := .idle
    stage := .none
    reserved := none
    settleEnd := none
    frameWaitEnd := none
    illumination := 0 }

/-- The reserved slot becomes READY with a delivery, and its site joins the delivered entries: at every ending of the IMAGE work,
where R42 says so of profiles delivered alone (R42, R147; DESIGN CHOICE, log 52). -/
def State.deliver (s : State) (name : SlotName) (d : Delivery) : State :=
  { s with mea := s.mea.set name (.ready d), img := s.img.ended, cyc.delivered := s.cyc.delivered ++ [d.site] }

/-- The computations an ending of the IMAGE work starts: a slot starts at its delivery where the mode permits (R152), but stays
READY where a HALT falls due together with the ending and is taken after it (R149; DEDUCED, log 51). -/
def State.computeDelivered (s : State) (haltDue : Bool) : State := if haltDue then s else s.startComputations

/-- The end of the IMAGE work: delivery, release, the start of computations, and the next work (R42, R147, R149, R152;
log 23). -/
def State.imageEnded (s : State) (e : ImageEnding) (haltDue : Bool) : State :=
  match s.img.reserved, s.cyc.current with
  | some name, some c =>
    match s.fieldsOf c.work with
    | some f =>
      let s := (s.deliver name (s.delivery f e)).release
      ({ s with cyc := s.cyc.dropCurrent }.computeDelivered haltDue).continueWork
    | none => s
  | _, _ => s

/-- The Image Unit's answer: its state, and its ending if its work ends. -/
def State.withImage (r : State × Option ImageEnding) (haltDue : Bool) : State :=
  match r.2 with
  | some e => r.1.imageEnded e haltDue
  | none => r.1

/-! ### Grants -/

/-- The force cycle of an INDENT item starts (R39, R113). -/
def State.startForce (s : State) (i : IndentItem) : State :=
  { s with frc := s.frc.startCycle (s.cfg.forceCycle i.fields.force i.dwell i.loadTime) }

/-- The work of a granted phase is handed out (R32, R38, R39, R41, R42). -/
def State.handOut (s : State) (c : Current) : State :=
  match c.phase, c.work, s.fieldsOf c.work with
  | .toSite, _, some f => s.handSequence (s.cfg.siteSequence f)
  | .toView, _, some f => s.handSequence (s.cfg.viewSequence f)
  | .indent, .indent i, _ => s.startForce i
  | .image, w, some f => s.beginImage w.site f.objective
  | _, _, _ => s

/-- A grant: the step becomes WORKING and the work is handed out (R32, R33). -/
def State.onGrant (s : State) : State :=
  match s.cyc.current with
  | some c => if c.step = .waiting then { s with cyc := s.cyc.setStep .working }.handOut c else s
  | none => s

/-! ### Abort (R44) -/

/-- A motion phase aborted: it ends at once where nothing moves, and else waits in ENDING for the stop (R44, R105). -/
def State.abortMotion (s : State) : State :=
  match s.mot.stop with
  | (m, true) => { s with mot := m }.release.endItem
  | (m, false) => { s with mot := m, cyc := s.cyc.setStep .ending }

/-- An IMAGE phase aborted and the stop given: the item ends once the Image Unit is IDLE (R148). -/
def State.endImageAbort (s : State) : State :=
  if s.img.state = .idle then s.release.endItem else { s with cyc := s.cyc.setStep .ending }

/-- An IMAGE phase aborted: it ends at once unless a fine step is under way (R44, R148). -/
def State.abortImage (s : State) : State := { s.abandonImage with mot := s.mot.stop.1 }.endImageAbort

/-- The item of a WORKING phase is abandoned by its phase (R44). -/
def State.abortWorking (s : State) (p : Phase) : State :=
  match p with
  | .toSite | .toView => s.writeAbandoned.abortMotion
  | .indent =>
    let s := (s.withForceStop (s.frc.stopForAbort s.cfg s.now)).writeAbandoned
    { s with cyc := s.cyc.setStep .ending }
  | .image => s.writeAbandoned.abortImage
  | .select | .compute => s

/-- ABORT_SITE at the current item (R44). -/
def State.abortItem (s : State) : State :=
  match s.cyc.current with
  | none => s
  | some c =>
    match c.step with
    | .ending => s
    | .waiting => s.clearNeed.writeAbandoned.endItem
    | .working => s.clearNeed.abortWorking c.phase

/-! ### HALT (R47, R90) -/

/-- The station mode after a HALT pulse (R30, R47). -/
def Cyc.haltMode (c : Cyc) : Cyc :=
  match c.mode with
  | .start => { c with haltSeen := true }
  | .faulted => c
  | _ => { c with mode := .halted }

/-- CYC on the pulse: the batch closes, the item is dropped and the cue is cleared (R47). -/
def Cyc.onHalt (c : Cyc) : Cyc := { c.dropCurrent.haltMode with batch := none, cue := .none }

/-- The HALT pulse at every block: FRC stops first, so that the hold results stand in the write (R47, R75, R90, R107, R126,
R149). -/
def State.halt (s : State) : State :=
  let s := (s.withForceStop (s.frc.halt s.cfg s.now)).writeAbandoned.haltImage
  { s with
    cyc := s.cyc.onHalt
    fcu := s.fcu.onHalt
    mot := s.mot.stop.1
    fli.notices := [] }

/-! ### RESTART (R31, R169) -/

/-- The cycle record when a RESTART takes effect (R26, R31). -/
def Cyc.restarted (c : Cyc) (cfg : ConfigImage) : Cyc :=
  { c.dropCurrent with
    mode := .start
    workMode := cfg.workMode
    batchLimit := cfg.batchLimit
    batch := none
    delivered := []
    cue := .none
    fault := .none
    haltSeen := false
    startCause := .restart }

/-- The interface state when a RESTART takes effect (R92): an own frame on the line is reported to no block. -/
def Fli.restarted (f : Fli) : Fli :=
  { f with
    notices := []
    messages := []
    txOverflow := false
    transmitter := f.transmitter.map fun t => { t with unreported := true } }

/-- A RESTART takes effect (R31, R169 and the RESTART columns of the blocks' tables). -/
def State.takeRestart (s : State) : State :=
  { s with
    cyc := s.cyc.restarted s.cfg
    sst := .empty
    fcu := .reset (emptied s.fcu.view)
    fli := s.fli.restarted
    mot := s.mot.stop.1
    frc := s.frc.resetRetract s.now
    img := s.img.restarted
    mea := .reset
    restartPending := false
    evc := countersReset }

end Sys2Proof.Machine
end

