-- ==== Sys2Proof/Machine/ForceCommands.lean ====
section
/-!
DEFINITION. The commands of the Force Unit (R110 to R124). SAMPLE_PAIR takes any sample pair whole. The named pairs are the
same operation on the one pair their row names; at any other pair they are not due and change nothing (log 5, log 7).
-/

namespace Sys2Proof.Machine

/-- The next pair is the 64th of TARE (R113). -/
def Frc.tareEnds (f : Frc) : Bool := f.state == .tare && f.pairs == 63

/-- The next pair is the 32nd of WIRE_TEST (R114). -/
def Frc.wireTestEnds (f : Frc) : Bool := f.state == .wireTest && f.pairs == 31

/-- The next pair is the 40th of WIRE_TEST (R114). -/
def Frc.recoveryEnds (f : Frc) : Bool := f.state == .wireTest && f.pairs == 39

/-- The next pair is load pair T (R116). -/
def Frc.rampEnds (f : Frc) : Bool :=
  match f.cycle with
  | some k => f.state == .load && f.pairs + 1 == k.loadTime
  | none => false

/-- The next pair's hold tick is the last of the dwell (R117). -/
def Frc.dwellEnds (f : Frc) : Bool :=
  match f.cycle with
  | some k => f.state == .hold && f.holdTicks + 1 == k.dwell
  | none => false

/-- The next pair is the 1,000th of the home drive (R124). -/
def Frc.homeDriveEnds (f : Frc) : Bool := f.state == .retract && f.drive == .homeDrive && f.pairs == 999

/-- The pair at hand is the 8th consecutive free one (R124). -/
def Frc.freeTestEnds (f : Frc) (c : ConfigImage) (p q : Int) : Bool :=
  f.state == .retract && f.drive == .freeTest && f.pairs == 7 && c.free p && c.free q

/-- A named pair: taken whole where it is the one its row names. -/
def State.namedPair (s : State) (named : Bool) (p q : RawSample) : State := if named then s.samplePair p q else s

/-- SAMPLE_PAIR (R110). -/
def execSamplePair (p q : RawSample) (s : State) : Host.Outcome State Fault Refusal :=
  s.act fun s => s.samplePair p q

/-- TARE_DONE (R113). -/
def execTareDone (p q : RawSample) (s : State) : Host.Outcome State Fault Refusal :=
  s.act fun s => s.namedPair s.frc.tareEnds p q

/-- WIRE_TEST_DONE (R114). -/
def execWireTestDone (p q : RawSample) (s : State) : Host.Outcome State Fault Refusal :=
  s.act fun s => s.namedPair s.frc.wireTestEnds p q

/-- WIRE_TEST_RECOVERED (R114). -/
def execWireTestRecovered (p q : RawSample) (s : State) : Host.Outcome State Fault Refusal :=
  s.act fun s => s.namedPair s.frc.recoveryEnds p q

/-- LOAD_RAMP_END (R116). -/
def execLoadRampEnd (p q : RawSample) (s : State) : Host.Outcome State Fault Refusal :=
  s.act fun s => s.namedPair s.frc.rampEnds p q

/-- DWELL_END (R117). -/
def execDwellEnd (p q : RawSample) (s : State) : Host.Outcome State Fault Refusal :=
  s.act fun s => s.namedPair s.frc.dwellEnds p q

/-- HOME_DRIVE_DONE (R124). -/
def execHomeDriveDone (p q : RawSample) (s : State) : Host.Outcome State Fault Refusal :=
  s.act fun s => s.namedPair s.frc.homeDriveEnds p q

/-- FREE_TEST_PASS (R124). -/
def execFreeTestPass (p q : RawSample) (s : State) : Host.Outcome State Fault Refusal :=
  s.act fun s => s.namedPair (s.frc.freeTestEnds s.cfg p.toInt q.toInt) p q

/-- UNLOAD_TIMEOUT (R122). -/
def execUnloadTimeout (s : State) : Host.Outcome State Fault Refusal :=
  s.act fun s => s.withForce (s.frc.unloadTimeout s.now)

/-- FAST_UNLOAD_TIMEOUT (R123). -/
def execFastUnloadTimeout (s : State) : Host.Outcome State Fault Refusal :=
  s.act fun s => s.withForce (s.frc.fastUnloadTimeout s.now)

/-- RETRACT_TIMEOUT (R124). -/
def execRetractTimeout (s : State) : Host.Outcome State Fault Refusal :=
  s.act fun s => s.withForce (s.frc.retractTimeout s.now)

end Sys2Proof.Machine
end

