-- ==== Sys2Proof/Machine/ImageCommands.lean ====
section
/-!
DEFINITION. The commands of the Image Unit and of the Measurement Unit (R138 to R145, R153).
-/

namespace Sys2Proof.Machine

/-- Focus settle end reached: a capture attempt begins (R145). -/
def State.focusSettleEnd (s : State) : State :=
  if s.img.state = .settle ∧ due s.img.settleEnd s.now then s.beginAttempt else s

/-- An FVAL rising edge: the frame is received for the attempt that waits for one (R141). -/
def Img.frameStart (i : Img) : Img := if i.state = .capture then { i with frameWaitEnd := none } else i

/-- A frame being received fails: a stall or a short frame (R142). -/
def State.frameFails (s : State) (haltDue : Bool) : State :=
  if s.img.receiving then State.withImage s.attemptFailed haltDue else s

/-- Frame wait end reached before a rising edge: no frame (R142). -/
def State.noFrame (s : State) (haltDue : Bool) : State :=
  if s.img.state = .capture ∧ due s.img.frameWaitEnd s.now then State.withImage s.attemptFailed haltDue else s

/-- FOCUS_SETTLE_END (R145). -/
def execFocusSettleEnd (s : State) : Host.Outcome State Fault Refusal :=
  s.act State.focusSettleEnd

/-- FVAL_RISE (R141). -/
def execFvalRise (s : State) : Host.Outcome State Fault Refusal :=
  s.act fun s => { s with img := s.img.frameStart }

/-- WINDOW_COMPLETE (R138, R141). -/
def execWindowComplete (lines : List (List Pixel)) (s : State) (haltDue : Bool := false) :
    Host.Outcome State Fault Refusal :=
  s.act fun s => State.withImage (s.windowReceived lines) haltDue

/-- PCLK_STALL (R142). -/
def execPclkStall (s : State) (haltDue : Bool := false) : Host.Outcome State Fault Refusal :=
  s.act fun s => s.frameFails haltDue

/-- SHORT_FRAME (R138, R142). -/
def execShortFrame (s : State) (haltDue : Bool := false) : Host.Outcome State Fault Refusal :=
  s.act fun s => s.frameFails haltDue

/-- FRAME_WAIT_END (R142). -/
def execFrameWaitEnd (s : State) (haltDue : Bool := false) : Host.Outcome State Fault Refusal :=
  s.act fun s => s.noFrame haltDue

/-- COMPUTE_COMPLETE (R153). -/
def execComputeComplete (slot : SlotName) (s : State) : Host.Outcome State Fault Refusal :=
  s.act fun s => s.computeDone slot

end Sys2Proof.Machine
end

