-- ==== Sys2Proof/Machine/Reports.lean ====
section
/-!
DEFINITION. What the station puts on the link: the result record (spec 11.4), the payloads of its messages (spec 11.3), the
STATUS pages (spec 11.5, R170) and the frames of its notices and messages (spec 11.1, 11.2).
-/

namespace Sys2Proof.Machine

/-! ### The result record -/

/-- The 243 bits of an entry's result record (spec 11.4); an absent field is sent as 0. -/
def Entry.recordBits (e : Entry) : List Bool :=
  bitsOf 16 e.fields.site ++ signedBits 20 e.fields.x ++ signedBits 20 e.fields.y
    ++ bitsOf 3 e.fields.indenter ++ bitsOf 3 e.fields.objective ++ bitsOf 17 e.fields.force
    ++ bitsOf 22 (e.fields.expected.getD 0) ++ bitsOf 3 e.outcome.code
    ++ e.indentFlags.bits ++ e.measureFlags.bits
    ++ bitsOf 22 (e.d1.getD 0) ++ bitsOf 22 (e.d2.getD 0) ++ bitsOf 20 (e.hardness.getD 0)
    ++ bitsOf 17 (e.meanForce.getD 0) ++ bitsOf 32 e.indentTime.toNat ++ bitsOf 8 e.count

/-- The ten flag bits of an attempt result: TOO_SMALL to CAPTURE_STALL (spec 11.4). -/
def MeasureFlags.attemptBits (f : MeasureFlags) : List Bool := f.bits.take 10

/-- A counter's seven bytes of COUNTERS: kind and mask in three bytes, then the value (spec 11.3). -/
def Counter.bytes (c : Counter) : List Byte :=
  bytesOf 3 (c.kind.code * 2 ^ 20 + c.mask.toNat) ++ bytesOf 4 c.value

/-- A message's kind byte (spec 11.1). -/
def Message.kindByte : Message → Byte
  | .reply _ _ _ => 0x20#8
  | .status _ _ _ => 0x21#8
  | .entry _ _ => 0x22#8
  | .siteDone _ _ _ => 0x23#8
  | .counters _ _ => 0x24#8

/-- A message's payload (spec 11.3, 11.4). -/
def Message.payload : Message → List Byte
  | .reply tag kind code => [tag, kind, BitVec.ofNat 8 code.code]
  | .status tag page fields => tag :: page :: fields
  | .entry tag e => tag :: packBits e.recordBits
  | .siteDone e attempt flags => packBits (e.recordBits ++ bitsOf 3 attempt.code ++ flags.attemptBits)
  | .counters tag cs => tag :: cs.flatMap Counter.bytes

/-- A notice's kind byte (spec 11.1). -/
def Notice.kindByte : Notice → Byte
  | .hello _ => 0x01#8
  | .claim _ => 0x02#8
  | .release _ => 0x03#8
  | .holdoff _ => 0x04#8

/-- A notice's payload: one byte (spec 11.2). -/
def Notice.payload : Notice → List Byte
  | .hello c => [BitVec.ofNat 8 c.code]
  | .claim k => [BitVec.ofNat 8 k.code]
  | .release k => [BitVec.ofNat 8 k.code]
  | .holdoff k => [BitVec.ofNat 8 k.code]

/-- An arbitration byte: class, sender address, destination (spec 11.1). -/
def arbitrationByte (isMessage : Bool) (sender dest : Nat) : Byte :=
  BitVec.ofNat 8 (128 * isMessage.toNat + 16 * sender + dest)

/-- The frame a station of a rank puts on the line: notices go to all nodes, messages to address 0 (R56, R87, spec 11). -/
def OutFrame.frame (rank : Nat) : OutFrame → LinkFrame
  | .notice n => .sealed (arbitrationByte false rank 15) n.kindByte n.payload
  | .message m => .sealed (arbitrationByte true rank 0) m.message.kindByte m.message.payload

/-! ### STATUS pages -/

/-- A yes or a set is 1 (DESIGN CHOICE, log 31). -/
def yesByte (b : Bool) : Byte := if b then 1#8 else 0#8

/-- A one-byte field. -/
def oneByte (n : Nat) : List Byte := [BitVec.ofNat 8 n]

/-- `count` free bytes of the present STATUS, from byte number `field` (log 30). -/
def State.freeBytes (s : State) (field count : Nat) : List Byte :=
  (List.range count).map fun i => Config.freeStatusByte (field + i) s.freeCount

/-- The current item's bytes of page 0: site id 0 for none; phase and step of no item are free (log 30). -/
def State.currentBytes (s : State) : List Byte :=
  match s.cyc.current with
  | some c => bytesOf 2 c.work.site ++ oneByte c.phase.code ++ oneByte c.step.code
  | none => bytesOf 2 0 ++ s.freeBytes 7 2

/-- The head deferral's code (spec 11.5). -/
def deferralCode : Option Deferral → Nat
  | none => 0
  | some d => match d.reason with
    | .mapFull => 1
    | .spacingWait => 2

/-- Page 0 (spec 11.5). -/
def State.statusPage0 (s : State) : List Byte :=
  oneByte s.cyc.mode.code ++ oneByte s.cyc.fault.code ++ oneByte s.cyc.workMode.code ++ oneByte s.cyc.batchLimit
    ++ oneByte (s.cyc.batch.getD 255) ++ s.currentBytes ++ oneByte s.sst.queue.length
    ++ oneByte (deferralCode s.sst.deferral) ++ bytesOf 2 s.sst.map.length ++ oneByte s.fli.rank
    ++ [yesByte s.fli.txOverflow] ++ bytesOf 4 s.tbu.stationTime.toNat ++ oneByte s.tbu.source.code
    ++ oneByte s.tbu.monitor.code ++ [yesByte s.tbu.refLost]

/-- The code of a need, a peer claim or a peer holdoff: NONE 0, QUIET 1, MOTION 2 (R52, R62). -/
def kindCode : Option ClaimKind → Nat
  | none => 0
  | some .quiet => 1
  | some .motion => 2

/-- A view entry's three bytes (spec 11.5); the ms of a peer never heard are free (log 30). -/
def State.viewBytes (s : State) (place : Nat) (v : ViewEntry) : List Byte :=
  BitVec.ofNat 8 (32 * v.rank + 8 * kindCode (v.claim.map (·.kind)) + 2 * kindCode (v.holdoff.map (·.kind))
      + v.lastHeard.isSome.toNat)
    :: match v.lastHeard with
      | some t => bytesOf 2 (min 65535 (elapsed t s.now))
      | none => s.freeBytes (106 + 3 * place + 1) 2

/-- The bytes of a view place with no entry: rank 0, the rest free (spec 11.5, log 30). -/
def State.noViewBytes (s : State) (place : Nat) : List Byte :=
  (Config.freeStatusByte (106 + 3 * place) s.freeCount &&& 0x1F#8) :: s.freeBytes (106 + 3 * place + 1) 2

/-- Page 1 (spec 11.5): the view entries in rank order (DESIGN CHOICE, log 32). -/
def State.statusPage1 (s : State) : List Byte :=
  oneByte s.fcu.state.code ++ oneByte (kindCode (s.fcu.need.map (·.kind))) ++ oneByte s.fcu.claim.code
    ++ oneByte s.fcu.holdoff.code ++ [yesByte s.fcu.doubtUntil.isSome]
    ++ oneByte (2 * s.fcu.duplicateRank.toNat + s.fcu.claimCollision.toNat)
    ++ (List.range 6).flatMap fun i =>
      match s.fcu.view[i]? with
      | some v => s.viewBytes i v
      | none => s.noViewBytes i

/-- The bytes of a signed position; those of an axis under way are free, since its counted steps depend on its drive
(log 30). -/
def State.positionBytes (s : State) (field : Nat) (underWay : Bool) (value : Int) : List Byte :=
  if underWay then s.freeBytes field 3 else signedBytes 3 value

/-- A reading's three bytes; 800000h is absent (spec 11.5). -/
def readingBytes : Option Int → List Byte
  | some r => signedBytes 3 r
  | none => [0x80#8, 0x00#8, 0x00#8]

/-- The bytes of a Z position; those of an axis under way are free (log 30). -/
def State.zBytes (s : State) : List Byte :=
  if s.mot.zActivity = .idle then bytesOf 3 s.mot.z else s.freeBytes 211 3

/-- Page 2 (spec 11.5). -/
def State.statusPage2 (s : State) : List Byte :=
  oneByte (s.mot.turret.getD 255) ++ oneByte s.mot.turretActivity.code ++ [yesByte s.mot.carriageHomed]
    ++ s.positionBytes 203 s.mot.movesX s.mot.x
    ++ s.positionBytes 206 s.mot.movesY s.mot.y
    ++ oneByte s.mot.carriageActivity.code ++ [yesByte s.mot.zHomed]
    ++ s.zBytes ++ oneByte s.mot.zActivity.code
    ++ oneByte s.frc.state.code ++ bytesOf 3 s.frc.setPoint ++ bytesOf 3 (s.frc.stroke.getD 0xFFFFFF)
    ++ readingBytes s.frc.primary ++ readingBytes s.frc.check

/-- A profile slot's state and site id; the site id of a FREE slot is free (log 30). -/
def State.slotBytes (s : State) (field : Nat) (p : ProfileSlot) : List Byte :=
  BitVec.ofNat 8 p.code :: match p with
    | .free => s.freeBytes field 2
    | .filling site => bytesOf 2 site
    | .ready d => bytesOf 2 d.site
    | .computing d => bytesOf 2 d.site

/-- Best so far's bytes: FFh for none, then Z and S, which are free for none (log 30). -/
def State.bestBytes (s : State) : List Byte :=
  match s.img.best with
  | some b => oneByte b.index ++ bytesOf 3 b.z ++ bytesOf 4 b.sharpness
  | none => 0xFF#8 :: s.freeBytes 305 7

/-- Page 3 (spec 11.5). -/
def State.statusPage3 (s : State) : List Byte :=
  oneByte s.img.state.code ++ oneByte s.img.stage.code ++ oneByte s.img.illumination ++ oneByte s.img.index
    ++ s.bestBytes ++ s.slotBytes 313 s.mea.slotA ++ s.slotBytes 316 s.mea.slotB

/-- Pages 4 and 5: the measure list's length and eight of its places, 0 beyond the list (spec 11.5). -/
def State.statusListPage (s : State) (first : Nat) : List Byte :=
  oneByte s.sst.measureList.length
    ++ (List.range 8).flatMap fun i => bytesOf 2 (s.sst.measureList.getD (first + i) 0)

/-- The fields of a STATUS page (R170, spec 11.5). -/
def State.statusFields (s : State) (page : Nat) : List Byte :=
  match page with
  | 0 => s.statusPage0
  | 1 => s.statusPage1
  | 2 => s.statusPage2
  | 3 => s.statusPage3
  | 4 => s.statusListPage 0
  | _ => s.statusListPage 8

end Sys2Proof.Machine
end

