-- ==== Sys2Proof/Machine/Requests.lean ====
section
/-!
DEFINITION. The Terminal Message Handler (chapter 10): the owners' tests, the accepted requests' effects and answers, and the
taking of a request.
-/

namespace Sys2Proof.Machine

/-! ### Owners' tests -/

/-- START is taken in READY or PAUSED (R28). -/
def State.startCode (s : State) : ReplyCode :=
  if s.cyc.mode = .ready ∨ s.cyc.mode = .paused then .accepted else .wrongMode

/-- PAUSE is taken in RUNNING (R28). -/
def State.pauseCode (s : State) : ReplyCode := if s.cyc.mode = .running then .accepted else .wrongMode

/-- RESUME is taken in HALTED (R28). -/
def State.resumeCode (s : State) : ReplyCode := if s.cyc.mode = .halted then .accepted else .wrongMode

/-- ABORT_SITE is refused with no current item (R44). -/
def State.abortCode (s : State) : ReplyCode := if s.cyc.current = none then .nothingToAbort else .accepted

/-- RESTART is refused in START (R169). -/
def State.restartCode (s : State) : ReplyCode := if s.cyc.mode = .start then .wrongMode else .accepted

/-- REF_RESELECT is refused in START, and with no image held or no reference configured (R133). -/
def State.reselectCode (s : State) : ReplyCode :=
  if s.cyc.mode = .start ∨ s.cyc.imageHeld = false ∨ s.cfg.referenceConfigured = false then .wrongMode else .accepted

/-- SET_MODE's two tests in order (R168). -/
def State.setModeCode (s : State) : ReplyCode :=
  if s.cyc.mode ≠ .ready then .wrongMode else if s.sst.measureList.isEmpty then .accepted else .busy

/-- QUERY_ENTRY is refused when no entry carries the id (R171). -/
def State.queryEntryCode (s : State) (site : Nat) : ReplyCode :=
  if (s.sst.entry? site).isSome then .accepted else .unknownId

/-- Whether a mask names only qualifiers that belong to a kind (R173). -/
def EventKind.admits (k : EventKind) (mask : Nat) : Bool := mask &&& k.qualifiers.toNat == mask

/-- SET_COUNTER's test (R173). -/
def setCounterCode (index kind mask : Nat) : ReplyCode :=
  match EventKind.ofCode? kind with
  | some k => if index ≤ 3 ∧ k.admits mask then .accepted else .badValue
  | none => .badValue

/-! ### Effects of accepted requests -/

/-- CYC chooses again when it waits with a cue (R35). -/
def State.wake (s : State) (cue : Cue) : State := if s.cyc.waitsWith cue then s.choose else s

/-- PLAN_SITE accepted: the item joins the queue, and cue PLAN is met (R4, R35). -/
def State.planSite (s : State) (r : PlanRecord) : State := (s.pushItem (.indent r.item)).wake .plan

/-- PLAN_REMEASURE accepted (R5, R35). -/
def State.planRemeasure (s : State) (site : Nat) : State := (s.pushItem (.remeasure site)).wake .plan

/-- PLAN_WITHDRAW accepted: cue PLAN or RESULT is met (R6, R35). -/
def State.planWithdraw (s : State) (site : Nat) : State :=
  if s.cyc.cue = .plan then (s.withdrawItem site).wake .plan else (s.withdrawItem site).wake .result

/-- MAP_CLEAR accepted (R24, R35). -/
def State.mapClear (s : State) : State := s.clearMap.wake .plan

/-- START accepted: RUNNING, READY slots start, and work is chosen (R28, R48, R152). -/
def State.startRunning (s : State) : State := { s with cyc.mode := .running }.startComputations.continueWork

/-- PAUSE accepted: PAUSING, the open batch closed, PAUSED at once with nothing to finish (R28, R46). -/
def State.pauseRunning (s : State) : State := { s with cyc.mode := .pausing, cyc.batch := none }.continueWork

/-- RESUME accepted: READY, and listen-in begins with HELLO(RESUME) (R48, R76). -/
def State.resumeHalted (s : State) : State := { s with cyc.mode := .ready }.enterListenIn .resume

/-- REF_RESELECT accepted, by the monitor state (R133). -/
def Tbu.reselect (t : Tbu) : Tbu :=
  match t.monitor with
  | .lost => { t with goodRun := 0, badRun := 0, monitor := .qualifying }
  | .qualifying => { t with goodRun := 0 }
  | .qualified => { t with goodRun := 0, monitor := .qualifying }
  | .off | .selected => t

/-- SET_MODE accepted: the limit clamped into 1..16 (R168). -/
def State.setMode (s : State) (m : WorkMode) (limit : Nat) : State :=
  { s with cyc.workMode := m, cyc.batchLimit := clampNat 1 16 limit }

/-- SET_COUNTER accepted: the kind and the mask taken, the value 0 (R173). -/
def State.setCounter (s : State) (index kind mask : Nat) : State :=
  { s with
    evc := s.evc.set index
      ({ kind := (EventKind.ofCode? kind).getD .none, mask := BitVec.ofNat 20 mask, value := 0 } : Counter) }

/-! ### Answers (R166): the reply stands before the SITE_DONE that the request causes -/

/-- A reply, and then the effect when it is ACCEPTED. -/
def State.answerThen (s : State) (tag kind : Byte) (code : ReplyCode) (effect : State → State) : State :=
  if code = .accepted then effect (s.reply tag kind code) else s.reply tag kind code

/-- SET_COUNTER: the effect, and then the answer, so that a dropped answer is counted under the new kind (R166, R173). -/
def State.answerSetCounter (s : State) (tag kind : Byte) (index k mask : Nat) : State :=
  if setCounterCode index k mask = .accepted then (s.setCounter index k mask).reply tag kind .accepted
  else s.reply tag kind .badValue

/-- QUERY_STATUS: one STATUS message, with the free bytes of this STATUS (R170; log 30). -/
def State.answerStatus (s : State) (tag : Byte) (page : Nat) : State :=
  { s with freeCount := s.freeCount + 1 }.send (.status tag (BitVec.ofNat 8 page) (s.statusFields page))

/-- QUERY_ENTRY: the entry, or UNKNOWN_ID (R171). -/
def State.answerEntry (s : State) (tag kind : Byte) (site : Nat) : State :=
  match s.sst.entry? site with
  | some e => s.send (.entry tag e)
  | none => s.reply tag kind .unknownId

/-- QUERY_COUNTERS: the four counters (R174). -/
def State.answerCounters (s : State) (tag : Byte) : State := s.send (.counters tag s.evc)

/-- The restart reply (R169): a restart that is pending already takes no further effect; a dropped restart reply lets the
restart take effect at the drop. -/
def State.acceptRestart (s : State) (tag kind : Byte) : State :=
  if s.restartPending then s.reply tag kind .accepted
  else if s.messageQueueFull then (s.reply tag kind .accepted).takeRestart
  else { s with restartPending := true }.queueMessage { message := .reply tag kind .accepted, restart := true }

/-- RESTART's answer (R169). -/
def State.answerRestart (s : State) (tag kind : Byte) : State :=
  if s.restartCode = .accepted then s.acceptRestart tag kind else s.reply tag kind .wrongMode

/-- The owner's tests, the effect and the answer of a decoded request (R166). -/
def State.answer (s : State) (tag kind : Byte) : Request → State
  | .planSite r => s.answerThen tag kind (s.planSiteCode r) (·.planSite r)
  | .planRemeasure site => s.answerThen tag kind (s.planRemeasureCode site) (·.planRemeasure site)
  | .planWithdraw site => s.answerThen tag kind (s.planWithdrawCode site) (·.planWithdraw site)
  | .mapClear => s.answerThen tag kind s.mapClearCode State.mapClear
  | .start => s.answerThen tag kind s.startCode State.startRunning
  | .pause => s.answerThen tag kind s.pauseCode State.pauseRunning
  | .resume => s.answerThen tag kind s.resumeCode State.resumeHalted
  | .abortSite => s.answerThen tag kind s.abortCode State.abortItem
  | .restart => s.answerRestart tag kind
  | .refReselect => s.answerThen tag kind s.reselectCode fun s => { s with tbu := s.tbu.reselect }
  | .setMode m limit => s.answerThen tag kind s.setModeCode (·.setMode m limit)
  | .queryStatus page => s.answerStatus tag page
  | .queryEntry site => s.answerEntry tag kind site
  | .queryCounters => s.answerCounters tag
  | .setCounter index k mask => s.answerSetCounter tag kind index k mask

/-! ### Taking a request -/

/-- A decoded request by its destination: to 15, only the four broadcast kinds reach their owners (R167). -/
def State.direct (s : State) (dest : BitVec 4) (tag kind : Byte) (r : Request) : State :=
  if dest = 15#4 ∧ r.broadcast = false then s.reply tag kind .badValue else s.answer tag kind r

/-- A request at the handler: decoding, destination, owner's tests, answer (R166, R167, R175). -/
def State.handleRequest (s : State) (dest : BitVec 4) (kind : Byte) (payload : List Byte) : State :=
  match decodeRequest kind payload with
  | .refusal code => s.reply (requestTag payload) kind code
  | .request r => s.direct dest (requestTag payload) kind r

/-- Whether a frame's destination is this station's: its rank, or 15; a station of rank 0 takes no frame (R86, R92). -/
def State.addressed (s : State) (dest : BitVec 4) : Bool :=
  s.fli.rank != 0 && (dest == 15#4 || dest.toNat == s.fli.rank)

/-- A request frame from address 0 at its end on the line: taken, dropped as stray for destinations 8..14, or another
node's (R86, R87, R92; log 8). -/
def State.takeRequest (s : State) (dest : BitVec 4) (kind : Byte) (payload : List Byte) : State :=
  if 8 ≤ dest.toNat ∧ dest.toNat ≤ 14 then s.linkError 3
  else if s.addressed dest then s.handleRequest dest kind payload
  else s

end Sys2Proof.Machine
end

