-- ==== Sys2Proof/Machine/Link.lean ====
section
/-!
DEFINITION. The Frame Link Interface (chapter 4): the transmitter, the ends of own frames, the receive engine, runs and
pulses, and the STOP drive.
-/

namespace Sys2Proof.Machine

/-! ### The two measures of the line (R78; log 9) -/

/-- The idle count after the last of some levels: the recessive bit times that end them, up to 12 (R78). -/
def recessiveTail (levels : List Bool) : Nat := min 12 (levels.reverse.takeWhile fun recessive => recessive).length

/-- The run length after the last of some levels: the dominant bit times that end them (R78). -/
def dominantTail (levels : List Bool) : Nat := (levels.reverse.takeWhile fun recessive => !recessive).length

/-- The engine at an idle count: SYNC waits for the line to be idle and is READY then (R85). -/
def EngineState.atIdle (e : EngineState) (idle : Nat) : EngineState := if e = .sync ∧ idle = 12 then .ready else e

/-- The engine at a dominant bit: READY takes it as the start bit of a frame (R85). -/
def EngineState.atDominant (e : EngineState) : EngineState := if e = .ready then .receiving else e

/-- The two measures and the engine after one more bit time (R78, R85). -/
def Fli.sample (f : Fli) (recessive : Bool) : Fli :=
  if recessive then
    { f with
      idleCount := min 12 (f.idleCount + 1), runLength := 0, engine := f.engine.atIdle (min 12 (f.idleCount + 1)) }
  else { f with idleCount := 0, runLength := f.runLength + 1, engine := f.engine.atDominant }

/-- The two measures and the engine after some levels (R78, R85). -/
def Fli.sees (f : Fli) (levels : List Bool) : Fli := levels.foldl Fli.sample f

/-- The measures after levels that begin with a dominant bit (R78). -/
def Fli.measured (f : Fli) (levels : List Bool) : Fli :=
  { f with idleCount := recessiveTail levels, runLength := dominantTail levels }

/-- The measures and the engine at a dominant bit that follows some levels (R78, R85; that a command carries them: log 9). -/
def Fli.dominantAfter (f : Fli) (since : List Bool) : Fli := (f.sees since).sample false

/-- The interface state at the end of a frame on the line: the engine READY, the measures those of the frame's levels (R78,
R85). -/
def Fli.frameEnded (f : Fli) (levels : List Bool) : Fli := { f.measured levels with engine := .ready }

/-! ### Getting onto the line (R80, R81) -/

/-- The frame the next start takes: the head of the notice queue, else of the message queue (R80). -/
def Fli.nextFrame (f : Fli) : Option OutFrame :=
  match f.notices, f.messages with
  | n :: _, _ => some (.notice n)
  | [], m :: _ => some (.message m)
  | [], [] => none

/-- The queues without the frame the start takes (R80). -/
def Fli.dequeued (f : Fli) : Fli :=
  match f.notices, f.messages with
  | _ :: rest, _ => { f with notices := rest }
  | [], _ :: rest => { f with messages := rest }
  | [], [] => f

/-- Whether a start may be made: the line idle, the transmitter empty, a rank of 1..7 and no STOP pulse driven (R80, R91). -/
def Fli.mayStart (f : Fli) : Bool :=
  f.idleCount == 12 && f.transmitter.isNone && f.rank != 0 && f.stopDrive != .driving

/-- A dominant bit that begins a run: a READY engine takes it as the start bit of a frame (R78, R85). -/
def Fli.startBit (f : Fli) : Fli :=
  { f with idleCount := 0, runLength := 1, engine := f.engine.atDominant }

/-- A frame starts (R80). -/
def Fli.start (f : Fli) : Fli :=
  match f.nextFrame with
  | some frame =>
    if f.mayStart then
      { f.dequeued.startBit with transmitter := some { frame := frame, stale := false, unreported := false } }
    else f
  | none => f

/-- A frame leaves the transmitter for the head of its queue; a notice whose kind was queued meanwhile, a stale frame and one
that a RESTART cut off are discarded (R81, R92; log 34). -/
def Fli.returned (f : Fli) : Fli :=
  match f.transmitter with
  | none => f
  | some t =>
    if t.unreported || t.stale then { f with transmitter := none }
    else match t.frame with
      | .notice n =>
        if f.notices.any n.sameKind then { f with transmitter := none }
        else { f with transmitter := none, notices := n :: f.notices }
      | .message m => { f with transmitter := none, messages := m :: f.messages }

/-- An own frame that lost arbitration: it read dominant where it sent recessive, after some levels (R78, R81). -/
def Fli.lost (f : Fli) (since : List Bool) : Fli :=
  if f.transmitter.isSome then f.returned.dominantAfter since else f

/-! ### Ends of own frames (R82) -/

/-- A grant is reported to the Cycle Controller (R58). -/
def State.reportGrant (r : State × Option ClaimKind) : State :=
  match r.2 with
  | some _ => r.1.onGrant
  | none => r.1

/-- The completion of an own frame, reported to the block that queued it (R82, R87, R169). -/
def State.reportCompleted (s : State) (t : Transmission) : State :=
  if t.unreported then s
  else match t.frame with
    | .notice n => State.reportGrant (s.noticeCompleted n t.stale)
    | .message m => if m.restart then s.takeRestart else s

/-- The own frame completes: the transmitter is empty, and the frame has ended on the line (R78, R82, R85). -/
def State.ownCompleted (s : State) : State :=
  match s.fli.transmitter with
  | some t =>
    { s with fli := { s.fli.frameEnded (t.frame.frame s.fli.rank).line with transmitter := none } }.reportCompleted t
  | none => s

/-- The error of an own frame, reported to the block that queued it; doubt begins (R59, R82, R169). -/
def State.reportFailed (s : State) (t : Transmission) : State :=
  if t.unreported then s
  else match t.frame with
    | .notice n => s.noticeFailed n
    | .message m => if m.restart then s.beginDoubt.takeRestart else s.beginDoubt

/-- The own frame ends with an error: it is lost, and the engine goes to SYNC (R82, R85). -/
def State.ownFailed (s : State) : State :=
  match s.fli.transmitter with
  | some t => { s with fli := { s.fli with transmitter := none, engine := .sync } }.reportFailed t
  | none => s

/-- The own frame reads dominant where it sent recessive, after some levels, and ends with an error (R78, R82). -/
def State.ownMismatched (s : State) (since : List Bool) : State :=
  if s.fli.transmitter.isSome then { s with fli := s.fli.dominantAfter since }.ownFailed else s

/-! ### The receive engine (R85 to R87) -/

/-- A taken frame handed on by its class (R87). -/
def State.handOn (s : State) (f : LinkFrame) : State :=
  if f.isMessage = false then s.noticeTaken f
  else if f.sender = 0 then s.handleRequest f.dest f.kind f.payload
  else s.linkError 3

/-- A frame that is not the station's own, with a good check, judged by its destination (R86, 3 to 5); a PENDING claim is
checked again when it is taken (R57). -/
def State.judgeDestination (s : State) (f : LinkFrame) : State :=
  if 8 ≤ f.dest.toNat ∧ f.dest.toNat ≤ 14 then s.linkError 3
  else if s.addressed f.dest then (s.handOn f).recheckPending
  else s

/-- Whether a frame read from the line is the one in the transmitter. -/
def Fli.sends (f : Fli) (frame : LinkFrame) : Bool :=
  match f.transmitter with
  | some t => t.frame.frame f.rank == frame
  | none => false

/-- A frame that is not the station's own, judged in R86's order: its check, then its destination. -/
def State.judgeOther (s : State) (f : LinkFrame) : State :=
  if f.checkGood = false then (s.linkError 0).beginDoubt else s.judgeDestination f

/-- A frame at its end on the line. A frame that differs from the one still in the transmitter is no frame end: the station's
own frame would have lost arbitration or failed first (R81, R82, R86; log 5). -/
def State.judgeFrame (s : State) (f : LinkFrame) (line : List Bool) : State :=
  if s.fli.transmitter.isSome then if s.fli.sends f then s.ownCompleted else s
  else { s with fli := s.fli.frameEnded line }.judgeOther f

/-- The end of a frame on the line, in RECEIVING (R85, R86). -/
def State.frameEnd (s : State) (line : List Bool) : State :=
  match readFrame line with
  | some f => if s.fli.engine = .receiving then s.judgeFrame f line else s
  | none => s

/-- The levels of a frame's first bytes on the line, from its start bit (R79). -/
def headLine (bytes : List Byte) : List Bool := stuff 0 (false :: bytes.flatMap byteBits)

/-- The reading of a frame given up after some levels: the engine is in SYNC, and READY at once where these leave the line idle
(R78, R85). -/
def Fli.givenUp (f : Fli) (levels : List Bool) : Fli :=
  { f.measured levels with engine := EngineState.sync.atIdle (recessiveTail levels) }

/-- A length byte above 32: framing error, doubt, SYNC (R85); the measures are those of the levels up to it (R78). -/
def State.badLength (s : State) (arbitration kind length : Byte) : State :=
  if s.fli.engine = .receiving ∧ 32 < length.toNat then
    ({ s with fli := s.fli.givenUp (headLine [arbitration, kind, length]) }.linkError 1).beginDoubt
  else s

/-- A run reaches 9 bit times: a frame being received is discarded (R86). -/
def Fli.runOf9 (f : Fli) : Fli :=
  { f with idleCount := 0, runLength := 9, engine := if f.engine = .receiving then .sync else f.engine }

/-- What a run of a full length is counted as (R86, R88, R89): a framing error, a malformed pulse, a CLEAR pulse, or a HALT,
which was taken when the run reached 500. -/
def State.countRun (s : State) (length : Nat) : State :=
  if length < 9 then s
  else if length < 17 then (s.linkError 1).beginDoubt
  else if length < 50 then (s.linkError 2).beginDoubt
  else if length ≤ 150 then s.beginDoubt
  else if length < 500 then (s.linkError 2).beginDoubt
  else s

/-- The end of a run of 9 or more bit times, at its first recessive bit: SYNC, and the run is counted (R78, R86, R88). -/
def State.runEnd (s : State) (length : Nat) : State :=
  if 9 ≤ length then
    { s with fli := { s.fli with idleCount := 1, runLength := 0, engine := .sync } }.countRun length
  else s

/-- The HALT is taken while the run is held: an own frame has ended with an error by then (R88, R90; log 21). -/
def State.haltPulse (s : State) : State := { s with fli.idleCount := 0, fli.runLength := 500 }.ownFailed.halt

/-- The line is idle: SYNC gives READY, and a frame being received goes on being received (R78, R85; log 43). The dominant bit
that ends an idle line within a frame comes as START_BIT, or with the next command that carries levels (log 9). -/
def Fli.idle (f : Fli) : Fli :=
  if f.stopDrive = .driving then f
  else { f with idleCount := 12, runLength := 0, engine := f.engine.atIdle 12 }

/-! ### The STOP drive (R91) -/

/-- An own frame that a pulse of the station's own overrides ends with an error past its arbitration byte and as a loss within
it (R81, R82, R91). -/
def State.overridden (s : State) (pastArbitration : Bool) : State :=
  if pastArbitration then s.ownFailed else { s with fli := s.fli.returned }

/-- A pulse of the station's own, after some levels: the line is driven dominant, which a READY engine takes as a start bit, and
an own frame is overridden (R78, R85, R91). -/
def State.drivePulse (s : State) (pastArbitration : Bool) (since : List Bool) : State :=
  let s := { s with fli := s.fli.dominantAfter since }.overridden pastArbitration
  { s with fli.stopDrive := .driving }

/-- STOP_N asserted: a pulse is driven; no effect while the station already drives (R91; log 39). -/
def State.stopAsserted (s : State) (pastArbitration : Bool) (since : List Bool) : State :=
  if s.fli.stopDrive = .driving then s else s.drivePulse pastArbitration since

/-- The end of the 1,000 µs pulse: a further one waits while STOP_N is asserted (R91). -/
def Fli.stopPulseEnd (f : Fli) (stillAsserted : Bool) : Fli :=
  if f.stopDrive = .driving then { f with stopDrive := if stillAsserted then .waiting else .notDriving } else f

/-- The further pulse after 1,000 µs with STOP_N still asserted: it ends an own frame as the first one does (R91). -/
def State.stopPulseRepeat (s : State) (pastArbitration : Bool) (since : List Bool) : State :=
  if s.fli.stopDrive = .waiting then s.drivePulse pastArbitration since else s

end Sys2Proof.Machine
end

