-- ==== Sys2Proof/Machine/LinkCommands.lean ====
section
/-!
DEFINITION. The commands of the frame link (R78 to R92).
-/

namespace Sys2Proof.Machine

/-- TRANSMIT_START (R78, R80, R85): the line must be idle after the levels seen since the last command that told of one, which
take the engine along. -/
def execTransmitStart (s : State) (since : List Bool := []) : Host.Outcome State Fault Refusal :=
  s.act fun s => { s with fli := (s.fli.sees since).start }

/-- ARBITRATION_LOSS (R78, R81). -/
def execArbitrationLoss (s : State) (since : List Bool := []) : Host.Outcome State Fault Refusal :=
  s.act fun s => { s with fli := s.fli.lost since }

/-- OWN_FRAME_COMPLETED (R82). -/
def execOwnFrameCompleted (s : State) : Host.Outcome State Fault Refusal :=
  s.act State.ownCompleted

/-- OWN_FRAME_ERROR (R78, R82). -/
def execOwnFrameError (s : State) (since : List Bool := []) : Host.Outcome State Fault Refusal :=
  s.act fun s => s.ownMismatched since

/-- FRAME_END (R86). -/
def execFrameEnd (line : List Bool) (s : State) : Host.Outcome State Fault Refusal :=
  s.act fun s => s.frameEnd line

/-- LENGTH_ABOVE_32 (R85). -/
def execLengthAbove32 (length : Byte) (s : State) (arbitration : Byte := 0#8) (kind : Byte := 0#8) :
    Host.Outcome State Fault Refusal :=
  s.act fun s => s.badLength arbitration kind length

/-- DOMINANT_RUN_REACHES_9 (R86). -/
def execDominantRunReaches9 (s : State) : Host.Outcome State Fault Refusal :=
  s.act fun s => { s with fli := s.fli.runOf9 }

/-- DOMINANT_RUN_END (R86, R88, R89). -/
def execDominantRunEnd (length : Nat) (s : State) : Host.Outcome State Fault Refusal :=
  s.act fun s => s.runEnd length

/-- HALT_PULSE (R88, R90). -/
def execHaltPulse (s : State) : Host.Outcome State Fault Refusal :=
  s.act State.haltPulse

/-- LINE_IDLE (R78, R85). -/
def execLineIdle (s : State) : Host.Outcome State Fault Refusal :=
  s.act fun s => { s with fli := s.fli.idle }

/-- START_BIT (R85). -/
def execStartBit (s : State) : Host.Outcome State Fault Refusal :=
  s.act fun s => { s with fli := s.fli.startBit }

/-- STOP_ASSERTED (R78, R91). -/
def execStopAsserted (pastArbitration : Bool) (s : State) (since : List Bool := []) : Host.Outcome State Fault Refusal :=
  s.act fun s => s.stopAsserted pastArbitration since

/-- STOP_PULSE_END (R91). -/
def execStopPulseEnd (stillAsserted : Bool) (s : State) : Host.Outcome State Fault Refusal :=
  s.act fun s => { s with fli := s.fli.stopPulseEnd stillAsserted }

/-- STOP_PULSE_REPEAT (R78, R91). -/
def execStopPulseRepeat (s : State) (pastArbitration : Bool := false) (since : List Bool := []) :
    Host.Outcome State Fault Refusal :=
  s.act fun s => s.stopPulseRepeat pastArbitration since

end Sys2Proof.Machine
end

