-- ==== Sys2Proof/Machine/MotionCommands.lean ====
section
/-!
DEFINITION. The commands of the Motion Unit (R96 to R108).
-/

namespace Sys2Proof.Machine

/-- A fine step's completion: the height reached goes to the Image Unit that waits for it (R103, R145). -/
def State.fineStepDone (s : State) : State :=
  match s.mot.fineDone with
  | (m, some z) => if s.img.state = .step then { s with mot := m }.stepReported z else { s with mot := m }
  | (m, none) => { s with mot := m }

/-- TURRET_HOME_FOUND (R98). -/
def execTurretHomeFound (s : State) : Host.Outcome State Fault Refusal :=
  s.act fun s => s.motion Mot.turretHome

/-- INDEX_COMPLETE (R99). -/
def execIndexComplete (edges : Nat) (s : State) : Host.Outcome State Fault Refusal :=
  s.act fun s => s.motion fun m c i t => m.indexDone c i t edges

/-- CARRIAGE_AXIS_HOME (R100). -/
def execCarriageAxisHome (axis : Axis) (s : State) : Host.Outcome State Fault Refusal :=
  s.act fun s => s.motion fun m c i t => m.axisHome c i t axis

/-- CARRIAGE_IN_POSITION (R101). -/
def execCarriageInPosition (s : State) : Host.Outcome State Fault Refusal :=
  s.act fun s => s.motion Mot.carriageDone

/-- Z_HOME_FOUND (R102). -/
def execZHomeFound (s : State) : Host.Outcome State Fault Refusal :=
  s.act fun s => s.motion Mot.zHome

/-- Z_IN_POSITION (R102). -/
def execZInPosition (s : State) : Host.Outcome State Fault Refusal :=
  s.act fun s => s.motion Mot.rapidDone

/-- FINE_STEP_COMPLETE (R103). -/
def execFineStepComplete (s : State) : Host.Outcome State Fault Refusal :=
  s.act State.fineStepDone

/-- MOVE_DEADLINE (R106). -/
def execMoveDeadline (s : State) : Host.Outcome State Fault Refusal :=
  s.act fun s => s.withMotion (s.mot.deadlineReached s.now)

/-- SETTLE_END (R104). -/
def execSettleEnd (s : State) : Host.Outcome State Fault Refusal :=
  s.act fun s => s.withMotion (s.mot.settleDone s.now)

/-- AXES_STOPPED (R105). -/
def execAxesStopped (x y : Int) (z : Nat) (s : State) : Host.Outcome State Fault Refusal :=
  s.act fun s => s.axesStopped x y z

end Sys2Proof.Machine
end

