-- ==== Sys2Proof/Machine/RequestCommands.lean ====
section
/-!
DEFINITION. The terminal requests as commands: each is a request frame from address 0 at its end on the line, with its
destination and payload (R166, R167, R175). The line's own part of such a frame is FRAME_END (log 8).
-/

namespace Sys2Proof.Machine

/-- PLAN_SITE (R4), kind byte 10h. -/
def execPlanSite (dest : BitVec 4) (payload : List Byte) (s : State) : Host.Outcome State Fault Refusal :=
  s.act fun s => s.takeRequest dest 0x10#8 payload

/-- PLAN_REMEASURE (R5), kind byte 11h. -/
def execPlanRemeasure (dest : BitVec 4) (payload : List Byte) (s : State) : Host.Outcome State Fault Refusal :=
  s.act fun s => s.takeRequest dest 0x11#8 payload

/-- PLAN_WITHDRAW (R6), kind byte 12h. -/
def execPlanWithdraw (dest : BitVec 4) (payload : List Byte) (s : State) : Host.Outcome State Fault Refusal :=
  s.act fun s => s.takeRequest dest 0x12#8 payload

/-- MAP_CLEAR (R24), kind byte 13h. -/
def execMapClear (dest : BitVec 4) (payload : List Byte) (s : State) : Host.Outcome State Fault Refusal :=
  s.act fun s => s.takeRequest dest 0x13#8 payload

/-- START (R28), kind byte 14h. -/
def execStart (dest : BitVec 4) (payload : List Byte) (s : State) : Host.Outcome State Fault Refusal :=
  s.act fun s => s.takeRequest dest 0x14#8 payload

/-- PAUSE (R28, R46), kind byte 15h. -/
def execPause (dest : BitVec 4) (payload : List Byte) (s : State) : Host.Outcome State Fault Refusal :=
  s.act fun s => s.takeRequest dest 0x15#8 payload

/-- RESUME (R28, R48), kind byte 16h. -/
def execResume (dest : BitVec 4) (payload : List Byte) (s : State) : Host.Outcome State Fault Refusal :=
  s.act fun s => s.takeRequest dest 0x16#8 payload

/-- ABORT_SITE (R44), kind byte 17h. -/
def execAbortSite (dest : BitVec 4) (payload : List Byte) (s : State) : Host.Outcome State Fault Refusal :=
  s.act fun s => s.takeRequest dest 0x17#8 payload

/-- RESTART (R169), kind byte 18h. -/
def execRestart (dest : BitVec 4) (payload : List Byte) (s : State) : Host.Outcome State Fault Refusal :=
  s.act fun s => s.takeRequest dest 0x18#8 payload

/-- REF_RESELECT (R133), kind byte 19h. -/
def execRefReselect (dest : BitVec 4) (payload : List Byte) (s : State) : Host.Outcome State Fault Refusal :=
  s.act fun s => s.takeRequest dest 0x19#8 payload

/-- SET_MODE (R168), kind byte 1Ah. -/
def execSetMode (dest : BitVec 4) (payload : List Byte) (s : State) : Host.Outcome State Fault Refusal :=
  s.act fun s => s.takeRequest dest 0x1A#8 payload

/-- QUERY_STATUS (R170), kind byte 1Bh. -/
def execQueryStatus (dest : BitVec 4) (payload : List Byte) (s : State) : Host.Outcome State Fault Refusal :=
  s.act fun s => s.takeRequest dest 0x1B#8 payload

/-- QUERY_ENTRY (R171), kind byte 1Ch. -/
def execQueryEntry (dest : BitVec 4) (payload : List Byte) (s : State) : Host.Outcome State Fault Refusal :=
  s.act fun s => s.takeRequest dest 0x1C#8 payload

/-- QUERY_COUNTERS (R174), kind byte 1Dh. -/
def execQueryCounters (dest : BitVec 4) (payload : List Byte) (s : State) : Host.Outcome State Fault Refusal :=
  s.act fun s => s.takeRequest dest 0x1D#8 payload

/-- SET_COUNTER (R173), kind byte 1Eh. -/
def execSetCounter (dest : BitVec 4) (payload : List Byte) (s : State) : Host.Outcome State Fault Refusal :=
  s.act fun s => s.takeRequest dest 0x1E#8 payload

/-- UNKNOWN_KIND (R175): answered UNKNOWN_KIND, before the destination is looked at. -/
def execUnknownKind (dest : BitVec 4) (kind : Byte) (payload : List Byte) (s : State) : Host.Outcome State Fault Refusal :=
  s.act fun s => s.takeRequest dest kind payload

end Sys2Proof.Machine
end

