-- ==== Sys2Proof/Machine/ResetCommands.lean ====
section
/-!
DEFINITION. DEVICE_RESET, RESET_N_RELEASE and CONFIG_READ_DONE (R29, R127, R135).
-/

namespace Sys2Proof.Machine

/-- The monitor begins to qualify when an image with a reference configured is accepted (R130, R135). -/
def Tbu.onImage (t : Tbu) (configured : Bool) : Tbu :=
  if configured then { t with monitor := .qualifying, goodRun := 0 } else t

/-- The image is accepted: its clamped fields are held, the work mode and the batch limit take their configured values, the
view has one entry per configured peer, and START may end (R26, R29, R30, R62, R130). -/
def State.acceptImage (s : State) (image : List Byte) : State :=
  let c := readConfigImage image
  { s with
    cfg := c
    cyc :=
      { s.cyc with
        workMode := c.workMode
        batchLimit := c.batchLimit
        imageHeld := true
        configReading := false }
    fcu.view := emptyView c.peerSet s.fli.rank
    tbu := s.tbu.onImage c.referenceConfigured }.tryEndStart

/-- The image is not accepted: no image is held, and the station faults with CONFIG_ABSENT (R29). -/
def State.refuseImage (s : State) : State :=
  { s with cyc.imageHeld := false, cyc.configReading := false }.stationFault .configAbsent

/-- The read is done (R29): the marker decides. -/
def State.configRead (s : State) (image : List Byte) : State :=
  if s.cyc.configReading then if markerGood image then s.acceptImage image else s.refuseImage else s

/-- DEVICE_RESET (R29 and the device-reset columns): every record at its reset value, the rank latched from the straps,
RESET_N held. The carriage and Z positions, which R93 calls undefined, are free values (log 4). -/
def execDeviceReset (straps : BitVec 3) (s : State) : Host.Outcome State Fault Refusal :=
  .next (State.deviceReset straps.toNat (Config.freeCarriageX s.freeCount).toInt (Config.freeCarriageY s.freeCount).toInt
    ((Config.freeZ s.freeCount).toNat % 500001) (s.freeCount + 1) s.pending)

/-- RESET_N_RELEASE (R127, R135): the reset retract and the tick begin; no effect while RESET_N is not held. -/
def execResetNRelease (s : State) : Host.Outcome State Fault Refusal :=
  .next (if s.resetHeld then s.released else s)

/-- CONFIG_READ_DONE (R29): no effect unless the read is in hand, and none while RESET_N is held, since the image is accepted
beside the reset retract, with the monitor OFF until then (R127, R135; log 36). -/
def execConfigReadDone (image : List Byte) (s : State) : Host.Outcome State Fault Refusal :=
  s.act fun s => s.configRead image

end Sys2Proof.Machine
end

