-- ==== Sys2Proof/Machine/TickCommands.lean ====
section
/-!
DEFINITION. The tick and the Frame Coordination Unit's deadlines (R54, R60, R68 to R72, R129).
-/

namespace Sys2Proof.Machine

/-- The tick: station time increases by 1 and wraps, and the tick carries its source's mark (R129). -/
def Tbu.tick (t : Tbu) : Tbu := { t with stationTime := t.stationTime + 1, tickMark := t.source }

/-- Listen-in end reached: ACTIVE, and a waiting need meets the permit test (R69). -/
def State.listenInEnd (s : State) : State :=
  if s.fcu.state = .listenIn ∧ due s.fcu.listenEnd s.now then
    { s with fcu.state := .active, fcu.listenEnd := none }.permitTest
  else s

/-- Doubt-until reached: doubt ends, and a waiting need meets the permit test (R70). -/
def State.doubtEnd (s : State) : State :=
  if due s.fcu.doubtUntil s.now then { s with fcu.doubtUntil := none }.permitTest else s

/-- Claim refresh due reached: CLAIM is queued again (R60; log 12). -/
def State.claimRefresh (s : State) : State :=
  match s.fcu.claim with
  | .held k =>
    if due s.fcu.claimRefresh s.now then
      { s with fcu.claimRefresh := some (s.ahead s.cfg.refreshInterval) }.queueNotice (.claim k)
    else s
  | _ => s

/-- Whether the refreshes of an own holdoff for `k` go on (R72). -/
def Fcu.holdoffGoesOn (f : Fcu) (k : ClaimKind) : Bool := f.need.map (·.kind) == some k && !f.holds

/-- Holdoff refresh due reached: HOLDOFF is queued again (R72; log 12). -/
def State.holdoffRefresh (s : State) : State :=
  match s.fcu.holdoff with
  | .sent k =>
    if due s.fcu.holdoffRefresh s.now ∧ s.fcu.holdoffGoesOn k then
      { s with fcu.holdoffRefresh := some (s.ahead s.cfg.refreshInterval) }.queueNotice (.holdoff k)
    else s
  | _ => s

/-- TICK (R54, R129). -/
def execTick (s : State) : Host.Outcome State Fault Refusal :=
  s.act fun s => { s with tbu := s.tbu.tick }.countWait

/-- LISTEN_IN_END (R69). -/
def execListenInEnd (s : State) : Host.Outcome State Fault Refusal :=
  s.act State.listenInEnd

/-- DOUBT_END (R70). -/
def execDoubtEnd (s : State) : Host.Outcome State Fault Refusal :=
  s.act State.doubtEnd

/-- CLAIM_REFRESH_DUE (R60). -/
def execClaimRefreshDue (s : State) : Host.Outcome State Fault Refusal :=
  s.act State.claimRefresh

/-- HOLDOFF_REFRESH_DUE (R72). -/
def execHoldoffRefreshDue (s : State) : Host.Outcome State Fault Refusal :=
  s.act State.holdoffRefresh

/-- The expiries of a tick: the lapses, after which a waiting need meets the permit test; where none is reached nothing changes
(R55, R68; log 5, log 16). -/
def State.viewExpiry (s : State) : State := if s.fcu.expires s.now then s.expireView.permitTest else s

/-- VIEW_EXPIRY (R68). -/
def execViewExpiry (s : State) : Host.Outcome State Fault Refusal :=
  s.act State.viewExpiry

/-- HOLDOFF_QUEUED (R71): tried at a tick while the need is blocked. -/
def execHoldoffQueued (s : State) : Host.Outcome State Fault Refusal :=
  s.act State.tryHoldoff

end Sys2Proof.Machine
end

