-- ==== Sys2Proof/Machine/TimebaseCommands.lean ====
section
/-!
DEFINITION. The commands of the reference monitor (R130 to R132).
-/

namespace Sys2Proof.Machine

/-- The expected count of a window: E = floor(divider / 10) (R128). -/
def expectedEdges (divider : Nat) : Nat := divider / 10

/-- Whether a window is good (R130). -/
def goodWindow (divider edges : Nat) : Bool :=
  ((edges : Int) - expectedEdges divider).natAbs ≤ expectedEdges divider / 32

/-- A window in QUALIFYING (R130). -/
def Tbu.qualify (t : Tbu) (good : Bool) : Tbu :=
  if good = false then { t with goodRun := 0 }
  else if t.goodRun + 1 < 64 then { t with goodRun := t.goodRun + 1 }
  else { t with goodRun := 64, monitor := .qualified }

/-- A loss: the source is INTERNAL at once, REF_LOST is set and the monitor is LOST (R132; log 28). -/
def Tbu.lose (t : Tbu) : Tbu :=
  { t with source := .internal, refLost := true, monitor := .lost, badRun := min (t.badRun + 1) 2 }

/-- A window in SELECTED (R132). -/
def Tbu.watch (t : Tbu) (good : Bool) (edges : Nat) : Tbu :=
  if good then { t with badRun := 0 }
  else if edges = 0 ∨ t.badRun ≠ 0 then t.lose
  else { t with badRun := 1 }

/-- The end of a window, by the monitor state (R130, R132). -/
def Tbu.windowEnd (t : Tbu) (divider edges : Nat) : Tbu :=
  match t.monitor with
  | .off | .lost => t
  | .qualifying => t.qualify (goodWindow divider edges)
  | .qualified => if goodWindow divider edges then t else { t with goodRun := 0, monitor := .qualifying }
  | .selected => t.watch (goodWindow divider edges) edges

/-- The switch to REFERENCE, held off in LOAD, HOLD and UNLOAD (R131). -/
def Tbu.switch (t : Tbu) (force : ForceState) : Tbu :=
  if t.monitor = .qualified ∧ force.looped = false then
    { t with source := .reference, monitor := .selected, badRun := 0 }
  else t

/-- REF_WINDOW_END (R130, R132). -/
def execRefWindowEnd (edges : Nat) (s : State) : Host.Outcome State Fault Refusal :=
  s.act fun s => { s with tbu := s.tbu.windowEnd s.cfg.referenceDivider edges }

/-- SOURCE_SWITCH (R131). -/
def execSourceSwitch (s : State) : Host.Outcome State Fault Refusal :=
  s.act fun s => { s with tbu := s.tbu.switch s.frc.state }

end Sys2Proof.Machine
end

