-- ==== Sys2Proof/Machine/Dispatch.lean ====
section
/-!
DEFINITION. The meaning of each command: one arm per constructor of Instr, each one call of its meaning.
-/

namespace Sys2Proof.Machine

-- The commands in the order of Syntax.lean.
def exec (i : Instr) (s : State) : Host.Outcome State Fault Refusal :=
  match i with
  | .deviceReset straps => Sys2Proof.Machine.execDeviceReset straps s
  | .resetNRelease => Sys2Proof.Machine.execResetNRelease s
  | .configReadDone image => Sys2Proof.Machine.execConfigReadDone image s
  | .planSite dest payload => Sys2Proof.Machine.execPlanSite dest payload s
  | .planRemeasure dest payload => Sys2Proof.Machine.execPlanRemeasure dest payload s
  | .planWithdraw dest payload => Sys2Proof.Machine.execPlanWithdraw dest payload s
  | .mapClear dest payload => Sys2Proof.Machine.execMapClear dest payload s
  | .start dest payload => Sys2Proof.Machine.execStart dest payload s
  | .pause dest payload => Sys2Proof.Machine.execPause dest payload s
  | .resume dest payload => Sys2Proof.Machine.execResume dest payload s
  | .abortSite dest payload => Sys2Proof.Machine.execAbortSite dest payload s
  | .restart dest payload => Sys2Proof.Machine.execRestart dest payload s
  | .refReselect dest payload => Sys2Proof.Machine.execRefReselect dest payload s
  | .setMode dest payload => Sys2Proof.Machine.execSetMode dest payload s
  | .queryStatus dest payload => Sys2Proof.Machine.execQueryStatus dest payload s
  | .queryEntry dest payload => Sys2Proof.Machine.execQueryEntry dest payload s
  | .queryCounters dest payload => Sys2Proof.Machine.execQueryCounters dest payload s
  | .setCounter dest payload => Sys2Proof.Machine.execSetCounter dest payload s
  | .unknownKind dest kind payload => Sys2Proof.Machine.execUnknownKind dest kind payload s
  | .transmitStart since => Sys2Proof.Machine.execTransmitStart s since
  | .arbitrationLoss since => Sys2Proof.Machine.execArbitrationLoss s since
  | .ownFrameCompleted => Sys2Proof.Machine.execOwnFrameCompleted s
  | .ownFrameError since => Sys2Proof.Machine.execOwnFrameError s since
  | .frameEnd line => Sys2Proof.Machine.execFrameEnd line s
  | .lengthAbove32 length arbitration kind => Sys2Proof.Machine.execLengthAbove32 length s arbitration kind
  | .dominantRunReaches9 => Sys2Proof.Machine.execDominantRunReaches9 s
  | .dominantRunEnd length => Sys2Proof.Machine.execDominantRunEnd length s
  | .haltPulse => Sys2Proof.Machine.execHaltPulse s
  | .lineIdle => Sys2Proof.Machine.execLineIdle s
  | .stopAsserted pastArbitration since => Sys2Proof.Machine.execStopAsserted pastArbitration s since
  | .stopPulseEnd stillAsserted => Sys2Proof.Machine.execStopPulseEnd stillAsserted s
  | .stopPulseRepeat pastArbitration since => Sys2Proof.Machine.execStopPulseRepeat s pastArbitration since
  | .tick => Sys2Proof.Machine.execTick s
  | .listenInEnd => Sys2Proof.Machine.execListenInEnd s
  | .doubtEnd => Sys2Proof.Machine.execDoubtEnd s
  | .claimRefreshDue => Sys2Proof.Machine.execClaimRefreshDue s
  | .holdoffRefreshDue => Sys2Proof.Machine.execHoldoffRefreshDue s
  | .viewExpiry => Sys2Proof.Machine.execViewExpiry s
  | .holdoffQueued => Sys2Proof.Machine.execHoldoffQueued s
  | .turretHomeFound => Sys2Proof.Machine.execTurretHomeFound s
  | .indexComplete edges => Sys2Proof.Machine.execIndexComplete edges s
  | .carriageAxisHome axis => Sys2Proof.Machine.execCarriageAxisHome axis s
  | .carriageInPosition => Sys2Proof.Machine.execCarriageInPosition s
  | .zHomeFound => Sys2Proof.Machine.execZHomeFound s
  | .zInPosition => Sys2Proof.Machine.execZInPosition s
  | .fineStepComplete => Sys2Proof.Machine.execFineStepComplete s
  | .moveDeadline => Sys2Proof.Machine.execMoveDeadline s
  | .settleEnd => Sys2Proof.Machine.execSettleEnd s
  | .axesStopped x y z => Sys2Proof.Machine.execAxesStopped x y z s
  | .samplePair primary check => Sys2Proof.Machine.execSamplePair primary check s
  | .tareDone primary check => Sys2Proof.Machine.execTareDone primary check s
  | .wireTestDone primary check => Sys2Proof.Machine.execWireTestDone primary check s
  | .wireTestRecovered primary check => Sys2Proof.Machine.execWireTestRecovered primary check s
  | .loadRampEnd primary check => Sys2Proof.Machine.execLoadRampEnd primary check s
  | .dwellEnd primary check => Sys2Proof.Machine.execDwellEnd primary check s
  | .unloadTimeout => Sys2Proof.Machine.execUnloadTimeout s
  | .fastUnloadTimeout => Sys2Proof.Machine.execFastUnloadTimeout s
  | .homeDriveDone primary check => Sys2Proof.Machine.execHomeDriveDone primary check s
  | .freeTestPass primary check => Sys2Proof.Machine.execFreeTestPass primary check s
  | .retractTimeout => Sys2Proof.Machine.execRetractTimeout s
  | .refWindowEnd edges => Sys2Proof.Machine.execRefWindowEnd edges s
  | .sourceSwitch => Sys2Proof.Machine.execSourceSwitch s
  | .focusSettleEnd => Sys2Proof.Machine.execFocusSettleEnd s
  | .fvalRise => Sys2Proof.Machine.execFvalRise s
  | .windowComplete lines haltDue => Sys2Proof.Machine.execWindowComplete lines s haltDue
  | .pclkStall haltDue => Sys2Proof.Machine.execPclkStall s haltDue
  | .shortFrame haltDue => Sys2Proof.Machine.execShortFrame s haltDue
  | .frameWaitEnd haltDue => Sys2Proof.Machine.execFrameWaitEnd s haltDue
  | .computeComplete slot => Sys2Proof.Machine.execComputeComplete slot s
  | .startBit => Sys2Proof.Machine.execStartBit s

end Sys2Proof.Machine
end

