-- ==== Sys2Proof/Safety.lean ====
section
/-!
DEFINITION. What claims are stated in: a station that takes commands, the bounds of its collections, and the laws that tie the
head's blocks to the claims of Frame Coordination.
-/

namespace Sys2Proof.Machine

/-! ### A station that takes commands -/

/-- RESET_N is released and the latched rank is 1..7 (R29, R92). -/
abbrev State.live (s : State) : Prop := s.resetHeld = false ∧ 1 ≤ s.fli.rank ∧ s.fli.rank ≤ 7

/-- A destination that is the station's own rank (R86). -/
abbrev State.own (s : State) (dest : BitVec 4) : Prop := dest.toNat = s.fli.rank

/-- The message queue has room for `n` more messages (R84). -/
abbrev State.hasMessageRoom (s : State) (n : Nat) : Prop := s.fli.messages.length + n ≤ 8

/-- The state with a message, for which no restart waits, at the tail of the message queue (R84, R166). -/
def State.answered (s : State) (m : Message) : State :=
  { s with fli.messages := s.fli.messages ++ [{ message := m, restart := false }] }

/-- The state with a REPLY at the tail of the message queue (R166). -/
def State.replied (s : State) (tag kind : Byte) (code : ReplyCode) : State := s.answered (.reply tag kind code)

/-- A request to `dest` is taken and its answer finds room: the part is live, the destination is its rank, and the message
queue is not full (R84, R86). -/
abbrev State.hears (s : State) (dest : BitVec 4) : Prop := s.live ∧ s.own dest ∧ s.hasMessageRoom 1

/-- The state with a message placed: at the tail of the message queue, or dropped on a full queue, which stays as it is, with
TX_OVERFLOW set and a LINK_ERROR of kind overflow (R84). -/
def State.placed (s : State) (m : Message) : State :=
  if s.hasMessageRoom 1 then s.answered m
  else { s with fli.txOverflow := true }.signal .linkError (qualifierBit 5)

/-- The levels on the line of a notice that the station of a rank sends (R56, R79). -/
def noticeLine (rank : Nat) (n : Notice) : List Bool := ((OutFrame.notice n).frame rank).line

/-- The interface state with a HELD claim given up (R61): a queued refresh leaves the notice queue, one in the transmitter is stale, and
RELEASE is queued. -/
def Fli.released (f : Fli) (k : ClaimKind) : Fli :=
  { f with
    notices := placeNotice (.release k) (f.notices.filter fun n => !n.isClaim)
    transmitter := f.transmitter.map fun t => if t.noticeIs Notice.isClaim then { t with stale := true } else t }

/-- The unit has nothing to settle beside the event in hand: no need, claim, holdoff or block episode. -/
abbrev Fcu.quietState (f : Fcu) : Prop :=
  f.need = none ∧ f.claim = .none ∧ f.holdoff = .none ∧ f.block = none

/-! ### Notices withdrawn -/

/-- A queued notice of which `p` holds leaves the queue with a WITHDRAWN event of a qualifier, CLAIM 0 and HOLDOFF 1; with none
queued nothing changes (R54, R57, R77, spec 11.3). -/
def State.withdrawnOf (s : State) (p : Notice → Bool) (qualifier : Nat) : State :=
  if s.fli.notices.any p then
    { s with fli.notices := s.fli.notices.filter fun n => !p n }.signal .withdrawn (qualifierBit qualifier)
  else s

/-- The own holdoff over, at a grant or a cleared need: NONE with no refresh due, a queued HOLDOFF withdrawn and one in the
transmitter stale (R54, R58, R71, R72). -/
def State.holdoffOver (s : State) : State :=
  if s.fcu.holdoff = .none then s
  else
    { s.withdrawnOf Notice.isHoldoff 1 with
      fcu.holdoff := .none
      fcu.holdoffRefresh := none
      fli.transmitter := s.fli.transmitter.map fun t => if t.noticeIs Notice.isHoldoff then { t with stale := true } else t }

/-- The need cleared, with its block episode and the own holdoff (R54): a PENDING claim whose CLAIM is queued is withdrawn and
NONE, one whose CLAIM is on the line stays PENDING, a HELD one stays HELD. -/
def State.needCleared (s : State) : State :=
  let s := { s with fcu.need := none, fcu.block := none }.holdoffOver
  match s.fcu.claim with
  | .pending _ =>
    if s.fli.notices.any Notice.isClaim then { s.withdrawnOf Notice.isClaim 0 with fcu.claim := .none } else s
  | _ => s

/-! ### What an abandonment writes -/

/-- The entry of an item abandoned before contact, with its indent flags (R10). -/
def SiteFields.abandoned (f : SiteFields) (flags : IndentFlags) (now : Time) : Entry :=
  { fields := f, made := false, outcome := .abortedBeforeContact, indentFlags := flags, measureFlags := .none
    d1 := none, d2 := none, hardness := none, meanForce := none, indentTime := now, count := 0 }

/-- The indent flags gathered once a stop has cut the force cycle: a HOLD hands over its results (R120, R134). -/
def State.flagsAtStop (s : State) : IndentFlags :=
  let g := s.cyc.gatheredIndent
  if s.frc.state = .hold then
    { g with
      forceTol := g.forceTol || s.frc.cycle.any fun k => s.frc.holdSamples != 0 &&
        decide (s.cfg.tolerancePermille * k.force
          < ((((s.frc.holdSum + (s.frc.holdSamples / 2 : Nat)) / (s.frc.holdSamples : Int)).toNat : Int) - k.force).natAbs
            * 1000)
      dwellUntraceable := g.dwellUntraceable || s.frc.holdSource.any fun h => (h.opening :: h.marks).contains .internal }
  else g

/-- An entry abandoned after contact, by a stop in the present state: ABORTED with INDENT_ABORTED, the flags gathered and the mean
of the hold samples (R12, R120); a cycle that ended before HOLD is untraceable by the mark of its contact (R134). -/
def State.abandonedAtStop (s : State) (mark : TickSource) (e : Entry) : Entry :=
  { e with
    outcome := .aborted
    meanForce := if s.frc.holdSamples = 0 then none
      else some ((s.frc.holdSum + (s.frc.holdSamples / 2 : Nat)) / (s.frc.holdSamples : Int)).toNat
    indentFlags := e.indentFlags.union
      { s.flagsAtStop with
        dwellUntraceable := s.flagsAtStop.dwellUntraceable || (s.frc.holdSource.isNone && mark == .internal)
        indentAborted := true } }

/-- MEASURE_ABORTED alone (R8). -/
def measureAbortedAlone : MeasureFlags := { MeasureFlags.none with measureAborted := true }

/-- An entry whose first measurement is abandoned (R15). -/
def Entry.unmeasured (e : Entry) : Entry :=
  { e with outcome := .aborted, measureFlags := measureAbortedAlone, d1 := none, d2 := none, hardness := none }

/-- The map with an entry's site rewritten. -/
def State.mapWith (s : State) (site : Nat) (f : Entry → Entry) : List Entry :=
  s.sst.map.map fun d => if d.fields.site = site then f d else d

/-! ### The start of a motion piece -/

/-- What a piece asks for stands already, so that the piece is passed over (R96). -/
def Mot.standsAt (m : Mot) : Piece → Prop
  | .homeZ => m.zHomed = true
  | .homeTurret => m.turret ≠ none
  | .homeCarriage => m.carriageHomed = true
  | .carriageTo x y => m.x = x ∧ m.y = y
  | .indexTo slot => m.turret = some slot
  | .rapidTo z => m.z = z
  | .settle => False

/-- The interlock test passes: RETRACTED, with both raw samples of the last pair in the free window (R97). -/
def State.interlockPasses (s : State) : Prop :=
  s.frc.state = .retracted ∧ ∃ a b, s.frc.rawPrimary = some a ∧ s.frc.rawCheck = some b ∧
    s.cfg.freeMin ≤ a ∧ a ≤ s.cfg.freeMax ∧ s.cfg.freeMin ≤ b ∧ b ≤ s.cfg.freeMax

/-- The record with a piece just started and the pieces behind it still to do: the drive it takes and its deadline (R98 to R102),
or settle (R104). An index, made from a known slot, goes the shorter way round, a tie the positive one, and leaves the turret
UNKNOWN until it completes (R99). -/
def Mot.begun (m : Mot) (c : ConfigImage) (now : Time) (p : Piece) (rest : List Piece) : Mot :=
  let m := { m with sequence := some (p :: rest) }
  let within := fun (interval : Nat) => some { setAt := now, interval := interval : Deadline }
  match p with
  | .homeZ => { m with zActivity := .homing, moveDeadline := within c.homeTimeout }
  | .homeTurret => { m with turretActivity := .homing, moveDeadline := within 4000 }
  | .homeCarriage => { m with carriageActivity := .homing false false, moveDeadline := within c.homeTimeout }
  | .carriageTo x y => { m with carriageActivity := .moving x y, moveDeadline := within c.moveTimeout }
  | .indexTo slot =>
    let forward := (slot + 6 - m.turret.getD 0) % 6
    { m with
      turret := none, moveDeadline := within 3000
      turretActivity := .indexing slot (min forward (6 - forward)) (decide (forward ≤ 3)) }
  | .rapidTo z => { m with zActivity := .rapid z, moveDeadline := within c.moveTimeout }
  | .settle => { m with settleEnd := within c.settleTime }

/-- An index is made from a known slot to a slot of the turret (R99). -/
def Mot.mayIndex (m : Mot) (p : Piece) : Prop :=
  ∀ slot, p = .indexTo slot → ∃ a, m.turret = some a ∧ a < 6 ∧ slot < 6

/-! ### The bounds of the collections -/

/-- No two notices of a queue are of one kind (R56). -/
def distinctNotices (queue : List Notice) : Prop := queue.Pairwise fun a b => a.sameKind b = false

/-- The bounds the spec states of the collections: four counters of 32-bit values (R173), at most one notice of each kind
(R56), at most 32 items (R3), and one view entry per peer other than the own rank (R62). -/
structure State.Bounded (s : State) : Prop where
  fourCounters : s.evc.length = 4
  counterValues : ∀ c ∈ s.evc, c.value ≤ 4294967295
  oneNoticeOfAKind : distinctNotices s.fli.notices
  queueLength : s.sst.queue.length ≤ 32
  peersOnly : ∀ v ∈ s.fcu.view, v.rank ≠ s.fli.rank ∧ 1 ≤ v.rank ∧ v.rank ≤ 7
  onePeerEach : s.fcu.view.Pairwise fun a b => a.rank ≠ b.rank

/-- The entries the current item has still to create: one of an INDENT item before its contact, unless it has ended without
one (R10, R11). -/
def State.entriesOwed (s : State) : Nat :=
  match s.cyc.current with
  | some c =>
    if c.step = .ending then 0
    else match c.phase, c.work with
      | .toSite, .indent _ => 1
      | .indent, .indent _ => if s.cyc.contactMark.isSome then 0 else 1
      | _, _ => 0
  | none => 0

/-- The map's bound, with the entry that the current item has still to create: at most 256 (R7, R19). -/
abbrev State.mapFits (s : State) : Prop := s.sst.map.length + s.entriesOwed ≤ 256

/-! ### The laws of claims -/

/-- A current item in a phase and a step. -/
def State.currentIn (s : State) (phases : List Phase) (step : CycStep) : Bool :=
  match s.cyc.current with
  | some c => phases.contains c.phase && c.step == step
  | none => false

/-- Whether a force state is one of those between the start of a cycle and the end of its unload (R112, R113). -/
def ForceState.inCycle : ForceState → Bool
  | .tare | .wireTest | .approach | .load | .hold | .unload => true
  | _ => false

/-- Whether the Image Unit is at work (R136). -/
def ImageState.working : ImageState → Bool
  | .step | .settle | .capture => true
  | _ => false

/-- Whether a piece of work is an INDENT item (R1). -/
def Work.isIndent : Work → Bool
  | .indent _ => true
  | _ => false

/-- Whether the current item, if any, is one its phase can have: TO_SITE and INDENT are phases of INDENT items (R32, R37). -/
def State.phaseFits (s : State) : Bool :=
  match s.cyc.current with
  | some c => (c.phase != .toSite && c.phase != .indent) || c.work.isIndent
  | none => true

/-- Whether a set need is that of the current item's WAITING phase, with the head at rest (R32, R48). -/
def State.needFits (s : State) : Bool :=
  match s.fcu.need, s.cyc.current with
  | none, _ => true
  | some n, some c => c.step == .waiting && c.phase.claim == some n.kind && s.atRest
  | some _, none => false

/-- Whether a contact mark is one the current item can have: it comes at the contact in a WORKING INDENT and goes when the item
is no longer current (R26, R134). -/
def State.contactFits (s : State) : Bool :=
  s.cyc.contactMark.isNone ||
    match s.cyc.current with
    | some c => c.phase != .toSite && (c.phase != .indent || c.step != .waiting)
    | none => false

/-- Whether a force state is one of those of a cycle before its contact (R112). -/
def ForceState.beforeContact : ForceState → Bool
  | .tare | .wireTest | .approach => true
  | _ => false

/-- The unit holds no claim, need or holdoff, no deadline of its own, and its view is empty (R75). -/
def Fcu.holdsNothing (f : Fcu) : Bool :=
  f.need.isNone && f.claim == .none && f.holdoff == .none && f.collided.isEmpty && f.block.isNone
    && f.doubtUntil.isNone && f.listenEnd.isNone && f.claimRefresh.isNone && f.holdoffRefresh.isNone
    && f.view == emptied f.view

/-- The laws: work goes on only in RUNNING and PAUSING (R27); the Force Unit is in a cycle only in a WORKING INDENT under a
HELD QUIET claim (R112), with no contact mark before its contact (R134); a motion sequence is in hand only in a WORKING
TO_SITE or TO_VIEW under a HELD MOTION claim (R96); the Image Unit works only in a WORKING IMAGE under a HELD QUIET claim
(R144); a need belongs to a WAITING phase (R32, R48); an INACTIVE or HALTED unit holds nothing and no work goes on (R53,
R75); in START the unit is INACTIVE (R53); while RESET_N is held nothing is current (R29); the receive engine stands in SYNC on no
idle line (R85). -/
structure State.Lawful (s : State) : Prop where
  worksInMode : s.cyc.current.isSome → s.cyc.mode = .running ∨ s.cyc.mode = .pausing
  phases : s.phaseFits = true
  contact : s.contactFits = true
  contactToCome : s.frc.state.beforeContact = true → s.cyc.contactMark = none
  need : s.needFits = true
  forceUnderQuiet : s.frc.state.inCycle = true →
    s.fcu.claim = .held .quiet ∧ s.currentIn [.indent] .working = true
  motionUnderMotion : s.mot.sequence.isSome →
    s.fcu.claim = .held .motion ∧ s.currentIn [.toSite, .toView] .working = true ∧ s.mot.stopping = false
  settleInSequence : s.mot.settleEnd.isSome → s.mot.sequence.isSome
  imageUnderQuiet : s.img.state.working = true →
    s.fcu.claim = .held .quiet ∧ s.currentIn [.image] .working = true
  silentHoldsNothing : s.fcu.state = .halted ∨ s.fcu.state = .inactive →
    s.fcu.holdsNothing = true ∧ (s.cyc.mode = .start ∨ s.cyc.mode = .halted ∨ s.cyc.mode = .faulted)
  startIsInactive : s.cyc.mode = .start → s.fcu.state = .inactive
  heldIsIdle : s.resetHeld = true → s.cyc.current = none
  syncIsBusy : s.fli.engine = .sync → s.fli.idleCount ≠ 12

end Sys2Proof.Machine
end

