-- ==== Sys2Proof/Certificates/Slice0/Obligations.lean ====
section
/-!
DEFINITION. The statements for the provers, in the order of OBLIGATIONS.json: the machine as a whole, the line coding,
resets and configuration, the terminal requests, the frame link, the tick's deadlines, motion, force, the timebase, images and
measurement. An equation `exec c s = .next t` is a frame too: every field of `t` that is not named is that of `s`.
-/

open Sys2Proof Sys2Proof.Machine

/-! ### The machine -/

/-- A step takes the command at the front of the queue and runs it with the queue's rest; with an empty queue nothing happens,
which is the model's choice (log 1). -/
def Obligations.StepRunsFrontCommand : Prop :=
  (∀ (c : Instr) (rest : List Instr) (s : State),
    step { s with pending := c :: rest } = exec c { s with pending := rest }) ∧
  (∀ s : State, s.pending = [] → step s = .next s)

/-- Every command completes on every state and leaves the queue of waiting commands as it is. Spec 95 gives each row one whole
step where its event occurs; that a command completes where its event cannot occur (log 5) and that there is a queue, the
model's own (log 1), are the model's choices. -/
def Obligations.EveryCommandCompletes : Prop :=
  ∀ (c : Instr) (s : State), ∃ t, exec c s = .next t ∧ t.pending = s.pending

/-- While RESET_N is held, every command but DEVICE_RESET and RESET_N_RELEASE changes nothing (R91, R110, R127, R129). That
CONFIG_READ_DONE is among them is read from R127 and R135 by inference (log 36). -/
def Obligations.ResetHoldsCommands : Prop :=
  ∀ (c : Instr) (s : State), s.resetHeld = true →
    (∀ straps, c ≠ .deviceReset straps) → c ≠ .resetNRelease → exec c s = .next s

/-- Every step keeps the bounds of the collections (R3, R56, R62, R173). From a lawful state it also keeps the map's bound of
256 entries, the one that the current item has still to create among them (R7, R10, R11, R19). -/
def Obligations.StepKeepsBounds : Prop :=
  (∀ s t : State, s.Bounded → step s = .next t → t.Bounded) ∧
  (∀ s t : State, s.Lawful → s.mapFits → step s = .next t → t.mapFits)

/-- Every step keeps the laws of claims: a force cycle and the Image Unit's work stand under a HELD QUIET claim, a motion
sequence under a HELD MOTION claim, a contact mark belongs to an item past its contact, a need belongs to a waiting phase,
and a HALTED unit holds nothing; and the receive engine stands in SYNC on no idle line (R85). -/
def Obligations.StepKeepsClaimLaws : Prop :=
  ∀ s t : State, s.Lawful → step s = .next t → t.Lawful

/-- The state after reset is within the bounds, the map's among them, and lawful. -/
def Obligations.ResetMeetsInvariants : Prop := State.reset.Bounded ∧ State.reset.mapFits ∧ State.reset.Lawful

/-! ### The line coding -/

/-- A frame with a payload of at most 32 bytes, put on the line, is read back from its levels, whatever its bytes (R79). That
a bit is inserted at a frame's very end too is read from R79 by inference (log 38). -/
def Obligations.LinkFrameReadsBack : Prop :=
  ∀ f : LinkFrame, f.payload.length ≤ 32 → readFrame f.line = some f

/-- No frame holds the line dominant for 9 bit times: among any 9 consecutive levels of a frame on the line one is recessive
(R79). -/
def Obligations.DominantRunsStayShort : Prop :=
  ∀ (f : LinkFrame) (i : Nat), i + 9 ≤ f.line.length → true ∈ (f.line.drop i).take 9

/-- The check over the ASCII text 123456789 is 10,673 (R79), and each notice is decoded from the kind byte and the payload it
is sent with (R176). -/
def Obligations.CheckAndNoticeCodes : Prop :=
  crc16 [0x31#8, 0x32#8, 0x33#8, 0x34#8, 0x35#8, 0x36#8, 0x37#8, 0x38#8, 0x39#8] = 10673#16 ∧
  ∀ n : Notice, decodeNotice n.kindByte n.payload = some n

/-- The site record of a PLAN_SITE is read back from the 22 bytes of spec 11.3, for every value its fields admit. -/
def Obligations.PlanRecordReadsBack : Prop :=
  ∀ (tag : Byte) (r : PlanRecord),
    r.site < 2 ^ 16 → -2 ^ 23 ≤ r.x → r.x < 2 ^ 23 → -2 ^ 23 ≤ r.y → r.y < 2 ^ 23 →
    r.indenter < 2 ^ 8 → r.objective < 2 ^ 8 → r.force < 2 ^ 24 → r.dwell < 2 ^ 24 → r.loadTime < 2 ^ 16 →
    r.expected < 2 ^ 24 →
    decodeRequest 0x10#8
        (tag :: (bytesOf 2 r.site ++ signedBytes 3 r.x ++ signedBytes 3 r.y ++ bytesOf 1 r.indenter
          ++ bytesOf 1 r.objective ++ bytesOf 3 r.force ++ bytesOf 3 r.dwell ++ bytesOf 2 r.loadTime
          ++ bytesOf 3 r.expected)) = .request (.planSite r)

/-- A result record has 243 bits; the payload of a REPLY is 3 bytes, that of an ENTRY and of a SITE_DONE 32, and that of
COUNTERS 29; the pages of STATUS have 22, 24, 28, 18, 17 and 17 bytes of fields after the tag and the page, so that each fits
a frame (spec 11.3 to 11.5). -/
def Obligations.MessagesFitFrames : Prop :=
  (∀ e : Entry, e.recordBits.length = 243) ∧
  (∀ tag kind code, (Message.reply tag kind code).payload.length = 3) ∧
  (∀ tag e, (Message.entry tag e).payload.length = 32) ∧
  (∀ e o flags, (Message.siteDone e o flags).payload.length = 32) ∧
  (∀ tag cs, cs.length = 4 → (Message.counters tag cs).payload.length = 29) ∧
  (∀ (s : State) (tag : Byte) (page size : Nat),
    (page, size) ∈ [(0, 22), (1, 24), (2, 28), (3, 18), (4, 17), (5, 17)] →
    (Message.status tag (BitVec.ofNat 8 page) (s.statusFields page)).payload.length = 2 + size ∧ 2 + size ≤ 32)

/-! ### Resets and the configuration image -/

/-- What DEVICE_RESET leaves, by the device-reset columns of the blocks' tables, the Force Unit IDLE while RESET_N is held: no
image is held, no flag is gathered, the accumulators of a hold and the working store of a focus search are empty; and what
RESET_N_RELEASE begins: station time 0 and INTERNAL with the monitor OFF, and the reset retract in HOME_DRIVE with its deadline
2,000 ms ahead (R26, R109, R127, R135, R136). That no image is held until the read sets it is read from R26 by inference (log
36). -/
def Obligations.DeviceResetAndRelease : Prop :=
  (∀ (straps : BitVec 3) (s : State), ∃ t, exec (.deviceReset straps) s = .next t ∧
    t.resetHeld = true ∧ t.pending = s.pending ∧
    t.cyc.mode = (if straps = 0#3 then .faulted else .start) ∧
    t.cyc.fault = (if straps = 0#3 then .noRank else .none) ∧
    t.cyc.batch = none ∧ t.cyc.current = none ∧ t.cyc.delivered = [] ∧ t.cyc.contactMark = none ∧
    t.cyc.cue = .none ∧ t.cyc.haltSeen = false ∧ t.cyc.imageHeld = false ∧ t.cyc.bufferFull = false ∧
    t.cyc.gatheredIndent = .none ∧ t.cyc.gatheredMeasure = .none ∧
    t.sst = { queue := [], deferral := none, map := [] } ∧
    t.fcu.state = .inactive ∧ t.fcu.need = none ∧ t.fcu.claim = .none ∧ t.fcu.collided = [] ∧
    t.fcu.holdoff = .none ∧ t.fcu.block = none ∧ t.fcu.doubtUntil = none ∧ t.fcu.listenEnd = none ∧
    t.fcu.claimRefresh = none ∧ t.fcu.holdoffRefresh = none ∧ t.fcu.duplicateRank = false ∧
    t.fcu.claimCollision = false ∧ (∀ v ∈ t.fcu.view, v.claim = none ∧ v.holdoff = none) ∧
    t.fli.rank = straps.toNat ∧ t.fli.notices = [] ∧ t.fli.messages = [] ∧ t.fli.transmitter = none ∧
    t.fli.engine = .sync ∧ t.fli.txOverflow = false ∧ t.fli.stopDrive = .notDriving ∧
    t.mot.turret = none ∧ t.mot.carriageHomed = false ∧ t.mot.zHomed = false ∧ t.mot.moving = false ∧
    t.mot.sequence = none ∧ t.mot.settleEnd = none ∧ t.mot.stopping = false ∧ t.mot.moveDeadline = none ∧
    t.frc.state = .idle ∧ t.frc.stroke = none ∧ t.frc.cycle = none ∧ t.frc.contact = false ∧ t.frc.setPoint = 0 ∧
    t.frc.tare = none ∧ t.frc.primary = none ∧ t.frc.check = none ∧ t.frc.disagreement = 0 ∧ t.frc.deadline = none ∧
    t.frc.holdTicks = 0 ∧ t.frc.holdSum = 0 ∧ t.frc.holdSamples = 0 ∧ t.frc.holdSource = none ∧
    t.frc.testCurrent = false ∧
    t.tbu.stationTime = 0 ∧ t.tbu.source = .internal ∧ t.tbu.monitor = .off ∧ t.tbu.goodRun = 0 ∧
    t.tbu.badRun = 0 ∧ t.tbu.refLost = false ∧
    t.img.state = .idle ∧ t.img.stage = .none ∧ t.img.reserved = none ∧ t.img.best = none ∧
    t.img.objective = none ∧ t.img.positions = none ∧ t.img.index = 0 ∧ t.img.attempt = 0 ∧
    t.img.settleEnd = none ∧ t.img.frameWaitEnd = none ∧ t.img.ph = [] ∧ t.img.pv = [] ∧
    t.img.illumination = 0 ∧ t.mea = { slotA := .free, slotB := .free } ∧ t.restartPending = false ∧
    t.evc = List.replicate 4 { kind := .none, mask := 0#20, value := 0 }) ∧
  (∀ s : State, s.resetHeld = true →
    exec .resetNRelease s = .next
      { s with
        resetHeld := false
        tbu := { s.tbu with stationTime := 0, source := .internal, monitor := .off, refLost := false }
        frc :=
          { state := .retract, stroke := none, drive := .homeDrive, cycle := none, contact := false, setPoint := 0
            tare := none, primary := none, check := none, rawPrimary := s.frc.rawPrimary, rawCheck := s.frc.rawCheck
            pairs := 0, sumPrimary := 0, sumCheck := 0, testCurrent := false, holdTicks := 0, holdSum := 0
            holdSamples := 0, holdSource := none, disagreement := 0
            deadline := some { setAt := 0, interval := 2000 } } })

/-- CONFIG_READ_DONE with the read in hand and RESET_N released. With the format marker the image is held, the work mode and the
batch limit take their configured values and the view has one cleared entry for each configured peer; START goes on while the
Force Unit is not RETRACTED, and otherwise ends in READY with LISTEN_IN and HELLO of the reset's cause, or in HALTED when a
HALT was seen. Without the marker the station faults with CONFIG_ABSENT (R26, R29, R30, R62, R69, R130). That the read is done
after the release is read from R127 and R135 by inference (log 36); that a HALT seen stays seen where CONFIG_ABSENT cuts START
off is the model's choice (log 54). -/
def Obligations.ConfigReadDecides : Prop :=
  (∀ (image : List Byte) (s : State), s.cyc.configReading = true → s.cyc.mode = .start →
    s.resetHeld = false → markerGood image = true → ∃ t, exec (.configReadDone image) s = .next t ∧
    t.cfg = readConfigImage image ∧ t.cyc.imageHeld = true ∧ t.cyc.configReading = false ∧
    t.cyc.workMode = t.cfg.workMode ∧ t.cyc.batchLimit = t.cfg.batchLimit ∧
    t.fcu.view.map (·.rank) = t.cfg.peerSet.filter (· != s.fli.rank) ∧
    (∀ v ∈ t.fcu.view, v.claim = none ∧ v.holdoff = none ∧ v.lastHeard = none) ∧
    (t.cfg.referenceConfigured = true → t.tbu.monitor = .qualifying ∧ t.tbu.goodRun = 0) ∧
    (t.cfg.referenceConfigured = false → t.tbu = s.tbu) ∧
    (s.frc.state ≠ .retracted → t.cyc.mode = .start ∧ t.fli = s.fli) ∧
    (s.frc.state = .retracted → s.cyc.haltSeen = true → t.cyc.mode = .halted ∧ t.fcu.state = .halted ∧ t.fli = s.fli) ∧
    (s.frc.state = .retracted → s.cyc.haltSeen = false → t.cyc.mode = .ready ∧ t.fcu.state = .listenIn ∧
      t.fcu.listenEnd = some { setAt := s.tbu.stationTime, interval := t.cfg.listenInterval } ∧
      t.fli = { s.fli with notices := placeNotice (.hello s.cyc.startCause) s.fli.notices }) ∧
    t.sst = s.sst ∧ t.mot = s.mot ∧ t.frc = s.frc ∧ t.img = s.img ∧ t.mea = s.mea ∧ t.evc = s.evc) ∧
  (∀ (image : List Byte) (s : State), s.cyc.configReading = true → s.cyc.mode = .start →
    s.resetHeld = false → markerGood image = false → s.cyc.current = none → s.fcu.quietState → s.img.state = .idle →
    s.frc.state = .retract ∨ s.frc.state = .retracted → s.mot.moving = false → s.mot.stopping = false →
    exec (.configReadDone image) s = .next
      { s with
        cyc :=
          { s.cyc with
            mode := .faulted, fault := .configAbsent, imageHeld := false, configReading := false
            batch := none, cue := .none, gatheredIndent := .none, gatheredMeasure := .none
            contactMark := none, bufferFull := false }
        mot := { s.mot with sequence := none, settleEnd := none, moveDeadline := none } })

/-- Every field of an accepted image is the field at its offset of spec 11.6, most significant byte first, taken at the nearest
value of its range, with FFh beyond the bytes read; so each lies in its range (R29, and the ranges of R26, R52, R21, R94, R95,
R111, R128, R137 and R154). Two limits, a window's ends and two pixel limits out of order take both defaults, and a focus
count that is even after clamping is one less. A work mode or a ladder of neither kind is PER_SITE or WIDE, and a slot kind of
none is EMPTY. The slot offsets keep R94's range, with which R95's figure and the walkthrough of 5.10 disagree (log 46), and
a reference byte above 1 is taken as yes (log 35). -/
def Obligations.ImageFieldsInRange : Prop :=
  ∀ image : List Byte,
    let c := readConfigImage image
    let byte : Nat → Nat := fun o => (image.getD o 0xFF#8).toNat
    let two : Nat → Nat := fun o => byte o * 2 ^ 8 + byte (o + 1)
    let three : Nat → Nat := fun o => byte o * 2 ^ 16 + byte (o + 1) * 2 ^ 8 + byte (o + 2)
    let four : Nat → Nat := fun o => byte o * 2 ^ 24 + byte (o + 1) * 2 ^ 16 + byte (o + 2) * 2 ^ 8 + byte (o + 3)
    let signed : Nat → Int := fun o => if three o < 2 ^ 23 then (three o : Int) else (three o : Int) - 2 ^ 24
    let nearest := fun (lower upper value : Nat) => if value < lower then lower else if upper < value then upper else value
    let nearestInt := fun (lower upper value : Int) =>
      if value < lower then lower else if upper < value then upper else value
    let inOrder := fun (low high lowDefault highDefault : Int) =>
      if low < high then (low, high) else (lowDefault, highDefault)
    let travel := nearestInt (-300000) 300000
    (c.workMode = (if byte 3 = 1 then .batch else .perSite) ∧ c.batchLimit = nearest 1 16 (byte 4) ∧
      c.refreshInterval = nearest 10 200 (byte 5) ∧ c.expiryMultiplier = nearest 3 8 (byte 6) ∧
      c.patience = nearest 500 30000 (two 7) ∧
      (∀ r, r ∈ c.peerSet ↔ 1 ≤ r ∧ r ≤ 7 ∧ (byte 9).testBit r = true) ∧ c.spacingFactor = nearest 20 60 (byte 10) ∧
      (c.xLower, c.xUpper) = inOrder (travel (signed 11)) (travel (signed 14)) (-150000) 150000 ∧
      (c.yLower, c.yUpper) = inOrder (travel (signed 17)) (travel (signed 20)) (-150000) 150000 ∧
      c.moveTimeout = nearest 500 20000 (two 23) ∧ c.homeTimeout = nearest 1000 60000 (two 25) ∧
      c.settleTime = nearest 0 2000 (two 27) ∧ c.primaryGain = nearest 1 1048575 (three 29) ∧
      c.checkGain = nearest 1 1048575 (three 32) ∧ c.contactPermille = nearest 5 100 (byte 35) ∧
      c.crossCheckPermille = nearest 5 100 (byte 36) ∧ c.tolerancePermille = nearest 5 50 (byte 37) ∧
      c.overloadPermille = nearest 20 200 (byte 38) ∧ c.approachSpeed = nearest 1 500 (two 39) ∧
      c.strokeLength = nearest 50 2000 (two 41) ∧ c.defaultLoadTime = nearest 500 20000 (two 43) ∧
      c.unloadTime = nearest 500 20000 (two 45) ∧ c.forceLoopStep = nearest 1 500 (two 47) ∧
      (c.owMin, c.owMax) = inOrder (signed 49) (signed 52) 20000 200000 ∧
      (c.freeMin, c.freeMax) = inOrder (signed 55) (signed 58) (-400000) 400000 ∧
      c.referenceConfigured = decide (1 ≤ byte 61) ∧ c.referenceDivider = nearest 1000 50000 (two 62) ∧
      c.band = nearest 1 16 (byte 64) ∧ c.captureRetries = nearest 0 3 (byte 65) ∧
      c.guardPoints = nearest 4 64 (byte 66) ∧ c.asymmetryPermille = nearest 10 200 (byte 67)) ∧
    (∀ i : Nat, i < 6 →
      let o := 80 + 40 * i
      let dx := nearestInt (-20000) 20000 (signed (o + 1))
      let dy := nearestInt (-20000) 20000 (signed (o + 4))
      let height := nearest 0 500000 (three (o + 7))
      let least := nearest 1 1024 (two (o + 25))
      let most := nearest 1 1024 (two (o + 27))
      let count := nearest 1 33 (byte (o + 29))
      let indenter : IndenterKind → IndenterRecord := fun kind =>
        { kind := kind, offsetX := dx, offsetY := dy, standoff := height, bound := nearest 1 4194303 (three (o + 10)) }
      let objective : ObjectiveRecord :=
        { offsetX := dx, offsetY := dy, focusStart := height, scale := nearest 1 1048575 (three (o + 10))
          width := nearest 64 1024 (two (o + 13)), height := nearest 64 1024 (two (o + 15))
          originColumn := nearest 0 4095 (two (o + 17)), originRow := nearest 0 4095 (two (o + 19))
          ladder := if byte (o + 21) = 1 then .narrow else .wide, ladderStep := nearest 0 15 (byte (o + 22))
          minContrast := nearest 0 16368 (two (o + 23)), minPixels := if least ≤ most then least else 8
          maxPixels := if least ≤ most then most else 900, focusCount := if count % 2 = 0 then count - 1 else count
          focusStep := nearest 1 100 (byte (o + 30)), focusSettle := nearest 0 500 (two (o + 31))
          minSharpness := nearest 0 33488928 (four (o + 33)), illumination := nearest 1 255 (byte (o + 37)) }
      (byte o = 1 → c.slots[i]? = some (.indenter (indenter .vickers))) ∧
      (byte o = 2 → c.slots[i]? = some (.indenter (indenter .knoop))) ∧
      (byte o = 3 → c.slots[i]? = some (.objective objective)) ∧
      (byte o = 0 ∨ 3 < byte o → c.slots[i]? = some .empty)) ∧
    (1 ≤ c.batchLimit ∧ c.batchLimit ≤ 16) ∧ (10 ≤ c.refreshInterval ∧ c.refreshInterval ≤ 200) ∧
    (3 ≤ c.expiryMultiplier ∧ c.expiryMultiplier ≤ 8) ∧ (500 ≤ c.patience ∧ c.patience ≤ 30000) ∧
    (∀ r ∈ c.peerSet, 1 ≤ r ∧ r ≤ 7) ∧ (20 ≤ c.spacingFactor ∧ c.spacingFactor ≤ 60) ∧
    (-300000 ≤ c.xLower ∧ c.xLower < c.xUpper ∧ c.xUpper ≤ 300000) ∧
    (-300000 ≤ c.yLower ∧ c.yLower < c.yUpper ∧ c.yUpper ≤ 300000) ∧
    (500 ≤ c.moveTimeout ∧ c.moveTimeout ≤ 20000) ∧ (1000 ≤ c.homeTimeout ∧ c.homeTimeout ≤ 60000) ∧
    c.settleTime ≤ 2000 ∧ (1 ≤ c.primaryGain ∧ c.primaryGain ≤ 1048575) ∧
    (1 ≤ c.checkGain ∧ c.checkGain ≤ 1048575) ∧ (5 ≤ c.contactPermille ∧ c.contactPermille ≤ 100) ∧
    (5 ≤ c.crossCheckPermille ∧ c.crossCheckPermille ≤ 100) ∧
    (5 ≤ c.tolerancePermille ∧ c.tolerancePermille ≤ 50) ∧
    (20 ≤ c.overloadPermille ∧ c.overloadPermille ≤ 200) ∧ (1 ≤ c.approachSpeed ∧ c.approachSpeed ≤ 500) ∧
    (50 ≤ c.strokeLength ∧ c.strokeLength ≤ 2000) ∧ (500 ≤ c.defaultLoadTime ∧ c.defaultLoadTime ≤ 20000) ∧
    (500 ≤ c.unloadTime ∧ c.unloadTime ≤ 20000) ∧ (1 ≤ c.forceLoopStep ∧ c.forceLoopStep ≤ 500) ∧
    (-8388608 ≤ c.owMin ∧ c.owMin < c.owMax ∧ c.owMax ≤ 8388607) ∧
    (-8388608 ≤ c.freeMin ∧ c.freeMin < c.freeMax ∧ c.freeMax ≤ 8388607) ∧
    (1000 ≤ c.referenceDivider ∧ c.referenceDivider ≤ 50000) ∧
    (1 ≤ c.band ∧ c.band ≤ 16) ∧ c.captureRetries ≤ 3 ∧ (4 ≤ c.guardPoints ∧ c.guardPoints ≤ 64) ∧
    (10 ≤ c.asymmetryPermille ∧ c.asymmetryPermille ≤ 200) ∧ c.slots.length = 6 ∧
    (∀ r, SlotRecord.indenter r ∈ c.slots →
      (-20000 ≤ r.offsetX ∧ r.offsetX ≤ 20000) ∧ (-20000 ≤ r.offsetY ∧ r.offsetY ≤ 20000) ∧ r.standoff ≤ 500000 ∧
      (1 ≤ r.bound ∧ r.bound ≤ 4194303)) ∧
    (∀ o, SlotRecord.objective o ∈ c.slots →
      (-20000 ≤ o.offsetX ∧ o.offsetX ≤ 20000) ∧ (-20000 ≤ o.offsetY ∧ o.offsetY ≤ 20000) ∧ o.focusStart ≤ 500000 ∧
      (1 ≤ o.scale ∧ o.scale ≤ 1048575) ∧ (64 ≤ o.width ∧ o.width ≤ 1024) ∧ (64 ≤ o.height ∧ o.height ≤ 1024) ∧
      o.originColumn ≤ 4095 ∧ o.originRow ≤ 4095 ∧ o.ladderStep ≤ 15 ∧ o.minContrast ≤ 16368 ∧
      (1 ≤ o.minPixels ∧ o.minPixels ≤ o.maxPixels ∧ o.maxPixels ≤ 1024) ∧
      (o.focusCount % 2 = 1 ∧ o.focusCount ≤ 33) ∧ (1 ≤ o.focusStep ∧ o.focusStep ≤ 100) ∧ o.focusSettle ≤ 500 ∧
      o.minSharpness ≤ 33488928 ∧ (1 ≤ o.illumination ∧ o.illumination ≤ 255))

/-! ### The terminal requests -/

/-- PLAN_SITE: the first of R4's seven tests that fails names the refusal, which changes nothing else; an accepted record joins
the tail of the queue with its three clamps. -/
def Obligations.PlanSiteAnswer : Prop :=
  ∀ (dest : BitVec 4) (p : List Byte) (s : State), s.hears dest → p.length = 22 →
    let r := readPlanRecord p
    let refused := fun code => exec (.planSite dest p) s = .next (s.replied (p.headD 0) 0x10#8 code)
    let wrongMode := s.cyc.mode = .start ∨ s.cyc.mode = .faulted
    let full := 32 ≤ s.sst.queue.length
    let held := (∃ i, Item.indent i ∈ s.sst.queue ∧ i.fields.site = r.site) ∨
      (∃ c, s.cyc.current = some c ∧ c.work.site = r.site) ∨ (∃ e ∈ s.sst.map, e.fields.site = r.site)
    let badTool := s.cfg.indenterKind? r.indenter = none ∨ s.cfg.objective? r.objective = none
    let badForce := r.force < 49 ∨ (s.cfg.indenterKind? r.indenter = some .vickers ∧ 98067 < r.force) ∨
      (s.cfg.indenterKind? r.indenter = some .knoop ∧ 19613 < r.force)
    let outside := r.x < s.cfg.xLower ∨ s.cfg.xUpper < r.x ∨ r.y < s.cfg.yLower ∨ s.cfg.yUpper < r.y
    (wrongMode → refused .wrongMode) ∧
    (¬wrongMode → r.site = 0 → refused .badValue) ∧
    (¬wrongMode → r.site ≠ 0 → full → refused .queueFull) ∧
    (¬wrongMode → r.site ≠ 0 → ¬full → held → refused .duplicateId) ∧
    (¬wrongMode → r.site ≠ 0 → ¬full → ¬held → badTool → refused .badTool) ∧
    (¬wrongMode → r.site ≠ 0 → ¬full → ¬held → ¬badTool → badForce → refused .badForce) ∧
    (¬wrongMode → r.site ≠ 0 → ¬full → ¬held → ¬badTool → ¬badForce → outside → refused .outOfRange) ∧
    (¬wrongMode → r.site ≠ 0 → ¬full → ¬held → ¬badTool → ¬badForce → ¬outside → s.cyc.waitsWith .plan = false →
      exec (.planSite dest p) s = .next
        { s.replied (p.headD 0) 0x10#8 .accepted with
          sst.queue := s.sst.queue ++ [.indent
            { fields :=
                { site := r.site, x := r.x, y := r.y, indenter := r.indenter, objective := r.objective, force := r.force
                  expected := if r.expected = 0 then none else some (min r.expected 4194303) }
              dwell := max 1000 (min 99000 r.dwell)
              loadTime := if r.loadTime = 0 then none else some (max 500 (min 20000 r.loadTime)) }] })

/-- A site planned while the Cycle Controller waits with cue PLAN, on an empty store, is selected at once: it becomes current in
TO_SITE, WAITING, its MOTION need is set, and the permit test that passes queues CLAIM(MOTION) (R18, R22, R32, R35, R54,
R55). That cue PLAN returns to NONE at the choice is the model's choice (log 53). -/
def Obligations.PlanSiteTakenUp : Prop :=
  ∀ (dest : BitVec 4) (p : List Byte) (s : State), s.hears dest → p.length = 22 →
    s.planSiteCode (readPlanRecord p) = .accepted → s.cyc.mode = .running → s.cyc.cue = .plan →
    s.cyc.current = none → s.cyc.batch = none → s.cyc.workMode = .perSite →
    s.sst = { queue := [], deferral := none, map := [] } →
    s.frc.state = .retracted → s.mot.stopping = false → s.img.state = .idle →
    s.fcu.state = .active → s.fcu.doubtUntil = none → s.fcu.need = none → s.fcu.claim = .none →
    (∀ v ∈ s.fcu.view, (∀ m, v.claim = some m → m.kind = .motion) ∧ ∀ m, v.holdoff = some m → m.kind = .motion) →
    exec (.planSite dest p) s = .next
      { s.replied (p.headD 0) 0x10#8 .accepted with
        cyc.cue := .none
        cyc.current := some { work := .indent (readPlanRecord p).item, phase := .toSite, step := .waiting }
        fcu.need := some { kind := .motion, since := s.tbu.stationTime }
        fcu.claim := .pending .motion
        fcu.block := none
        fli.notices := placeNotice (.claim .motion) s.fli.notices }

/-- PLAN_REMEASURE: R5's five tests in order, and the item at the tail of the queue. A Cycle Controller that waits with cue PLAN
chooses again: with nothing queued or undelivered before it, the item becomes current in TO_VIEW, and with the head at rest and
nothing opposed it claims MOTION (R5, R18, R32, R35, R48, R55). That cue PLAN returns to NONE at the choice is the model's
choice (log 53). -/
def Obligations.PlanRemeasureAnswer : Prop :=
  ∀ (dest : BitVec 4) (tag hi lo : Byte) (s : State), s.hears dest →
    let site := hi.toNat * 256 + lo.toNat
    let refused := fun code => exec (.planRemeasure dest [tag, hi, lo]) s = .next (s.replied tag 0x11#8 code)
    let wrongMode := s.cyc.mode = .start ∨ s.cyc.mode = .faulted
    (wrongMode → refused .wrongMode) ∧
    (¬wrongMode → (∀ e ∈ s.sst.map, e.fields.site ≠ site) → refused .unknownId) ∧
    ∀ e, ¬wrongMode → s.sst.entry? site = some e →
      let barred := e.made = false ∨ e.indentFlags.indentAborted = true ∨ e.outcome = .awaitingMeasure
      (barred → refused .notMeasurable) ∧
      (¬barred → Item.remeasure site ∈ s.sst.queue → refused .duplicateId) ∧
      (¬barred → Item.remeasure site ∉ s.sst.queue → 32 ≤ s.sst.queue.length → refused .queueFull) ∧
      (¬barred → Item.remeasure site ∉ s.sst.queue → s.sst.queue.length < 32 →
        let answers := fun t => exec (.planRemeasure dest [tag, hi, lo]) s = .next t
        let accepted : State := { s.replied tag 0x11#8 .accepted with sst.queue := s.sst.queue ++ [.remeasure site] }
        (s.cyc.waitsWith .plan = false → answers accepted) ∧
        (s.cyc.waitsWith .plan = true → answers accepted.choose) ∧
        (s.cyc.waitsWith .plan = true → s.cyc.batch = none → s.sst.queue = [] → s.fcu.need = none →
          (∀ d ∈ s.sst.map, d.outcome = .awaitingMeasure → d.fields.site ∈ s.cyc.delivered) →
          let taken : State :=
            { s.replied tag 0x11#8 .accepted with
              cyc.cue := .none
              cyc.current := some { work := .remeasure site, phase := .toView, step := .waiting }
              sst.deferral := none }
          let atRest := s.frc.state = .retracted ∧ s.mot.stopping = false ∧ s.img.state = .idle
          (¬atRest → answers taken) ∧
          (atRest → s.fcu.state = .active → s.fcu.doubtUntil = none → s.fcu.claim = .none →
            (∀ v ∈ s.fcu.view, (∀ m, v.claim = some m → m.kind = .motion) ∧ ∀ m, v.holdoff = some m → m.kind = .motion) →
            answers
              { taken with
                fcu :=
                  { s.fcu with
                    need := some { kind := .motion, since := s.tbu.stationTime }, claim := .pending .motion, block := none }
                fli.notices := placeNotice (.claim .motion) s.fli.notices })))

/-- PLAN_WITHDRAW: R6's two tests in order; the item leaves the queue, the others keep their order, and the deferral of a
withdrawn head ends. A Cycle Controller that waits with cue PLAN or cue RESULT chooses again: with nothing left it waits with
cue PLAN, and the item that then heads the queue is taken up and claims MOTION where nothing forbids it (R6, R18, R22, R23,
R35, R55). That the cue returns to NONE at the choice is the model's choice (log 53). -/
def Obligations.PlanWithdrawAnswer : Prop :=
  ∀ (dest : BitVec 4) (tag hi lo : Byte) (s : State), s.hears dest →
    let site := hi.toNat * 256 + lo.toNat
    let current := ∃ c, s.cyc.current = some c ∧ c.work.site = site
    let queued := ∃ i ∈ s.sst.queue, i.site = site
    (current → exec (.planWithdraw dest [tag, hi, lo]) s = .next (s.replied tag 0x12#8 .busy)) ∧
    (¬current → ¬queued → exec (.planWithdraw dest [tag, hi, lo]) s = .next (s.replied tag 0x12#8 .unknownId)) ∧
    (¬current → queued →
      let answers := fun t => exec (.planWithdraw dest [tag, hi, lo]) s = .next t
      let left := s.sst.queue.filter fun i => i.site != site
      let withdrawn : State :=
        { s.replied tag 0x12#8 .accepted with
          sst.queue := left
          sst.deferral := if s.sst.queue.head?.map Item.site = some site then none else s.sst.deferral }
      let waits := s.cyc.waitsWith .plan = true ∨ s.cyc.waitsWith .result = true
      (¬waits → answers withdrawn) ∧
      (waits → answers withdrawn.choose) ∧
      (waits → s.cyc.batch = none →
        (∀ d ∈ s.sst.map, d.outcome = .awaitingMeasure → d.fields.site ∈ s.cyc.delivered) →
        let mayClaim := s.frc.state = .retracted ∧ s.mot.stopping = false ∧ s.img.state = .idle ∧ s.fcu.state = .active ∧
          s.fcu.doubtUntil = none ∧ s.fcu.need = none ∧ s.fcu.claim = .none ∧
          ∀ v ∈ s.fcu.view, (∀ m, v.claim = some m → m.kind = .motion) ∧ ∀ m, v.holdoff = some m → m.kind = .motion
        let taken := fun (w : Work) (p : Phase) (rest : List Item) =>
          answers
            { s.replied tag 0x12#8 .accepted with
              sst := { s.sst with queue := rest, deferral := none }
              cyc.cue := .none
              cyc.current := some { work := w, phase := p, step := .waiting }
              fcu :=
                { s.fcu with
                  need := some { kind := .motion, since := s.tbu.stationTime }, claim := .pending .motion, block := none }
              fli.notices := placeNotice (.claim .motion) s.fli.notices }
        (left = [] → answers { withdrawn with cyc.cue := .plan }) ∧
        (∀ id rest, left = .remeasure id :: rest → mayClaim → taken (.remeasure id) .toView rest) ∧
        (∀ j rest, left = .indent j :: rest → s.cyc.workMode = .perSite → s.sst.map.length < 256 →
          (∀ d ∈ s.sst.map, s.cfg.conflicts j.fields d = false) → mayClaim → taken (.indent j) .toSite rest)))

/-- MAP_CLEAR, to the station or to all: BUSY while the map is tied to work, else the map is emptied, and a Cycle Controller
that waits with cue PLAN chooses again (R24, R35). -/
def Obligations.MapClearAnswer : Prop :=
  ∀ (dest : BitVec 4) (tag : Byte) (s : State), s.live → s.own dest ∨ dest = 15#4 → s.hasMessageRoom 1 →
    let tied := (∃ e ∈ s.sst.map, e.outcome = .awaitingMeasure) ∨ s.cyc.current ≠ none ∨
      (∃ site, Item.remeasure site ∈ s.sst.queue) ∨ s.mea.slotA ≠ .free ∨ s.mea.slotB ≠ .free
    (tied → exec (.mapClear dest [tag]) s = .next (s.replied tag 0x13#8 .busy)) ∧
    (¬tied → exec (.mapClear dest [tag]) s = .next
      (if s.cyc.waitsWith .plan then { s.replied tag 0x13#8 .accepted with sst.map := [] }.choose
        else { s.replied tag 0x13#8 .accepted with sst.map := [] }))

/-- Requests outside the mode that takes them are answered and change nothing: START, PAUSE and RESUME with WRONG_MODE, to the
station or to all, RESTART with WRONG_MODE in START, and ABORT_SITE with NOTHING_TO_ABORT where nothing is current
(R28, R44, R167, R169). On a full message queue the reply is dropped, with TX_OVERFLOW and LINK_ERROR overflow (R84). -/
def Obligations.ModeRequestsRefused : Prop :=
  ∀ (dest : BitVec 4) (tag : Byte) (s : State), s.live →
    (s.own dest ∨ dest = 15#4 →
      (s.cyc.mode ≠ .ready → s.cyc.mode ≠ .paused →
        exec (.start dest [tag]) s = .next (s.placed (.reply tag 0x14#8 .wrongMode))) ∧
      (s.cyc.mode ≠ .running → exec (.pause dest [tag]) s = .next (s.placed (.reply tag 0x15#8 .wrongMode))) ∧
      (s.cyc.mode ≠ .halted → exec (.resume dest [tag]) s = .next (s.placed (.reply tag 0x16#8 .wrongMode)))) ∧
    (s.own dest →
      (s.cyc.mode = .start →
        exec (.restart dest [tag]) s = .next (s.placed (.reply tag 0x18#8 .wrongMode))) ∧
      (s.cyc.current = none → exec (.abortSite dest [tag]) s = .next (s.placed (.reply tag 0x17#8 .nothingToAbort))))

/-- START in READY or PAUSED gives RUNNING and a choice at once: with nothing to do the Cycle Controller waits with cue PLAN;
with an undelivered entry on the measure list, the first such entry becomes current in TO_VIEW and claims MOTION; a REMEASURE
item at the head does the same; and in BATCH mode an INDENT item at the head opens a batch of its indenter slot where the
measure list is empty, and waits with cue RESULT where it is not (R18, R28, R35, R36, R40, R55). READY slots with profiles
become COMPUTING, also those kept through a HALT; one without completes at once, and its entry is written MEASURE_FAILED (R14,
R149, R152, R165). That a PLAN or RESULT cue kept through PAUSE returns to NONE at the choice that takes an item up is the
model's choice (log 53). -/
def Obligations.StartChooses : Prop :=
  ∀ (dest : BitVec 4) (tag : Byte) (s : State), s.live → s.own dest ∨ dest = 15#4 → s.hasMessageRoom 1 →
    s.cyc.mode = .ready ∨ s.cyc.mode = .paused → s.cyc.current = none → s.cyc.batch = none →
    let started := fun (p : ProfileSlot) => match p with | .ready d => .computing d | p => p
    let profiled := ∀ (name : SlotName) (d : Delivery), s.mea.get name = .ready d → d.profiles ≠ none
    let mea : Mea := { slotA := started s.mea.slotA, slotB := started s.mea.slotB }
    let delivered := ∀ e ∈ s.sst.map, e.outcome = .awaitingMeasure → e.fields.site ∈ s.cyc.delivered
    let mayClaim := s.frc.state = .retracted ∧ s.mot.stopping = false ∧ s.img.state = .idle ∧ s.fcu.state = .active ∧
      s.fcu.doubtUntil = none ∧ s.fcu.need = none ∧ s.fcu.claim = .none ∧
      ∀ v ∈ s.fcu.view, (∀ m, v.claim = some m → m.kind = .motion) ∧ ∀ m, v.holdoff = some m → m.kind = .motion
    let begun := fun (w : Work) (p : Phase) (batch : Option Nat) (queue : List Item) (deferral : Option Deferral) =>
      exec (.start dest [tag]) s = .next
        { s.replied tag 0x14#8 .accepted with
          cyc :=
            { s.cyc with
              mode := .running, cue := .none, batch := batch, current := some { work := w, phase := p, step := .waiting } }
          mea := mea
          sst := { s.sst with queue := queue, deferral := deferral }
          fcu :=
            { s.fcu with
              need := some { kind := .motion, since := s.tbu.stationTime }, claim := .pending .motion, block := none }
          fli.notices := placeNotice (.claim .motion) s.fli.notices }
    (profiled → s.sst.queue = [] → delivered →
      exec (.start dest [tag]) s = .next
        { s.replied tag 0x14#8 .accepted with cyc.mode := .running, cyc.cue := .plan, mea := mea }) ∧
    (∀ (name : SlotName) (d : Delivery) (e : Entry), s.hasMessageRoom 2 →
      s.mea = Mea.set { slotA := .free, slotB := .free } name (.ready d) → d.profiles = none →
      d.measureSet.focusFailed = true ∨ d.measureSet.captureStall = true → s.sst.map = [e] → e.fields.site = d.site →
      e.outcome = .awaitingMeasure → s.sst.queue = [] → s.cyc.bufferFull = false → s.cyc.cue = .none →
      let written : Entry :=
        { e with
          outcome := .measureFailed, measureFlags := d.measureSet, d1 := none, d2 := none, hardness := none, count := 1 }
      exec (.start dest [tag]) s = .next
        (({ (s.replied tag 0x14#8 .accepted).answered (.siteDone written .measureFailed d.measureSet) with
            mea := { slotA := .free, slotB := .free }
            sst.map := [written]
            cyc.mode := .running
            cyc.cue := .plan
            cyc.delivered := s.cyc.delivered.erase d.site }.signal .outcome (qualifierBit SiteOutcome.measureFailed.code)).signal
          .flag written.flagMask)) ∧
    (∀ site, profiled → s.sst.measureList.find? (fun id => !s.cyc.delivered.contains id) = some site → mayClaim →
      begun (.listed site) .toView none s.sst.queue s.sst.deferral) ∧
    (∀ site rest, profiled → s.sst.queue = .remeasure site :: rest → delivered → mayClaim →
      begun (.remeasure site) .toView none rest none) ∧
    (∀ i rest, profiled → s.sst.queue = .indent i :: rest → s.cyc.workMode = .batch →
      (s.sst.measureList = [] → s.sst.map.length < 256 → (∀ e ∈ s.sst.map, s.cfg.conflicts i.fields e = false) → mayClaim →
        begun (.indent i) .toSite (some i.fields.indenter) rest none) ∧
      (s.sst.measureList ≠ [] → delivered →
        exec (.start dest [tag]) s = .next
          { s.replied tag 0x14#8 .accepted with cyc.mode := .running, cyc.cue := .result, mea := mea }))

/-- PAUSE closes the batch and gives PAUSING while an item is current, while a claim is HELD, a need is set or the Force Unit
is not RETRACTED, or PAUSED at once with nothing to finish. With no item current and an entry of the measure list not delivered
it gives PAUSING, and the first such entry becomes current in TO_VIEW, with its MOTION need set once the head is at rest and
its CLAIM queued where nothing opposes it. RESUME gives READY and begins LISTEN_IN with HELLO(RESUME) (R28, R32, R40, R46, R48,
R55, R69). On a full message queue the reply is dropped, with TX_OVERFLOW and LINK_ERROR overflow, and the request takes effect
all the same (R84). That PAUSE keeps the cue, also where an entry becomes current, is the model's choice (log 53). -/
def Obligations.PauseAndResume : Prop :=
  ∀ (dest : BitVec 4) (tag : Byte) (s : State), s.live → s.own dest ∨ dest = 15#4 →
    (s.cyc.mode = .running → s.cyc.current ≠ none →
      exec (.pause dest [tag]) s = .next
        { s.placed (.reply tag 0x15#8 .accepted) with cyc.mode := .pausing, cyc.batch := none }) ∧
    (s.cyc.mode = .running → s.cyc.current = none →
      (∀ e ∈ s.sst.map, e.outcome = .awaitingMeasure → e.fields.site ∈ s.cyc.delivered) →
      s.fcu.claim = .none → s.fcu.need = none → s.frc.state = .retracted →
      exec (.pause dest [tag]) s = .next
        { s.placed (.reply tag 0x15#8 .accepted) with cyc.mode := .paused, cyc.batch := none }) ∧
    (s.cyc.mode = .running → s.cyc.current = none →
      (∀ e ∈ s.sst.map, e.outcome = .awaitingMeasure → e.fields.site ∈ s.cyc.delivered) →
      (∃ k, s.fcu.claim = .held k) ∨ s.fcu.need ≠ none ∨ s.frc.state ≠ .retracted →
      exec (.pause dest [tag]) s = .next
        { s.placed (.reply tag 0x15#8 .accepted) with cyc.mode := .pausing, cyc.batch := none }) ∧
    (∀ before site after, s.cyc.mode = .running → s.cyc.current = none → s.sst.measureList = before ++ site :: after →
      (∀ d ∈ before, d ∈ s.cyc.delivered) → site ∉ s.cyc.delivered → s.fcu.need = none →
      let viewed : State :=
        { s.placed (.reply tag 0x15#8 .accepted) with
          cyc.mode := .pausing
          cyc.batch := none
          cyc.current := some { work := .listed site, phase := .toView, step := .waiting } }
      let atRest := s.frc.state = .retracted ∧ s.mot.stopping = false ∧ s.img.state = .idle
      (¬atRest → exec (.pause dest [tag]) s = .next viewed) ∧
      (atRest → s.fcu.state = .active → s.fcu.doubtUntil = none → s.fcu.claim = .none →
        (∀ v ∈ s.fcu.view, v.claim = none ∧ v.holdoff = none) →
        exec (.pause dest [tag]) s = .next
          { viewed with
            fcu :=
              { s.fcu with
                need := some { kind := .motion, since := s.tbu.stationTime }, claim := .pending .motion, block := none }
            fli.notices := placeNotice (.claim .motion) s.fli.notices })) ∧
    (s.cyc.mode = .halted →
      exec (.resume dest [tag]) s = .next
        { s.placed (.reply tag 0x16#8 .accepted) with
          cyc.mode := .ready
          fcu.state := .listenIn
          fcu.listenEnd := some { setAt := s.tbu.stationTime, interval := s.cfg.listenInterval }
          fli.notices := placeNotice (.hello .resume) s.fli.notices })

/-- ABORT_SITE at an item in ENDING is accepted with no further effect. At an INDENT item in TO_SITE, or in INDENT before
contact, it clears the need, writes ABORTED_BEFORE_CONTACT and places SITE_DONE behind the reply. The need of a waiting item is
cleared: a CLAIM or HOLDOFF queued for it is withdrawn and counted, a CLAIM on the line leaves the claim PENDING; the item is
dropped, and with nothing left to do the Cycle Controller waits with cue PLAN; a TO_SITE at work stops its moves and is ENDING,
or with nothing moving releases MOTION and ends at once; a force cycle before contact goes to RETRACT and the item is ENDING
under its HELD claim (R10, R35, R44, R54, R61, R71, R105, R125, R166). -/
def Obligations.AbortBeforeContact : Prop :=
  ∀ (dest : BitVec 4) (tag : Byte) (s : State) (c : Current), s.live → s.own dest → s.cyc.current = some c →
    (s.hasMessageRoom 1 → c.step = .ending →
      exec (.abortSite dest [tag]) s = .next (s.replied tag 0x17#8 .accepted)) ∧
    (∀ i, s.hasMessageRoom 2 → c.step = .waiting → c.work = .indent i → c.phase = .toSite ∨ c.phase = .indent →
      s.cyc.contactMark = none → (∀ k, s.fcu.claim ≠ .held k) →
      s.cyc.mode = .running → s.cyc.batch = none → s.sst.queue = [] →
      (∀ e ∈ s.sst.map, e.outcome = .awaitingMeasure → e.fields.site ∈ s.cyc.delivered) →
      let e : Entry :=
        { fields := i.fields, made := false, outcome := .abortedBeforeContact
          indentFlags := if c.phase = .indent then s.cyc.gatheredIndent else .none
          measureFlags := .none, d1 := none, d2 := none, hardness := none, meanForce := none
          indentTime := s.tbu.stationTime, count := 0 }
      exec (.abortSite dest [tag]) s = .next
        (({ (s.replied tag 0x17#8 .accepted).needCleared.answered (.siteDone e .abortedBeforeContact .none) with
            sst.map := s.sst.map ++ [e]
            cyc.current := none
            cyc.gatheredIndent := .none
            cyc.gatheredMeasure := .none
            cyc.bufferFull := false
            cyc.cue := .plan }.signal .outcome (qualifierBit 2)).signal .flag e.flagMask)) ∧
    ∀ i, s.hasMessageRoom 2 → c.step = .working → c.work = .indent i → s.cyc.contactMark = none →
      s.fcu.need = none → s.fcu.holdoff = .none → s.fcu.block = none →
      let written := fun (e : Entry) (u : State) =>
        exec (.abortSite dest [tag]) s = .next
          (({ u with
              sst.map := s.sst.map ++ [e]
              fli.messages := ((s.replied tag 0x17#8 .accepted).answered (.siteDone e .abortedBeforeContact .none)).fli.messages
              }.signal .outcome (qualifierBit 2)).signal .flag e.flagMask)
      let stopped : Mot :=
        { s.mot with sequence := none, settleEnd := none, moveDeadline := none, stopping := s.mot.moving }
      (c.phase = .toSite → s.fcu.claim = .held .motion → s.mot.stopping = false →
        let e := i.fields.abandoned .none s.tbu.stationTime
        (s.mot.moving = true → written e { s with mot := stopped, cyc.current := some { c with step := .ending } }) ∧
        (s.mot.moving = false → s.cyc.mode = .running → s.cyc.batch = none → s.sst.queue = [] →
          (∀ d ∈ s.sst.map, d.outcome = .awaitingMeasure → d.fields.site ∈ s.cyc.delivered) →
          written e
            { s with
              mot := stopped
              fcu := { s.fcu with claim := .none, claimRefresh := none, collided := [] }
              fli := s.fli.released .motion
              cyc.current := none
              cyc.gatheredIndent := .none
              cyc.gatheredMeasure := .none
              cyc.bufferFull := false
              cyc.cue := .plan })) ∧
      (c.phase = .indent → s.fcu.claim = .held .quiet → s.frc.state.beforeContact = true →
        written (i.fields.abandoned s.cyc.gatheredIndent s.tbu.stationTime)
          { s with
            frc :=
              { s.frc with
                state := .retract, setPoint := 0, pairs := 0, testCurrent := false
                drive := match s.frc.stroke with | none => .homeDrive | some z => if z = 0 then .freeTest else .running
                deadline := some { setAt := s.tbu.stationTime, interval := 2000 } }
            cyc.current := some { c with step := .ending } })

/-- ABORT_SITE after contact. In LOAD, HOLD or UNLOAD the Force Unit goes to FAST_UNLOAD, the entry becomes ABORTED with
INDENT_ABORTED, the flags gathered, those of a cut hold among them, and the mean, SITE_DONE stands behind the reply, and the
item is ENDING with its claim HELD; in FAST_UNLOAD and RETRACT the withdrawal under way goes on (R12, R44, R120, R123, R125,
R134). In TO_VIEW and IMAGE the entry of a first measurement becomes ABORTED with MEASURE_ABORTED alone and no numbers, and
that of a REMEASURE stays as it is; SITE_DONE carries ABORTED with MEASURE_ABORTED. A waiting item is dropped with its need, a
CLAIM or HOLDOFF queued for it withdrawn and counted; a TO_VIEW at work stops its moves and is ENDING, or with nothing moving
releases MOTION and ends at once; an IMAGE at work frees its FILLING slot and turns the lamp off, and ends at once, or with a
fine step under way is ENDING until it rests (R15, R16, R44, R54, R61, R105, R148). That the Image Unit keeps its position
index, objective, position list, best so far, attempt and profiles, which R148 does not name, is the model's choice (log 29).
-/
def Obligations.AbortAfterContact : Prop :=
  (∀ (dest : BitVec 4) (tag : Byte) (s : State) (i : IndentItem) (mark : TickSource) (e : Entry),
    s.live → s.own dest → s.hasMessageRoom 2 →
    s.cyc.current = some { work := .indent i, phase := .indent, step := .working } →
    s.cyc.contactMark = some mark → s.sst.entry? i.fields.site = some e →
    s.fcu.need = none → s.fcu.claim = .held .quiet → s.fcu.holdoff = .none → s.fcu.block = none →
    let written := s.abandonedAtStop mark
    let aborts := fun (frc : Frc) =>
      exec (.abortSite dest [tag]) s = .next
        (({ (s.replied tag 0x17#8 .accepted).answered (.siteDone (written e) .aborted (written e).measureFlags) with
            sst.map := s.mapWith i.fields.site written
            frc := frc
            cyc.gatheredIndent := s.flagsAtStop
            cyc.current := some { work := .indent i, phase := .indent, step := .ending } }.signal
            .outcome (qualifierBit 7)).signal .flag (written e).flagMask)
    (s.frc.state = .load ∨ s.frc.state = .hold ∨ s.frc.state = .unload →
      aborts
        { s.frc with
          state := .fastUnload, setPoint := 0, pairs := 0, disagreement := 0
          deadline := some { setAt := s.tbu.stationTime, interval := 2000 } }) ∧
    (s.frc.state = .fastUnload ∨ s.frc.state = .retract → aborts s.frc)) ∧
  ∀ (dest : BitVec 4) (tag : Byte) (s : State) (c : Current) (e : Entry),
    s.live → s.own dest → s.hasMessageRoom 2 → s.cyc.current = some c → c.phase = .toView ∨ c.phase = .image →
    s.sst.entry? c.work.site = some e → s.mot.stopping = false →
    let reply := s.replied tag 0x17#8 .accepted
    let abortedFrom := fun (u : State) =>
      match c.work with
      | .remeasure _ => u.answered (.siteDone e .aborted measureAbortedAlone)
      | _ =>
        ({ u.answered (.siteDone e.unmeasured .aborted measureAbortedAlone) with
            sst.map := s.mapWith c.work.site Entry.unmeasured }.signal .outcome (qualifierBit 7)).signal
          .flag e.unmeasured.flagMask
    let aborted : State := abortedFrom reply
    let ending : Cyc := { s.cyc with current := some { c with step := .ending } }
    let ended : Cyc :=
      { s.cyc with
        current := none, gatheredIndent := .none, gatheredMeasure := .none, contactMark := none, bufferFull := false
        cue := .plan }
    let stopped : Mot :=
      { s.mot with sequence := none, settleEnd := none, moveDeadline := none, stopping := s.mot.moving }
    let left := s.cyc.mode = .running ∧ s.cyc.batch = none ∧ s.sst.queue = [] ∧
      ∀ site ∈ aborted.sst.measureList, site ∈ s.cyc.delivered
    (c.step = .waiting → (∀ k, s.fcu.claim ≠ .held k) → left →
      exec (.abortSite dest [tag]) s = .next { abortedFrom reply.needCleared with cyc := ended }) ∧
    (c.step = .working → s.fcu.need = none → s.fcu.holdoff = .none → s.fcu.block = none →
      (c.phase = .toView → s.fcu.claim = .held .motion → s.mot.moving = true →
        exec (.abortSite dest [tag]) s = .next { aborted with mot := stopped, cyc := ending }) ∧
      (c.phase = .toView → s.fcu.claim = .held .motion → s.mot.moving = false → left →
        exec (.abortSite dest [tag]) s = .next
          { aborted with
            mot := stopped
            fcu := { s.fcu with claim := .none, claimRefresh := none, collided := [] }
            fli := aborted.fli.released .motion
            cyc := ended }) ∧
      ∀ name site, c.phase = .image → s.fcu.claim = .held .quiet → s.img.reserved = some name →
        s.mea.get name = .filling site →
        let resting : Img :=
          { s.img with
            state := .idle, stage := .none, reserved := none, settleEnd := none, frameWaitEnd := none, illumination := 0 }
        (s.img.state = .settle ∨ s.img.state = .capture → left →
          exec (.abortSite dest [tag]) s = .next
            { aborted with
              mea := s.mea.set name .free
              img := resting
              mot := stopped
              fcu := { s.fcu with claim := .none, claimRefresh := none, collided := [] }
              fli := aborted.fli.released .quiet
              cyc := ended }) ∧
        ∀ z, s.img.state = .step → s.mot.zActivity = .fine z →
          exec (.abortSite dest [tag]) s = .next
            { aborted with
              mea := s.mea.set name .free, img := { resting with state := .ending }, mot := stopped, cyc := ending })

/-- RESTART places its reply and is pending from then on; its effect comes when the reply's frame completes or ends with an
error, and where the message queue is full, at the drop of the reply. Then the store is emptied, the blocks take their RESTART
values, the working store of a focus search but for its best position among them, a frame still on the line is reported to no
block, and the mode becomes START; the timebase and the held image stay (R25, R26, R31, R52, R84, R92, R109, R127, R136, R150,
R169, R173). -/
def Obligations.RestartPendsThenActs : Prop :=
  let restarted := fun (s t : State) =>
    t.cyc.mode = .start ∧ t.cyc.workMode = s.cfg.workMode ∧ t.cyc.batchLimit = s.cfg.batchLimit ∧
    t.cyc.batch = none ∧ t.cyc.current = none ∧ t.cyc.delivered = [] ∧ t.cyc.contactMark = none ∧
    t.cyc.gatheredIndent = .none ∧ t.cyc.gatheredMeasure = .none ∧ t.cyc.bufferFull = false ∧
    t.cyc.cue = .none ∧ t.cyc.fault = .none ∧ t.cyc.haltSeen = false ∧ t.cyc.imageHeld = s.cyc.imageHeld ∧
    t.sst = { queue := [], deferral := none, map := [] } ∧
    t.fcu.state = .inactive ∧ t.fcu.need = none ∧ t.fcu.claim = .none ∧ t.fcu.holdoff = .none ∧
    t.fcu.collided = [] ∧ t.fcu.block = none ∧ t.fcu.doubtUntil = none ∧ t.fcu.listenEnd = none ∧
    t.fcu.claimRefresh = none ∧ t.fcu.holdoffRefresh = none ∧
    t.fcu.duplicateRank = false ∧ t.fcu.claimCollision = false ∧
    (∀ v ∈ t.fcu.view, v.claim = none ∧ v.holdoff = none) ∧
    t.fli.rank = s.fli.rank ∧ t.fli.notices = [] ∧ t.fli.messages = [] ∧
    t.fli.txOverflow = false ∧ t.fli.stopDrive = s.fli.stopDrive ∧
    (s.mot.stopping = false → t.mot.sequence = none ∧ t.mot.settleEnd = none ∧ t.mot.moveDeadline = none ∧
      t.mot.stopping = s.mot.moving) ∧
    t.mot.turret = s.mot.turret ∧ t.mot.carriageHomed = s.mot.carriageHomed ∧ t.mot.zHomed = s.mot.zHomed ∧
    t.mot.x = s.mot.x ∧ t.mot.y = s.mot.y ∧ t.mot.z = s.mot.z ∧
    t.frc.state = .retract ∧ t.frc.drive = .homeDrive ∧ t.frc.stroke = none ∧ t.frc.tare = none ∧
    t.frc.cycle = none ∧ t.frc.contact = false ∧ t.frc.setPoint = 0 ∧ t.frc.primary = none ∧ t.frc.check = none ∧
    t.frc.holdTicks = 0 ∧ t.frc.holdSum = 0 ∧ t.frc.holdSamples = 0 ∧ t.frc.holdSource = none ∧
    t.frc.disagreement = 0 ∧ t.frc.testCurrent = false ∧
    t.frc.deadline = some { setAt := s.tbu.stationTime, interval := 2000 } ∧
    t.img.state = .idle ∧ t.img.stage = .none ∧ t.img.reserved = none ∧ t.img.illumination = 0 ∧
    t.img.settleEnd = none ∧ t.img.frameWaitEnd = none ∧ t.img.objective = none ∧ t.img.positions = none ∧
    t.img.index = 0 ∧ t.img.attempt = 0 ∧ t.img.ph = [] ∧ t.img.pv = [] ∧ t.img.best = s.img.best ∧
    t.mea = { slotA := .free, slotB := .free } ∧ t.restartPending = false ∧
    t.evc = List.replicate 4 { kind := .none, mask := 0#20, value := 0 } ∧
    t.tbu = s.tbu ∧ t.cfg = s.cfg
  (∀ (dest : BitVec 4) (tag : Byte) (s : State), s.live → s.own dest → s.cyc.mode ≠ .start → s.restartPending = false →
    (s.hasMessageRoom 1 →
      exec (.restart dest [tag]) s = .next
        { s with
          restartPending := true
          fli.messages := s.fli.messages ++ [{ message := .reply tag 0x18#8 .accepted, restart := true }] }) ∧
    (8 ≤ s.fli.messages.length → ∃ t, exec (.restart dest [tag]) s = .next t ∧ restarted s t ∧
      t.fli.engine = s.fli.engine ∧ t.fli.transmitter = s.fli.transmitter.map fun sent => { sent with unreported := true })) ∧
  (∀ (s : State) (m : Message) (stale : Bool) (c : Instr), s.resetHeld = false →
    s.fli.transmitter = some { frame := .message { message := m, restart := true }, stale := stale, unreported := false } →
    c = .ownFrameCompleted ∨ (∃ since, c = .ownFrameError since) → ∃ t, exec c s = .next t ∧ restarted s t ∧ t.fli.transmitter = none)

/-- REF_RESELECT: WRONG_MODE in START and without an image that configures a reference; else accepted in every mode, with the
effect of the monitor state. REF_LOST stays as it is (R133). -/
def Obligations.ReselectAnswer : Prop :=
  ∀ (dest : BitVec 4) (tag : Byte) (s : State), s.hears dest →
    let refused := s.cyc.mode = .start ∨ s.cyc.imageHeld = false ∨ s.cfg.referenceConfigured = false
    let accepted := s.replied tag 0x19#8 .accepted
    (refused → exec (.refReselect dest [tag]) s = .next (s.replied tag 0x19#8 .wrongMode)) ∧
    (¬refused → s.tbu.monitor = .lost → exec (.refReselect dest [tag]) s = .next
      { accepted with tbu.goodRun := 0, tbu.badRun := 0, tbu.monitor := .qualifying }) ∧
    (¬refused → s.tbu.monitor = .qualifying ∨ s.tbu.monitor = .qualified →
      exec (.refReselect dest [tag]) s = .next { accepted with tbu.goodRun := 0, tbu.monitor := .qualifying }) ∧
    (¬refused → s.tbu.monitor = .selected → exec (.refReselect dest [tag]) s = .next accepted)

/-- SET_MODE: BAD_VALUE at decoding for a work mode above 1, then WRONG_MODE outside READY, then BUSY with entries on the
measure list; else the mode and the limit, clamped into 1..16, are taken (R168, R175). -/
def Obligations.SetModeAnswer : Prop :=
  ∀ (dest : BitVec 4) (tag mode limit : Byte) (s : State), s.hears dest →
    let answered := fun code => exec (.setMode dest [tag, mode, limit]) s = .next (s.replied tag 0x1A#8 code)
    let waiting := ∃ e ∈ s.sst.map, e.outcome = .awaitingMeasure
    (1 < mode.toNat → answered .badValue) ∧
    (mode.toNat ≤ 1 → s.cyc.mode ≠ .ready → answered .wrongMode) ∧
    (mode.toNat ≤ 1 → s.cyc.mode = .ready → waiting → answered .busy) ∧
    (mode.toNat ≤ 1 → s.cyc.mode = .ready → ¬waiting →
      exec (.setMode dest [tag, mode, limit]) s = .next
        { s.replied tag 0x1A#8 .accepted with
          cyc.workMode := if mode = 0#8 then .perSite else .batch
          cyc.batchLimit := max 1 (min 16 limit.toNat) })

/-- The three queries answer with their reports and change nothing the spec names: STATUS with the page asked for, or BAD_VALUE
above page 5; ENTRY with the first entry of the id, or UNKNOWN_ID; COUNTERS with the four counters (R170, R171, R174, R175).
STATUS also draws the free bytes of its message (log 30). On a full message queue the answer is dropped: the queue stays,
TX_OVERFLOW is set and LINK_ERROR signalled with overflow (R84). -/
def Obligations.QueriesAnswered : Prop :=
  ∀ (dest : BitVec 4) (tag b1 b0 : Byte) (s : State), s.live → s.own dest →
    (b0.toNat ≤ 5 → exec (.queryStatus dest [tag, b0]) s = .next
      { s.placed (.status tag b0 (s.statusFields b0.toNat)) with freeCount := s.freeCount + 1 }) ∧
    (5 < b0.toNat → exec (.queryStatus dest [tag, b0]) s = .next (s.placed (.reply tag 0x1B#8 .badValue))) ∧
    (∀ e, s.sst.entry? (b1.toNat * 256 + b0.toNat) = some e →
      exec (.queryEntry dest [tag, b1, b0]) s = .next (s.placed (.entry tag e))) ∧
    ((∀ e ∈ s.sst.map, e.fields.site ≠ b1.toNat * 256 + b0.toNat) →
      exec (.queryEntry dest [tag, b1, b0]) s = .next (s.placed (.reply tag 0x1C#8 .unknownId))) ∧
    exec (.queryCounters dest [tag]) s = .next (s.placed (.counters tag s.evc))

/-- SET_COUNTER: BAD_VALUE for an index above 3, a kind above 10 or a mask with a qualifier that is not the kind's; else the
counter takes the kind and the mask with value 0 (R173), and then the reply is placed (R166). On a full message queue the reply
is dropped, with TX_OVERFLOW and LINK_ERROR overflow (R84): the drop comes after the effect, so a counter newly set to
LINK_ERROR with overflow counts it. -/
def Obligations.SetCounterAnswer : Prop :=
  ∀ (dest : BitVec 4) (tag index kind m2 m1 m0 : Byte) (s : State), s.live → s.own dest →
    let mask := (m2.toNat * 256 + m1.toNat) * 256 + m0.toNat
    let command := Instr.setCounter dest [tag, index, kind, m2, m1, m0]
    (10 < kind.toNat → exec command s = .next (s.placed (.reply tag 0x1E#8 .badValue))) ∧
    ∀ k, EventKind.code k = kind.toNat →
      (3 < index.toNat ∨ mask &&& k.qualifiers.toNat ≠ mask → exec command s = .next (s.placed (.reply tag 0x1E#8 .badValue))) ∧
      (index.toNat ≤ 3 → mask &&& k.qualifiers.toNat = mask →
        let set : State :=
          { s with evc := s.evc.set index.toNat { kind := k, mask := BitVec.ofNat 20 mask, value := 0 } }
        exec command s = .next (set.placed (.reply tag 0x1E#8 .accepted)) ∧
        (s.hasMessageRoom 1 → exec command s = .next (set.replied tag 0x1E#8 .accepted)) ∧
        (¬s.hasMessageRoom 1 → index.toNat < s.evc.length → k = .linkError → (BitVec.ofNat 20 mask).getLsbD 5 = true →
          ∃ t c, exec command s = .next t ∧ t.fli = { s.fli with txOverflow := true } ∧
            t.evc[index.toNat]? = some c ∧ c.kind = .linkError ∧ c.value = 1))

/-- What decoding and the destination refuse changes nothing else. A kind outside 10h..1Eh is answered UNKNOWN_KIND, to the
station or to all; each of the fifteen requests with a payload of another length than its own BAD_LENGTH; and each of the
eleven that are not broadcast, sent to 15, BAD_VALUE. The tag of an empty payload is 0 (R166, R167, R175). -/
def Obligations.UndecodableRefused : Prop :=
  ∀ (dest : BitVec 4) (kind : Byte) (p : List Byte) (s : State), s.live → s.hasMessageRoom 1 →
    s.own dest ∨ dest = 15#4 →
    let refused := fun (c : Instr) (kind : Byte) (code : ReplyCode) => exec c s = .next (s.replied (p.headD 0) kind code)
    let byLength := fun (c : Instr) (kind : Byte) (n : Nat) => p.length ≠ n → refused c kind .badLength
    let toAll := fun (c : Instr) (kind : Byte) (n : Nat) => dest = 15#4 → p.length = n → refused c kind .badValue
    (kind.toNat < 0x10 ∨ 0x1E < kind.toNat → refused (.unknownKind dest kind p) kind .unknownKind) ∧
    byLength (.planSite dest p) 0x10#8 22 ∧ byLength (.planRemeasure dest p) 0x11#8 3 ∧
    byLength (.planWithdraw dest p) 0x12#8 3 ∧ byLength (.mapClear dest p) 0x13#8 1 ∧
    byLength (.start dest p) 0x14#8 1 ∧ byLength (.pause dest p) 0x15#8 1 ∧ byLength (.resume dest p) 0x16#8 1 ∧
    byLength (.abortSite dest p) 0x17#8 1 ∧ byLength (.restart dest p) 0x18#8 1 ∧
    byLength (.refReselect dest p) 0x19#8 1 ∧ byLength (.setMode dest p) 0x1A#8 3 ∧
    byLength (.queryStatus dest p) 0x1B#8 2 ∧ byLength (.queryEntry dest p) 0x1C#8 3 ∧
    byLength (.queryCounters dest p) 0x1D#8 1 ∧ byLength (.setCounter dest p) 0x1E#8 6 ∧
    toAll (.planSite dest p) 0x10#8 22 ∧ toAll (.planRemeasure dest p) 0x11#8 3 ∧
    toAll (.planWithdraw dest p) 0x12#8 3 ∧ toAll (.abortSite dest p) 0x17#8 1 ∧ toAll (.restart dest p) 0x18#8 1 ∧
    toAll (.refReselect dest p) 0x19#8 1 ∧ toAll (.setMode dest p) 0x1A#8 3 ∧ toAll (.queryStatus dest p) 0x1B#8 2 ∧
    toAll (.queryEntry dest p) 0x1C#8 3 ∧ toAll (.queryCounters dest p) 0x1D#8 1 ∧ toAll (.setCounter dest p) 0x1E#8 6

/-! ### The frame link -/

/-- A message frame from address 0 to the station's rank or to all, with a good check, is the request it carries, whichever
of the fifteen kinds or an unknown one: its end has the effect of the request's command, with the line's measures those of
the frame's levels and the receive engine READY, and a PENDING claim is checked again (R57, R86, R87, R166). That the
request's own command and its frame's end have one effect is the model's reading (log 8). -/
def Obligations.RequestFrameTaken : Prop :=
  ∀ (f : LinkFrame) (s : State), f.payload.length ≤ 32 → f.checkGood = true → f.isMessage = true → f.sender = 0 →
    s.live → s.own f.dest ∨ f.dest = 15#4 → s.fli.engine = .receiving → s.fli.transmitter = none →
    let carried := fun (c : Instr) => ∃ t, exec c { s with fli := s.fli.frameEnded f.line } = .next t ∧
      exec (.frameEnd f.line) s = .next t.recheckPending
    (f.kind = 0x10#8 → carried (.planSite f.dest f.payload)) ∧
    (f.kind = 0x11#8 → carried (.planRemeasure f.dest f.payload)) ∧
    (f.kind = 0x12#8 → carried (.planWithdraw f.dest f.payload)) ∧
    (f.kind = 0x13#8 → carried (.mapClear f.dest f.payload)) ∧
    (f.kind = 0x14#8 → carried (.start f.dest f.payload)) ∧
    (f.kind = 0x15#8 → carried (.pause f.dest f.payload)) ∧
    (f.kind = 0x16#8 → carried (.resume f.dest f.payload)) ∧
    (f.kind = 0x17#8 → carried (.abortSite f.dest f.payload)) ∧
    (f.kind = 0x18#8 → carried (.restart f.dest f.payload)) ∧
    (f.kind = 0x19#8 → carried (.refReselect f.dest f.payload)) ∧
    (f.kind = 0x1A#8 → carried (.setMode f.dest f.payload)) ∧
    (f.kind = 0x1B#8 → carried (.queryStatus f.dest f.payload)) ∧
    (f.kind = 0x1C#8 → carried (.queryEntry f.dest f.payload)) ∧
    (f.kind = 0x1D#8 → carried (.queryCounters f.dest f.payload)) ∧
    (f.kind = 0x1E#8 → carried (.setCounter f.dest f.payload)) ∧
    (f.kind.toNat < 0x10 ∨ 0x1E < f.kind.toNat → carried (.unknownKind f.dest f.kind f.payload))

/-- TRANSMIT_START, after the levels on the line since the last command that told of one, moves the head of the notice queue,
or else of the message queue, into the empty transmitter of an idle line, and its start bit ends the idle count and begins a
run; otherwise only the measures and the engine of those levels remain. ARBITRATION_LOSS returns a frame to the head of its
queue, but discards a stale notice and one whose kind was queued meanwhile; the dominant bit it read, after the levels seen
since then, ends the idle count and lengthens the run, so a loss at the first arbitration bit is a run of 2 (R78, R80, R81,
R85). That the commands carry the levels is the model's choice (log 9). -/
def Obligations.TransmitterMoves : Prop :=
  ∀ (s : State) (since : List Bool), s.live →
    let seen := s.fli.sees since
    let lost : Fli :=
      { s.fli with
        transmitter := none
        idleCount := 0
        runLength := seen.runLength + 1
        engine := if seen.engine = .ready then .receiving else seen.engine }
    (seen.idleCount = 12 → s.fli.transmitter = none → s.fli.stopDrive ≠ .driving →
      (∀ n rest, s.fli.notices = n :: rest →
        exec (.transmitStart since) s = .next
          { s with
            fli :=
              { s.fli with
                notices := rest
                transmitter := some { frame := .notice n, stale := false, unreported := false }
                idleCount := 0
                runLength := 1
                engine := if seen.engine = .ready then .receiving else seen.engine } }) ∧
      (∀ m rest, s.fli.notices = [] → s.fli.messages = m :: rest →
        exec (.transmitStart since) s = .next
          { s with
            fli :=
              { s.fli with
                messages := rest
                transmitter := some { frame := .message m, stale := false, unreported := false }
                idleCount := 0
                runLength := 1
                engine := if seen.engine = .ready then .receiving else seen.engine } })) ∧
    (seen.idleCount ≠ 12 ∨ s.fli.transmitter ≠ none ∨ (s.fli.notices = [] ∧ s.fli.messages = []) →
      exec (.transmitStart since) s = .next { s with fli := seen }) ∧
    (∀ n stale, s.fli.transmitter = some { frame := .notice n, stale := stale, unreported := false } →
      (stale = true ∨ (∃ q ∈ s.fli.notices, n.sameKind q = true) →
        exec (.arbitrationLoss since) s = .next { s with fli := lost }) ∧
      (stale = false → (∀ q ∈ s.fli.notices, n.sameKind q = false) →
        exec (.arbitrationLoss since) s = .next { s with fli := { lost with notices := n :: s.fli.notices } })) ∧
    (∀ m, s.fli.transmitter = some { frame := .message m, stale := false, unreported := false } →
      exec (.arbitrationLoss since) s = .next { s with fli := { lost with messages := m :: s.fli.messages } })

/-- The permit test of a set need with own claim NONE: it passes in ACTIVE, out of doubt, with no opposing claim or holdoff
live in the view, and queues CLAIM; a failure is blocked with the first failing condition's cause, and a new cause is
signalled. The failing cases are stated for a need that has not waited out its patience, so that no holdoff is queued (R55,
R71). -/
def Obligations.PermitTestDecides : Prop :=
  ∀ (s : State) (n : Need), s.fcu.need = some n → s.fcu.claim = .none →
    let active := s.fcu.state = .active
    let doubt := s.fcu.doubtUntil ≠ none
    let claimed := ∃ v ∈ s.fcu.view, ∃ m, v.claim = some m ∧ m.kind = n.kind.opposite
    let heldOff := ∃ v ∈ s.fcu.view, ∃ m, v.holdoff = some m ∧ m.kind = n.kind.opposite
    let blocked := fun cause => s.permitTest =
      if s.fcu.block = some cause then s
      else { s with fcu.block := some cause }.signal .block (qualifierBit cause.code)
    (active → ¬doubt → ¬claimed → ¬heldOff → s.permitTest =
      { s with
        fcu.claim := .pending n.kind, fcu.block := none
        fli.notices := placeNotice (.claim n.kind) s.fli.notices }) ∧
    ((s.tbu.stationTime - n.since).toNat < s.cfg.patience →
      (¬active → blocked .listenIn) ∧ (active → doubt → blocked .doubt) ∧
      (active → ¬doubt → claimed → blocked .peerClaim) ∧
      (active → ¬doubt → ¬claimed → heldOff → blocked .peerHoldoff))

/-- The own CLAIM of a waiting phase completes and its grant conditions hold: the claim is HELD with its refresh one interval
ahead, the need is satisfied, and the phase's work is handed out. For INDENT the Force Unit records the cycle with its three
thresholds and enters TARE. For TO_SITE and TO_VIEW the Motion Unit gets the phase's sequence after the homings of Z, turret
and carriage: the pieces that stand already are passed over, and the first that does not starts its drive with its deadline
where the interlock test passes: a homing, a carriage move, an index the shorter way round, a rapid Z move, or settle, which
no test precedes and which a settle time of 0 ends at that moment. For IMAGE a FREE slot is reserved, the lamp is lit and the
first height is taken in hand by a fine step; where Z stands there the step completes at once, and the focus settle begins, or
with none the first attempt. An own holdoff ends: QUEUED it is withdrawn and counted, SENT it is NONE (R32, R38, R39, R41, R58,
R82, R96 to R104, R113, R141, R144 to R146, R150). That the FILLING slot carries the site id of the item from the grant on,
which R150 gives at the end of IMAGE, is the model's choice (log 44). -/
def Obligations.ClaimGranted : Prop :=
  ∀ (s : State) (k : ClaimKind) (n : Need) (c : Current), s.resetHeld = false →
    s.fli.transmitter = some { frame := .notice (.claim k), stale := false, unreported := false } →
    s.fcu.claim = .pending k → s.fcu.need = some n → n.kind = k → s.fcu.state = .active →
    s.fcu.doubtUntil = none → (∀ v ∈ s.fcu.view, ∀ m, v.claim = some m → m.kind = k) →
    s.cyc.current = some c → c.step = .waiting →
    let base : State :=
      { s with fli := { s.fli.frameEnded (noticeLine s.fli.rank (.claim k)) with transmitter := none } }.holdoffOver
    let granted : State :=
      { base with
        fcu :=
          { base.fcu with
            claim := .held k, collided := [], need := none, block := none
            claimRefresh := some { setAt := s.tbu.stationTime, interval := s.cfg.refreshInterval } }
        cyc.current := some { c with step := .working } }
    let ahead := fun (interval : Nat) => some { setAt := s.tbu.stationTime, interval := interval : Deadline }
    (∀ i, k = .quiet → c.work = .indent i → c.phase = .indent →
      let force := i.fields.force
      exec .ownFrameCompleted s = .next
        { granted with
          frc :=
            { s.frc with
              state := .tare
              cycle := some
                { force := force, dwell := i.dwell, loadTime := i.loadTime.getD s.cfg.defaultLoadTime
                  contactAt := max 5 (force * s.cfg.contactPermille / 1000)
                  overloadAt := force + max 20 (force * s.cfg.overloadPermille / 1000)
                  crossLimit := max 5 (force * s.cfg.crossCheckPermille / 1000) }
              contact := false, setPoint := 0, pairs := 0, sumPrimary := 0, sumCheck := 0, holdTicks := 0
              holdSum := 0, holdSamples := 0, holdSource := none, disagreement := 0 } }) ∧
    (∀ (f : SiteFields) (x y : Int) (slot z : Nat) (pieces : List Piece), k = .motion → s.fieldsOf c.work = some f →
      (∃ r, c.phase = .toSite ∧ s.cfg.slot f.indenter = .indenter r ∧ x = f.x - r.offsetX ∧ y = f.y - r.offsetY ∧
        slot = f.indenter ∧ z = r.standoff ∧ pieces = [.carriageTo x y, .indexTo slot, .rapidTo z, .settle]) ∨
      (∃ o, c.phase = .toView ∧ s.cfg.slot f.objective = .objective o ∧ x = f.x - o.offsetX ∧ y = f.y - o.offsetY ∧
        slot = f.objective ∧ z = o.focusStart ∧ pieces = [.indexTo slot, .carriageTo x y, .rapidTo z, .settle]) →
      let sequence := .homeZ :: .homeTurret :: .homeCarriage :: pieces
      ∀ (n : Nat) (p : Piece), sequence[n]? = some p → (∀ q ∈ sequence.take n, s.mot.standsAt q) → ¬s.mot.standsAt p →
        s.mot.mayIndex p → (p ≠ .settle → s.interlockPasses) →
        let begun : State := { granted with mot := s.mot.begun s.cfg s.tbu.stationTime p (sequence.drop (n + 1)) }
        ((p = .settle → 0 < s.cfg.settleTime) → exec .ownFrameCompleted s = .next begun) ∧
        (p = .settle → s.cfg.settleTime = 0 → s.mot.settleEnd = none →
          exec .ownFrameCompleted s = exec .settleEnd begun)) ∧
    (∀ (f : SiteFields) (o : ObjectiveRecord) (name : SlotName), k = .quiet → c.phase = .image →
      s.fieldsOf c.work = some f → s.cfg.slot f.objective = .objective o → 0 < o.focusCount →
      (name = .a ∧ s.mea.slotA = .free) ∨ (name = .b ∧ s.mea.slotA ≠ .free ∧ s.mea.slotB = .free) →
      s.mot.zHomed = true → s.mot.zActivity = .idle → s.mot.stopping = false →
      let highest : Int := o.focusStart + ((o.focusCount - 1) / 2 : Nat) * o.focusStep
      let z := (max 0 (min 500000 highest)).toNat
      let searching : Img :=
        { s.img with
          state := .step, stage := .focus, objective := some f.objective, reserved := some name, index := 0
          positions := some ((List.range o.focusCount).map fun i =>
            (o.focusStart : Int) + (((o.focusCount - 1) / 2 : Nat) - (i : Int)) * o.focusStep)
          best := none, attempt := 0, illumination := o.illumination }
      let filling : State := { granted with mea := s.mea.set name (.filling c.work.site) }
      (s.mot.z ≠ z →
        exec .ownFrameCompleted s = .next
          { filling with
            mot := { s.mot with zActivity := .fine z, moveDeadline := ahead s.cfg.moveTimeout }, img := searching }) ∧
      (s.mot.z = z → o.focusSettle ≠ 0 →
        exec .ownFrameCompleted s = .next
          { filling with
            img := { searching with state := .settle, reachedZ := z, settleEnd := ahead o.focusSettle } }) ∧
      (s.mot.z = z → o.focusSettle = 0 →
        exec .ownFrameCompleted s = .next
          { filling with
            img :=
              { searching with
                state := .capture, reachedZ := z, ph := [], pv := [], settleEnd := none
                frameWaitEnd := ahead 250 } }))

/-- The own CLAIM(k) completes. A PENDING claim whose grant conditions do not all hold is taken back at once: RELEASE(k) is
queued, own claim is NONE and nobody is told. So it is with the need cleared meanwhile; and with a need still set, which meets
the permit test again: in LISTEN_IN, in doubt, with a live opposing claim in the view, and with a need of the other kind. The
need then waits with the failing cause, and behind an opposing claim, its patience passed, with a HOLDOFF of its own; a need of
the other kind that nothing opposes has its CLAIM queued behind the RELEASE. While the claim is HELD the completion is a
refresh's and only sets the next one; while it is NONE, as after a release that finds the refresh on the line and marks it stale,
nothing is set (R55, R58, R61, R70, R71). That the HOLDOFF is tried at the failing test itself is the model's choice (log 17). -/
def Obligations.ClaimCompletionWithoutGrant : Prop :=
  ∀ (s : State) (k : ClaimKind) (stale : Bool), s.resetHeld = false →
    s.fli.transmitter = some { frame := .notice (.claim k), stale := stale, unreported := false } →
    s.fcu.state = .listenIn ∨ s.fcu.state = .active →
    let answers := fun t => exec .ownFrameCompleted s = .next t
    let sent : Fli := { s.fli.frameEnded (noticeLine s.fli.rank (.claim k)) with transmitter := none }
    let takenBack : State :=
      { s with
        fli := { sent with notices := placeNotice (.release k) s.fli.notices }
        fcu.claim := .none }
    let blocked := fun (cause : BlockCause) =>
      if s.fcu.block = some cause then takenBack
      else { takenBack with fcu.block := some cause }.signal .block (qualifierBit cause.code)
    (stale = false → s.fcu.claim = .pending k →
      (s.fcu.need = none → answers takenBack) ∧
      (∀ n, s.fcu.need = some n →
        (s.fcu.state = .listenIn → answers (blocked .listenIn)) ∧
        (s.fcu.state = .active → s.fcu.doubtUntil ≠ none → answers (blocked .doubt)) ∧
        (s.fcu.state = .active → s.fcu.doubtUntil = none →
          let claimed := ∃ v ∈ s.fcu.view, ∃ m, v.claim = some m ∧ m.kind = n.kind.opposite
          let heldOff := ∃ v ∈ s.fcu.view, ∃ m, v.holdoff = some m ∧ m.kind = n.kind.opposite
          let patient := s.cfg.patience ≤ (s.tbu.stationTime - n.since).toNat ∧ s.fcu.holdoff = .none ∧ ¬heldOff
          (claimed → ¬patient → answers (blocked .peerClaim)) ∧
          (claimed → patient →
            answers
              { blocked .peerClaim with
                fcu := { s.fcu with claim := .none, block := some .peerClaim, holdoff := .queued n.kind }
                fli := { sent with notices := placeNotice (.holdoff n.kind) (placeNotice (.release k) s.fli.notices) } }) ∧
          (¬claimed → n.kind ≠ k → heldOff → answers (blocked .peerHoldoff)) ∧
          (¬claimed → n.kind ≠ k → ¬heldOff →
            answers
              { takenBack with
                fcu := { s.fcu with claim := .pending n.kind, block := none }
                fli := { sent with notices := placeNotice (.claim n.kind) (placeNotice (.release k) s.fli.notices) } })))) ∧
    (stale = false → s.fcu.claim = .held k →
      answers
        { s with
          fli := sent
          fcu.claimRefresh := some { setAt := s.tbu.stationTime, interval := s.cfg.refreshInterval } }) ∧
    (s.fcu.claim = .none → answers { s with fli := sent })

/-- An own frame that ends with an error leaves the transmitter, takes the engine to SYNC and begins doubt; the dominant bit it
read, after the levels seen since the last command that told of one, ends the idle count and lengthens the run. A message, a
RELEASE or a HELLO is lost; a PENDING claim whose CLAIM is queued behind it is withdrawn and counted. The CLAIM of a PENDING
claim leaves own claim NONE; a HELD claim stays HELD and its next refresh is due one interval on; a HOLDOFF leaves own holdoff
NONE. A set need is blocked with cause doubt each time (R55, R57, R59, R70, R78, R82, R85). That the command carries the levels
(log 9), and that an error taken in doubt blocks again (log 18), are the model's choices. -/
def Obligations.OwnFrameErrorBeginsDoubt : Prop :=
  ∀ (s : State) (frame : OutFrame) (stale : Bool) (since : List Bool), s.resetHeld = false → s.fcu.state = .active →
    s.fli.transmitter = some { frame := frame, stale := stale, unreported := false } →
    let doubtful : State :=
      { s with
        fli :=
          { s.fli with
            transmitter := none, engine := .sync, idleCount := 0, runLength := (s.fli.sees since).runLength + 1 }
        fcu.doubtUntil := some { setAt := s.tbu.stationTime, interval := 2 * s.cfg.refreshInterval } }
    let blocked := fun (u : State) =>
      if u.fcu.need = none ∨ u.fcu.block = some .doubt then u
      else { u with fcu.block := some .doubt }.signal .block (qualifierBit 2)
    ((∀ j, s.fcu.holdoff ≠ .queued j) →
      ((∃ m, frame = .message m ∧ m.restart = false) ∨ (∃ k, frame = .notice (.release k)) ∨
          (∃ cause, frame = .notice (.hello cause)) →
        ((∀ j, s.fcu.claim ≠ .pending j) → exec (.ownFrameError since) s = .next (blocked doubtful)) ∧
        (∀ j, s.fcu.claim = .pending j → (∃ q ∈ s.fli.notices, q.isClaim = true) →
          exec (.ownFrameError since) s = .next
            (blocked ({ doubtful with
              fcu.claim := .none
              fli.notices := s.fli.notices.filter fun q => !q.isClaim }.signal .withdrawn (qualifierBit 0))))) ∧
      (∀ k, frame = .notice (.claim k) →
        (s.fcu.claim = .pending k → (∀ q ∈ s.fli.notices, q.isClaim = false) →
          exec (.ownFrameError since) s = .next (blocked { doubtful with fcu.claim := .none })) ∧
        (s.fcu.claim = .held k →
          exec (.ownFrameError since) s = .next
            (blocked { doubtful with
              fcu.claimRefresh := some { setAt := s.tbu.stationTime, interval := s.cfg.refreshInterval } })))) ∧
    (∀ k, frame = .notice (.holdoff k) → (∀ j, s.fcu.claim ≠ .pending j) → (∀ q ∈ s.fli.notices, q.isHoldoff = false) →
      exec (.ownFrameError since) s = .next (blocked { doubtful with fcu.holdoff := .none, fcu.holdoffRefresh := none }))

/-- A RELEASE of kind k from a peer clears that peer's claim if it is of kind k, and a HELLO clears the peer's entry whatever
its cause; both set last heard. Then a PENDING claim is checked again and a waiting need meets the permit test (R57, R65, R67).
-/
def Obligations.PeerReleaseAndHello : Prop :=
  ∀ (s : State) (r : Nat), s.live → r ≤ 7 → r ≠ s.fli.rank → (∃ v ∈ s.fcu.view, v.rank = r) →
    s.fcu.state = .listenIn ∨ s.fcu.state = .active → s.fli.engine = .receiving → s.fli.transmitter = none →
    let after := fun (n : Notice) (f : ViewEntry → ViewEntry) =>
      ({ s with
        fli := s.fli.frameEnded (noticeLine r n)
        fcu.view := s.fcu.view.map fun (v : ViewEntry) =>
          if v.rank = r then { f v with lastHeard := some s.tbu.stationTime } else v }.recheckPending).permitTest
    (∀ k, exec (.frameEnd (noticeLine r (.release k))) s
      = .next (after (.release k) fun v => { v with claim := v.claim.filter fun m => m.kind != k })) ∧
    (∀ cause, exec (.frameEnd (noticeLine r (.hello cause))) s
      = .next (after (.hello cause) fun v => { v with claim := none, holdoff := none }))

/-- A CLAIM(k) from a peer, with no claim held here, sets the peer's claim with a new expiry and clears its holdoff that wanted
k; a HOLDOFF(k) sets its holdoff with a new expiry. An own holdoff of the opposite kind stops then: one that is QUEUED is
withdrawn and counted, one that is SENT sends no further refresh; one of the same kind stands. Then a PENDING claim is checked
again and a waiting need meets the permit test: a PENDING claim of the opposite kind whose CLAIM is queued is withdrawn and
counted, own claim is NONE and the need waits with cause peer claim or peer holdoff, with a HOLDOFF of its own where its
patience has passed; one whose CLAIM is on the line stays (R55, R57, R63, R64, R66, R71, R73). That a refresh of a SENT holdoff
still queued is removed (log 14), and that the HOLDOFF is tried at the failing test itself (log 17), are the model's choices.
-/
def Obligations.PeerClaimAndHoldoff : Prop :=
  ∀ (s : State) (r : Nat) (k : ClaimKind), s.live → r ≤ 7 → r ≠ s.fli.rank → (∃ v ∈ s.fcu.view, v.rank = r) →
    s.fcu.state = .listenIn ∨ s.fcu.state = .active → s.fli.engine = .receiving → s.fli.transmitter = none →
    let mark : PeerMark :=
      { kind := k
        expiry := { setAt := s.tbu.stationTime, interval := s.cfg.expiryMultiplier * s.cfg.refreshInterval } }
    let heard := fun (n : Notice) (f : ViewEntry → ViewEntry) =>
      { s with
        fli := s.fli.frameEnded (noticeLine r n)
        fcu.view := s.fcu.view.map fun (v : ViewEntry) =>
          if v.rank = r then { f v with lastHeard := some s.tbu.stationTime } else v }
    let heldOff : State := heard (.holdoff k) fun v => { v with holdoff := some mark }
    let unqueued : List Notice := s.fli.notices.filter fun q => !q.isHoldoff
    ((∀ j, s.fcu.claim ≠ .held j) → exec (.frameEnd (noticeLine r (.claim k))) s
      = .next ((heard (.claim k) fun v =>
          { v with claim := some mark, holdoff := v.holdoff.filter fun m => m.kind != k }).recheckPending.permitTest)) ∧
    (s.fcu.holdoff ≠ .queued k.opposite → s.fcu.holdoff ≠ .sent k.opposite →
      exec (.frameEnd (noticeLine r (.holdoff k))) s = .next heldOff.recheckPending.permitTest) ∧
    (s.fcu.holdoff = .queued k.opposite → (∃ q ∈ s.fli.notices, q.isHoldoff = true) →
      exec (.frameEnd (noticeLine r (.holdoff k))) s
        = .next (({ heldOff with fli.notices := unqueued, fcu.holdoff := .none }.signal .withdrawn
            (qualifierBit 1)).recheckPending.permitTest)) ∧
    (s.fcu.holdoff = .sent k.opposite →
      exec (.frameEnd (noticeLine r (.holdoff k))) s
        = .next ({ heldOff with
            fli.notices := unqueued, fcu.holdoff := .none, fcu.holdoffRefresh := none }.recheckPending.permitTest)) ∧
    ∀ n : Need, s.fcu.state = .active → s.fcu.doubtUntil = none → s.fcu.claim = .pending k.opposite →
      s.fcu.need = some n → n.kind = k.opposite →
      let claimed : State := heard (.claim k) fun v =>
        { v with claim := some mark, holdoff := v.holdoff.filter fun m => m.kind != k }
      let withdrawn := fun (u : State) (cause : BlockCause) =>
        let w := { u with
          fcu.claim := .none
          fli.notices := s.fli.notices.filter fun q => !q.isClaim }.signal .withdrawn (qualifierBit 0)
        if s.fcu.block = some cause then w else { w with fcu.block := some cause }.signal .block (qualifierBit cause.code)
      let patient := s.cfg.patience ≤ (s.tbu.stationTime - n.since).toNat
      ((∀ q ∈ s.fli.notices, q.isClaim = false) → exec (.frameEnd (noticeLine r (.claim k))) s = .next claimed) ∧
      ((∃ q ∈ s.fli.notices, q.isClaim = true) →
        (¬patient ∨ s.fcu.holdoff ≠ .none →
          exec (.frameEnd (noticeLine r (.claim k))) s = .next (withdrawn claimed .peerClaim)) ∧
        (patient → s.fcu.holdoff = .none → (∀ v ∈ s.fcu.view, ∀ m, v.holdoff = some m → m.kind ≠ k) →
          exec (.frameEnd (noticeLine r (.claim k))) s = .next
            { withdrawn claimed .peerClaim with
              fcu.holdoff := .queued n.kind
              fli.notices := placeNotice (.holdoff n.kind) (s.fli.notices.filter fun q => !q.isClaim) }) ∧
        (s.fcu.holdoff = .none → (∀ v ∈ s.fcu.view, ∀ m, v.claim = some m → m.kind ≠ k) →
          exec (.frameEnd (noticeLine r (.holdoff k))) s = .next (withdrawn heldOff .peerHoldoff)))

/-- A CLAIM of the opposite kind while own claim is HELD is a collision: CLAIM_COLLISION is set, a rank not yet among the
collided ranks joins them and is signalled once, and a held QUIET claim flags the current item: FRAME_DISTURBED_INDENT in
INDENT, FRAME_DISTURBED_IMAGE in IMAGE (R34, R64, R74). -/
def Obligations.CollisionIsRecorded : Prop :=
  ∀ (s : State) (r : Nat) (k : ClaimKind) (c : Current), s.live → r ≤ 7 → r ≠ s.fli.rank →
    (∃ v ∈ s.fcu.view, v.rank = r) → s.fcu.state = .active → s.fli.engine = .receiving →
    s.fli.transmitter = none → s.fcu.claim = .held k.opposite → s.cyc.current = some c →
    let mark : PeerMark :=
      { kind := k
        expiry := { setAt := s.tbu.stationTime, interval := s.cfg.expiryMultiplier * s.cfg.refreshInterval } }
    let recorded : State :=
      { s with
        fli := s.fli.frameEnded (noticeLine r (.claim k))
        fcu.claimCollision := true
        fcu.view := s.fcu.view.map fun (v : ViewEntry) =>
          if v.rank = r then
            { v with
              claim := some mark, holdoff := v.holdoff.filter fun m => m.kind != k
              lastHeard := some s.tbu.stationTime }
          else v
        cyc.gatheredIndent.frameDisturbedIndent :=
          s.cyc.gatheredIndent.frameDisturbedIndent || (k == .motion && c.phase == .indent)
        cyc.gatheredMeasure.frameDisturbedImage :=
          s.cyc.gatheredMeasure.frameDisturbedImage || (k == .motion && c.phase == .image) }
    exec (.frameEnd (noticeLine r (.claim k))) s = .next
      (if r ∈ s.fcu.collided then recorded
        else { recorded with fcu.collided := s.fcu.collided ++ [r] }.signal .collision 0)

/-- Damage on the line is counted and begins doubt: a frame whose check does not match, a length byte above 32, a run of 9 to
16 bit times, and a run of 17 to 49 or of 151 to 499. A frame to a reserved destination 8..14 is counted as stray without
doubt, and one to another node is dropped uncounted. Of a frame to the own rank or to all, a message of another station is
counted as stray; a notice that bears the own rank sets DUPLICATE_RANK and is counted; one of an unknown sender, to the own
rank alone, or undecodable, is counted as stray, and the view stays; in INACTIVE and HALTED a notice is discarded. A PENDING
claim is checked again at a frame taken (R57, R63, R85 to R88, R176). At the end of a run its first recessive bit is the first
of a new idle count, and at a length byte above 32 the measures are those of the levels from the frame's start bit, which may
leave the line idle and the engine READY (R78, R79, R85). That the command carries the three bytes is the model's choice (log
9). -/
def Obligations.LineErrorsCounted : Prop :=
  ∀ (s : State), s.live →
    let runOver : State := { s with fli := { s.fli with engine := .sync, idleCount := 1, runLength := 0 } }
    (∀ f : LinkFrame, f.payload.length ≤ 32 → s.fli.engine = .receiving → s.fli.transmitter = none →
      (f.checkGood = false → exec (.frameEnd f.line) s
        = .next (({ s with fli := s.fli.frameEnded f.line }.signal .linkError (qualifierBit 0)).beginDoubt)) ∧
      (f.checkGood = true → 8 ≤ f.dest.toNat → f.dest.toNat ≤ 14 → exec (.frameEnd f.line) s
        = .next ({ s with fli := s.fli.frameEnded f.line }.signal .linkError (qualifierBit 3))) ∧
      (f.checkGood = true →
        let heard : State := { s with fli := s.fli.frameEnded f.line }
        let answers := fun (u : State) => exec (.frameEnd f.line) s = .next u
        let listening := s.fcu.state = .listenIn ∨ s.fcu.state = .active
        let known := ∃ v ∈ s.fcu.view, v.rank = f.sender
        let undecodable := f.kind = 0#8 ∨ 4 < f.kind.toNat ∨ f.payload.length ≠ 1 ∨
          (f.kind = 1#8 ∧ 2 < (f.payload.headD 0#8).toNat) ∨ (f.kind ≠ 1#8 ∧ 1 < (f.payload.headD 0#8).toNat)
        (f.dest.toNat < 8 → ¬s.own f.dest → answers heard) ∧
        (s.own f.dest ∨ f.dest = 15#4 →
          (f.isMessage = true → f.sender ≠ 0 → answers (heard.signal .linkError (qualifierBit 3)).recheckPending) ∧
          (f.isMessage = false →
            (listening → f.sender = s.fli.rank →
              answers ({ heard with fcu.duplicateRank := true }.signal .linkError (qualifierBit 4)).recheckPending) ∧
            (listening → f.sender ≠ s.fli.rank → ¬known ∨ f.dest ≠ 15#4 ∨ undecodable →
              answers (heard.signal .linkError (qualifierBit 3)).recheckPending) ∧
            (s.fcu.state = .inactive ∨ s.fcu.state = .halted → s.fcu.claim = .none → answers heard))))) ∧
    (∀ arbitration kind length : Byte, 32 < length.toNat → s.fli.engine = .receiving →
      let levels := stuff 0 (false :: (byteBits arbitration ++ byteBits kind ++ byteBits length))
      exec (.lengthAbove32 length arbitration kind) s
        = .next (({ s with
              fli := { s.fli.measured levels with engine := if recessiveTail levels = 12 then .ready else .sync }
              }.signal .linkError (qualifierBit 1)).beginDoubt)) ∧
    (∀ n, 9 ≤ n → n ≤ 16 → exec (.dominantRunEnd n) s
      = .next ((runOver.signal .linkError (qualifierBit 1)).beginDoubt)) ∧
    (∀ n, (17 ≤ n ∧ n ≤ 49) ∨ (151 ≤ n ∧ n ≤ 499) → exec (.dominantRunEnd n) s
      = .next ((runOver.signal .linkError (qualifierBit 2)).beginDoubt)) ∧
    (∀ n, 500 ≤ n → exec (.dominantRunEnd n) s = .next runOver)

/-- A run of 50 to 150 bit times, a CLEAR pulse, takes the engine to SYNC and begins doubt; it is not counted, and both
transmit queues and TX_OVERFLOW stay; its first recessive bit is the first of a new idle count (R78, R89). Doubt begins in
LISTEN_IN and ACTIVE alone; where nothing is to be settled it sets doubt-until one doubt interval ahead and nothing else, and
a set need is blocked with cause doubt in LISTEN_IN too (R55, R70). That it is blocked in LISTEN_IN, and again by a pulse taken
in doubt, where R70 says only that doubt-until moves, is the model's choice (log 18). -/
def Obligations.ClearPulseBeginsDoubt : Prop :=
  ∀ (s : State) (n : Nat), s.live → 50 ≤ n → n ≤ 150 →
    let runOver : Fli := { s.fli with engine := .sync, idleCount := 1, runLength := 0 }
    let doubtful : State :=
      { s with
        fli := runOver
        fcu.doubtUntil := some { setAt := s.tbu.stationTime, interval := 2 * s.cfg.refreshInterval } }
    exec (.dominantRunEnd n) s = .next ({ s with fli := runOver }.beginDoubt) ∧
    (s.fcu.quietState → s.fcu.state = .listenIn ∨ s.fcu.state = .active →
      exec (.dominantRunEnd n) s = .next doubtful) ∧
    (s.fcu.state = .listenIn → s.fcu.need ≠ none → s.fcu.claim = .none → s.fcu.holdoff = .none →
      exec (.dominantRunEnd n) s = .next
        (if s.fcu.block = some .doubt then doubtful
          else { doubtful with fcu.block := some .doubt }.signal .block (qualifierBit 2))) ∧
    (s.fcu.state = .inactive ∨ s.fcu.state = .halted → exec (.dominantRunEnd n) s = .next { s with fli := runOver })

/-- HALT_PULSE: nothing is current or needed or claimed any more, the mode is HALTED (in START the HALT is remembered, in
FAULTED the mode stays), the notice queue and the view are emptied, the head is withdrawn and stopped, the lamp is dark, and
the queue of sites, the timebase, the image held and a pending restart stay. The current item is written by its phase, with its
SITE_DONE where the message queue has room: ABORTED_BEFORE_CONTACT before contact, ABORTED with INDENT_ABORTED and a cut hold's
results after it, ABORTED with MEASURE_ABORTED in TO_VIEW and IMAGE, a REMEASURE's entry not at all; an item already ENDING and
no item write nothing. A FILLING slot is freed, every other slot is kept. An own frame has ended with an error by then: it is
gone, a message lost; a restart reply lets the restart take effect before the HALT (R25, R30, R47, R75, R82, R83, R90, R107,
R126, R135, R149, R169). That a frame still in the transmitter ends with an error at the pulse (log 21), and that the
withdrawals on the pulse count no WITHDRAWN event, as R83 says of the queue's emptying (log 20), are the model's choices. -/
def Obligations.HaltStopsEverything : Prop :=
  ∀ s : State, s.resetHeld = false →
    let halted := fun (t : State) =>
      t.cyc.current = none ∧ t.cyc.batch = none ∧ t.cyc.cue = .none ∧ t.cyc.delivered = s.cyc.delivered ∧
      t.cyc.mode = (match s.cyc.mode with | .start => .start | .faulted => .faulted | _ => .halted) ∧
      (s.cyc.mode = .start → t.cyc.haltSeen = true) ∧
      (s.fcu.state ≠ .inactive → t.fcu.state = .halted ∧ t.fcu.need = none ∧ t.fcu.claim = .none ∧
        t.fcu.collided = [] ∧ t.fcu.holdoff = .none ∧ t.fcu.block = none ∧ t.fcu.doubtUntil = none ∧
        t.fcu.listenEnd = none ∧ t.fcu.claimRefresh = none ∧ t.fcu.holdoffRefresh = none ∧
        (∀ v ∈ t.fcu.view, v.claim = none ∧ v.holdoff = none ∧ v.lastHeard = none)) ∧
      t.fcu.duplicateRank = s.fcu.duplicateRank ∧ t.fcu.claimCollision = s.fcu.claimCollision ∧
      t.fli.notices = [] ∧ t.fli.rank = s.fli.rank ∧ t.fli.transmitter = none ∧ t.fli.idleCount = 0 ∧
      t.fli.runLength = 500 ∧
      (s.frc.state = .tare ∨ s.frc.state = .wireTest → t.frc.state = .retract) ∧
      (s.frc.state = .approach ∨ s.frc.state = .load ∨ s.frc.state = .hold ∨ s.frc.state = .unload →
        t.frc.state = .fastUnload ∧ t.frc.deadline = some { setAt := s.tbu.stationTime, interval := 2000 }) ∧
      (s.frc.state = .fastUnload ∨ s.frc.state = .retract ∨ s.frc.state = .retracted ∨ s.frc.state = .idle →
        t.frc.state = s.frc.state) ∧
      t.frc.setPoint = 0 ∧ t.frc.disagreement = 0 ∧ t.frc.tare = s.frc.tare ∧
      (s.mot.stopping = false → t.mot.sequence = none ∧ t.mot.settleEnd = none ∧ t.mot.moveDeadline = none ∧
        t.mot.stopping = s.mot.moving) ∧
      (t.img.state = .idle ∨ t.img.state = .ending) ∧
      (s.img.state ≠ .idle → t.img.illumination = 0 ∧ t.img.reserved = none) ∧
      t.sst.queue = s.sst.queue ∧ t.sst.deferral = s.sst.deferral ∧ t.tbu = s.tbu ∧ t.cfg = s.cfg ∧
      t.restartPending = s.restartPending ∧
      (s.cyc.current = none → t.sst = s.sst ∧ t.fli.messages = s.fli.messages) ∧
      (∀ name, (∀ site, s.mea.get name ≠ .filling site) → t.mea.get name = s.mea.get name) ∧
      (∀ name site, s.img.state.working = true → s.img.reserved = some name → s.mea.get name = .filling site →
        t.mea = s.mea.set name .free) ∧
      ∀ c, s.cyc.current = some c →
        let wrote := fun (map : List Entry) (e : Entry) (attempt : SiteOutcome) (flags : MeasureFlags) =>
          t.sst.map = map ∧
            (s.hasMessageRoom 1 →
              t.fli.messages = s.fli.messages ++ [{ message := .siteDone e attempt flags, restart := false }])
        (c.step = .ending → t.sst = s.sst ∧ t.fli.messages = s.fli.messages) ∧
        (c.step ≠ .ending →
          (∀ i, c.work = .indent i → c.phase = .toSite →
            let e := i.fields.abandoned .none s.tbu.stationTime
            wrote (s.sst.map ++ [e]) e .abortedBeforeContact .none) ∧
          (∀ i, c.work = .indent i → c.phase = .indent → s.cyc.contactMark = none → s.frc.state ≠ .hold →
            let e := i.fields.abandoned s.cyc.gatheredIndent s.tbu.stationTime
            wrote (s.sst.map ++ [e]) e .abortedBeforeContact .none) ∧
          (∀ i mark e, c.work = .indent i → c.phase = .indent → s.cyc.contactMark = some mark →
            s.sst.entry? i.fields.site = some e →
            wrote (s.mapWith i.fields.site (s.abandonedAtStop mark)) (s.abandonedAtStop mark e) .aborted e.measureFlags) ∧
          (∀ e, c.phase = .toView ∨ c.phase = .image → s.sst.entry? c.work.site = some e →
            (∀ site, c.work = .remeasure site → wrote s.sst.map e .aborted measureAbortedAlone) ∧
            ((∀ site, c.work ≠ .remeasure site) →
              wrote (s.mapWith c.work.site Entry.unmeasured) e.unmeasured .aborted measureAbortedAlone)))
    (s.fli.transmitter = none → ∃ t, exec .haltPulse s = .next t ∧ halted t ∧ t.fli.engine = s.fli.engine ∧
      (s.cyc.current = none → t.evc = s.evc)) ∧
    (∀ sent, s.fli.transmitter = some sent →
      (∀ m, sent.frame = .message m → m.restart = true → sent.unreported = true) →
      ∃ t, exec .haltPulse s = .next t ∧ halted t ∧ t.fli.engine = .sync) ∧
    (∀ m stale, s.fli.transmitter = some { frame := .message m, stale := stale, unreported := false } → m.restart = true →
      ∃ t, exec .haltPulse s = .next t ∧ t.cyc.mode = .start ∧ t.cyc.haltSeen = true ∧ t.cyc.current = none ∧
        t.fcu.state = .inactive ∧ t.fli.transmitter = none ∧ t.fli.engine = .sync ∧ t.fli.notices = [] ∧
        t.fli.messages = [] ∧ t.sst = { queue := [], deferral := none, map := [] } ∧ t.frc.state = .retract ∧
        t.restartPending = false ∧ t.tbu = s.tbu)

/-- The line's own events: 12 recessive bit times make the line idle and take the engine from SYNC to READY, a start bit makes
a READY engine RECEIVING, and a run reaching 9 bit times discards what is being received. The measures after a frame's levels
are the recessive bit times that end them, up to 12, and the dominant ones, as counting them level by level gives, where SYNC
becomes READY at the twelfth and READY becomes RECEIVING at a dominant level. STOP_N drives a pulse, which ends an own frame
with an error past its arbitration byte and as a loss within it; its end stops the drive or waits, and a further pulse follows
while STOP_N stays asserted and ends an own frame in the same way; an assertion while driving has no effect. The first bit of a
pulse, after the levels seen since the last command that told of one, ends the idle count, lengthens the run and is a start bit
to a READY engine (R78, R81, R82, R85, R86, R91). That the commands carry the levels (log 9), the engine at a run of 9 (log
10), LINE_IDLE within a frame (log 43), a STOP assertion while waiting and that the command carries how far an own frame has
come (log 39) are the model's choices. -/
def Obligations.LineAndStopDrive : Prop :=
  (∀ levels : List Bool,
    recessiveTail (levels ++ [true]) = min 12 (recessiveTail levels + 1) ∧ recessiveTail (levels ++ [false]) = 0 ∧
    dominantTail (levels ++ [false]) = dominantTail levels + 1 ∧ dominantTail (levels ++ [true]) = 0 ∧
    recessiveTail [] = 0 ∧ dominantTail [] = 0 ∧
    ∀ f : Fli, f.frameEnded levels =
      { f with idleCount := recessiveTail levels, runLength := dominantTail levels, engine := .ready }) ∧
  (∀ (f : Fli) (levels : List Bool),
    f.sees [] = f ∧
    (let seen := f.sees levels
      let idle := min 12 (seen.idleCount + 1)
      f.sees (levels ++ [true]) =
        { seen with
          idleCount := idle, runLength := 0, engine := if seen.engine = .sync ∧ idle = 12 then .ready else seen.engine } ∧
      f.sees (levels ++ [false]) =
        { seen with
          idleCount := 0, runLength := seen.runLength + 1
          engine := if seen.engine = .ready then .receiving else seen.engine }) ∧
    (true ∈ levels → false ∈ levels →
      f.sees levels =
        { f with
          idleCount := recessiveTail levels, runLength := dominantTail levels, engine := (f.sees levels).engine })) ∧
  (∀ (s : State), s.live →
    let pulsed := fun (seen : Fli) =>
      { s with
        fli :=
          { s.fli with
            stopDrive := .driving
            idleCount := 0
            runLength := seen.runLength + 1
            engine := if seen.engine = .ready then .receiving else seen.engine } }
    (s.fli.stopDrive ≠ .driving →
      exec .lineIdle s = .next
        { s with
          fli.idleCount := 12
          fli.runLength := 0
          fli.engine := if s.fli.engine = .sync then .ready else s.fli.engine }) ∧
    (s.fli.engine = .ready →
      exec .startBit s = .next { s with fli.idleCount := 0, fli.runLength := 1, fli.engine := .receiving }) ∧
    (s.fli.engine ≠ .ready → exec .startBit s = .next { s with fli.idleCount := 0, fli.runLength := 1 }) ∧
    (s.fli.engine = .receiving →
      exec .dominantRunReaches9 s = .next
        { s with fli.idleCount := 0, fli.runLength := 9, fli.engine := .sync }) ∧
    (s.fli.engine ≠ .receiving →
      exec .dominantRunReaches9 s = .next { s with fli.idleCount := 0, fli.runLength := 9 }) ∧
    (∀ past since, s.fli.stopDrive ≠ .driving → s.fli.transmitter = none →
      exec (.stopAsserted past since) s = .next (pulsed (s.fli.sees since))) ∧
    (∀ since, s.fli.stopDrive ≠ .driving → s.fli.transmitter ≠ none →
      (∃ t, exec (.ownFrameError since) s = .next t ∧
        exec (.stopAsserted true since) s = .next { t with fli.stopDrive := .driving }) ∧
      (∃ t, exec (.arbitrationLoss since) s = .next t ∧
        exec (.stopAsserted false since) s = .next { t with fli.stopDrive := .driving })) ∧
    (∀ past since, s.fli.stopDrive = .driving → exec (.stopAsserted past since) s = .next s) ∧
    (s.fli.stopDrive = .driving →
      exec (.stopPulseEnd true) s = .next { s with fli.stopDrive := .waiting } ∧
      exec (.stopPulseEnd false) s = .next { s with fli.stopDrive := .notDriving }) ∧
    (∀ past since, s.fli.stopDrive = .waiting → s.fli.transmitter = none →
      exec (.stopPulseRepeat past since) s = .next (pulsed (s.fli.sees since))) ∧
    (∀ since, s.fli.stopDrive = .waiting → s.fli.transmitter ≠ none →
      (∃ t, exec (.ownFrameError since) s = .next t ∧
        exec (.stopPulseRepeat true since) s = .next { t with fli.stopDrive := .driving }) ∧
      (∃ t, exec (.arbitrationLoss since) s = .next t ∧
        exec (.stopPulseRepeat false since) s = .next { t with fli.stopDrive := .driving })) ∧
    (∀ past since, s.fli.stopDrive ≠ .waiting → exec (.stopPulseRepeat past since) s = .next s))

/-! ### The tick and the deadlines of Frame Coordination -/

/-- A tick adds 1 to station time, which wraps, and carries its source's mark; a need that is not met by a HELD claim is
signalled as one WAIT_MS event of its kind (R54, R129, R174). -/
def Obligations.TickAdvances : Prop :=
  ∀ s : State, s.live →
    let ticked : State := { s with tbu.stationTime := s.tbu.stationTime + 1, tbu.tickMark := s.tbu.source }
    (s.fcu.need = none ∨ (∃ k, s.fcu.claim = .held k) → exec .tick s = .next ticked) ∧
    (∀ n, s.fcu.need = some n → (∀ k, s.fcu.claim ≠ .held k) →
      exec .tick s = .next (ticked.signal .waitMs (qualifierBit n.kind.code)))

/-- Listen-in end reached makes the unit ACTIVE, and doubt-until reached ends doubt; in both a waiting need meets the
permit test, and before their times the events change nothing (R69, R70). No effect before their times is the model's
choice (log 5). -/
def Obligations.ListenInAndDoubtEnd : Prop :=
  ∀ (s : State) (d : Deadline), s.live →
    (s.fcu.state = .listenIn → s.fcu.listenEnd = some d →
      (d.interval ≤ (s.tbu.stationTime - d.setAt).toNat →
        exec .listenInEnd s = .next ({ s with fcu.state := .active, fcu.listenEnd := none }.permitTest)) ∧
      ((s.tbu.stationTime - d.setAt).toNat < d.interval → exec .listenInEnd s = .next s)) ∧
    (s.fcu.doubtUntil = some d →
      (d.interval ≤ (s.tbu.stationTime - d.setAt).toNat →
        exec .doubtEnd s = .next ({ s with fcu.doubtUntil := none }.permitTest)) ∧
      ((s.tbu.stationTime - d.setAt).toNat < d.interval → exec .doubtEnd s = .next s))

/-- While own claim is HELD(k), CLAIM(k) is queued again each time claim refresh due is reached, in doubt, under peer holdoffs
and after a collision alike, in the place of a refresh still queued; with no claim HELD nothing is queued; and the refresh's
completion tells the Cycle Controller nothing (R60). That the event before its time changes nothing is the model's choice (log
5). -/
def Obligations.ClaimRefreshQueued : Prop :=
  ∀ (s : State) (k : ClaimKind) (d : Deadline), s.live →
    (s.fcu.claim = .held k → s.fcu.claimRefresh = some d → d.interval ≤ (s.tbu.stationTime - d.setAt).toNat →
      ∃ next, exec .claimRefreshDue s = .next
        { s with fcu.claimRefresh := next, fli.notices := placeNotice (.claim k) s.fli.notices }) ∧
    (s.fcu.claim = .held k → s.fcu.claimRefresh = some d → (s.tbu.stationTime - d.setAt).toNat < d.interval →
      exec .claimRefreshDue s = .next s) ∧
    ((∀ j, s.fcu.claim ≠ .held j) → exec .claimRefreshDue s = .next s) ∧
    (s.fcu.claim = .held k → s.fcu.state = .active →
      s.fli.transmitter = some { frame := .notice (.claim k), stale := false, unreported := false } →
      ∃ t, exec .ownFrameCompleted s = .next t ∧ t.cyc = s.cyc ∧ t.fcu.claim = s.fcu.claim) ∧
    (∀ before j after, s.fli.notices = before ++ .claim j :: after → (∀ q ∈ before, q.isClaim = false) →
      (∀ q ∈ after, q.isClaim = false) → placeNotice (.claim k) s.fli.notices = before ++ .claim k :: after) ∧
    ((∀ q ∈ s.fli.notices, q.isClaim = false) → placeNotice (.claim k) s.fli.notices = s.fli.notices ++ [.claim k])

/-- HOLDOFF_QUEUED queues HOLDOFF for a need set for the patience time, with own claim and own holdoff NONE, in ACTIVE,
out of doubt and with no opposing holdoff in the view, and else, with no need too, changes nothing; its frame's completion
makes it SENT with a refresh one interval ahead; HOLDOFF_REFRESH_DUE queues it again (R71, R72). That the attempt of each tick
is this command is the model's choice (log 17), as is no effect before its time (log 5). -/
def Obligations.HoldoffQueuedAndRefreshed : Prop :=
  (∀ s : State, s.live → s.fcu.need = none → exec .holdoffQueued s = .next s) ∧
  ∀ (s : State) (n : Need), s.live → s.fcu.need = some n →
    (s.fcu.claim = .none → s.fcu.holdoff = .none → s.fcu.state = .active → s.fcu.doubtUntil = none →
      (∀ v ∈ s.fcu.view, ∀ m, v.holdoff = some m → m.kind = n.kind) →
      (s.cfg.patience ≤ (s.tbu.stationTime - n.since).toNat →
        exec .holdoffQueued s = .next
          { s with fcu.holdoff := .queued n.kind, fli.notices := placeNotice (.holdoff n.kind) s.fli.notices }) ∧
      ((s.tbu.stationTime - n.since).toNat < s.cfg.patience → exec .holdoffQueued s = .next s)) ∧
    (s.fcu.claim ≠ .none ∨ s.fcu.holdoff ≠ .none ∨ s.fcu.state ≠ .active ∨ s.fcu.doubtUntil ≠ none ∨
        (∃ v ∈ s.fcu.view, ∃ m, v.holdoff = some m ∧ m.kind ≠ n.kind) →
      exec .holdoffQueued s = .next s) ∧
    (s.fcu.claim = .none → s.fcu.holdoff = .queued n.kind → s.fcu.state = .active →
      s.fli.transmitter = some { frame := .notice (.holdoff n.kind), stale := false, unreported := false } →
      exec .ownFrameCompleted s = .next
        { s with
          fli := { s.fli.frameEnded (noticeLine s.fli.rank (.holdoff n.kind)) with transmitter := none }
          fcu.holdoff := .sent n.kind
          fcu.holdoffRefresh := some { setAt := s.tbu.stationTime, interval := s.cfg.refreshInterval } }) ∧
    (∀ d, s.fcu.claim = .none → s.fcu.holdoff = .sent n.kind → s.fcu.holdoffRefresh = some d →
      d.interval ≤ (s.tbu.stationTime - d.setAt).toNat →
      ∃ next, exec .holdoffRefreshDue s = .next
        { s with fcu.holdoffRefresh := next, fli.notices := placeNotice (.holdoff n.kind) s.fli.notices })

/-- VIEW_EXPIRY: every claim and holdoff of the view whose expiry is reached becomes NONE and the others stay. Each lapse is one
EXPIRY event of its kind: a counter of EXPIRY goes up by the entries whose claim lapses where its mask has claim, and by those
whose holdoff lapses where it has holdoff, an entry that loses both counting in both, and saturates; the other counters stay.
With none reached nothing changes, whatever need is set. A waiting need then meets the permit test: the lapse of the claim in
its way lets its CLAIM be queued (R55, R68, R174). That one command sweeps the whole view is the model's choice (log 16). The
counters' values lie within their bound, which every step keeps (StepKeepsBounds). -/
def Obligations.ViewExpiryLapses : Prop :=
  ∀ s : State, s.live →
    let lapsed := fun (m : PeerMark) => m.expiry.interval ≤ (s.tbu.stationTime - m.expiry.setAt).toNat
    let claims := (s.fcu.view.filter fun (v : ViewEntry) => v.claim.any fun m => decide (lapsed m)).length
    let holdoffs := (s.fcu.view.filter fun (v : ViewEntry) => v.holdoff.any fun m => decide (lapsed m)).length
    let counted := fun (c : Counter) =>
      if c.kind = .expiry then
        { c with
          value := min (c.value + (if c.mask.getLsbD 0 then claims else 0) + (if c.mask.getLsbD 1 then holdoffs else 0))
            4294967295 }
      else c
    let swept : State :=
      { s with
        evc := s.evc.map counted
        fcu.view := s.fcu.view.map fun (v : ViewEntry) =>
          { v with
            claim := v.claim.filter fun m => !decide (lapsed m)
            holdoff := v.holdoff.filter fun m => !decide (lapsed m) } }
    ((∀ c ∈ s.evc, c.value ≤ 4294967295) →
      (s.fcu.need = none → exec .viewExpiry s = .next swept) ∧
      ((∃ v ∈ s.fcu.view, ∃ m, (v.claim = some m ∨ v.holdoff = some m) ∧ lapsed m) →
        exec .viewExpiry s = .next swept.permitTest)) ∧
    ((∀ v ∈ s.fcu.view, ∀ m, v.claim = some m ∨ v.holdoff = some m → ¬lapsed m) → exec .viewExpiry s = .next s) ∧
    (∀ v m (n : Need), s.fcu.view = [v] → v.claim = some m → lapsed m → v.holdoff = none → s.fcu.need = some n →
      s.fcu.claim = .none → s.fcu.state = .active → s.fcu.doubtUntil = none →
      exec .viewExpiry s = .next
        ({ s with
            fcu := { s.fcu with view := [{ v with claim := none }], claim := .pending n.kind, block := none }
            fli.notices := placeNotice (.claim n.kind) s.fli.notices }.signal .expiry (qualifierBit 0))) ∧
    (∀ v m, s.fcu.need = none → s.fcu.view = [v] → v.claim = some m → lapsed m → v.holdoff = none →
      exec .viewExpiry s = .next ({ s with fcu.view := [{ v with claim := none }] }.signal .expiry (qualifierBit 0))) ∧
    (∀ v m, s.fcu.need = none → s.fcu.view = [v] → v.holdoff = some m → lapsed m → v.claim = none →
      exec .viewExpiry s = .next ({ s with fcu.view := [{ v with holdoff := none }] }.signal .expiry (qualifierBit 1)))

/-! ### Motion -/

/-- The end of a piece of a motion sequence: the axis stands where the piece sent it, the move deadline is cleared, the pieces
that stand already are passed over, and the first that does not starts its drive with its deadline where the interlock test
passes: a homing, a carriage move, an index the shorter way round, a rapid Z move, or settle, which no test precedes and which
a settle time of 0 ends at that moment. The count of an index must be the slots to be passed; the first carriage axis home
waits for the other (R96 to R102, R104). -/
def Obligations.MotionPiecesComplete : Prop :=
  ∀ (s : State) (p : Piece) (rest : List Piece), s.live → s.mot.sequence = some (p :: rest) → s.mot.stopping = false →
    let ended := fun (c : Instr) (m : Mot) =>
      ∀ (n : Nat) (q : Piece), rest[n]? = some q → (∀ r ∈ rest.take n, m.standsAt r) → ¬m.standsAt q → m.mayIndex q →
        (q ≠ .settle → s.interlockPasses) → (q = .settle → rest.drop (n + 1) = []) →
        let begun : State :=
          { s with
            mot := { m with moveDeadline := none, settleEnd := none }.begun s.cfg s.tbu.stationTime q (rest.drop (n + 1)) }
        ((q = .settle → 0 < s.cfg.settleTime) → exec c s = .next begun) ∧
        (q = .settle → s.cfg.settleTime = 0 → exec c s = exec .settleEnd begun)
    (s.mot.turretActivity = .homing → ended .turretHomeFound { s.mot with turret := some 0, turretActivity := .idle }) ∧
    (∀ target slots positive, s.mot.turretActivity = .indexing target slots positive →
      ended (.indexComplete slots) { s.mot with turret := some target, turretActivity := .idle } ∧
      ∀ edges, edges ≠ slots → exec (.indexComplete edges) s = .next s) ∧
    (s.mot.carriageActivity = .homing false false →
      exec (.carriageAxisHome .x) s
        = .next { s with mot.x := s.cfg.xHome, mot.carriageActivity := .homing true false } ∧
      exec (.carriageAxisHome .y) s
        = .next { s with mot.y := s.cfg.yHome, mot.carriageActivity := .homing false true }) ∧
    (s.mot.carriageActivity = .homing true false →
      ended (.carriageAxisHome .y) { s.mot with y := s.cfg.yHome, carriageHomed := true, carriageActivity := .idle }) ∧
    (s.mot.carriageActivity = .homing false true →
      ended (.carriageAxisHome .x) { s.mot with x := s.cfg.xHome, carriageHomed := true, carriageActivity := .idle }) ∧
    (∀ x y, s.mot.carriageActivity = .moving x y →
      ended .carriageInPosition { s.mot with x := x, y := y, carriageActivity := .idle }) ∧
    (s.mot.zActivity = .homing → ended .zHomeFound { s.mot with z := 500000, zHomed := true, zActivity := .idle }) ∧
    (∀ z, s.mot.zActivity = .rapid z → ended .zInPosition { s.mot with z := z, zActivity := .idle })

/-- A reached move deadline and a refused start fault the station with the cause of the piece, HOME_FAILED for a homing,
MOTION_TIMEOUT for an index, a carriage move, a rapid Z move or a fine step, INTERLOCK for the refusal, and abandon the item in
its phase with its SITE_DONE: in TO_SITE its entry is created ABORTED_BEFORE_CONTACT; in TO_VIEW and IMAGE the entry of a first
measurement becomes ABORTED with MEASURE_ABORTED alone, and that of a REMEASURE stays. The claim is released, and the axis that
timed out is UNKNOWN or unhomed and is being stopped; a refused start drives nothing. A fine step's timeout frees the FILLING
slot and turns the lamp off, and the Image Unit is ENDING until the axis rests. Before the deadline nothing happens (R10, R15,
R16, R50, R97 to R103, R105, R106, R148). That a fault releases the held claim at once (log 19), that the Image Unit keeps what
R148 does not name (log 29), and no effect before its time (log 5) are the model's choices. -/
def Obligations.MotionFaultsStation : Prop :=
  ∀ (s : State) (c : Current), s.live → s.hasMessageRoom 1 → s.cyc.mode = .running → s.cyc.current = some c →
    c.step = .working → s.fcu.need = none → s.fcu.holdoff = .none → s.fcu.block = none →
    s.frc.state = .retracted → s.mot.stopping = false →
    let faulted := fun (written : State) (cause : FaultCause) (m : Mot) =>
      { written with
        fli := written.fli.released (if c.phase = .image then .quiet else .motion)
        cyc :=
          { s.cyc with
            mode := .faulted, fault := cause, batch := none, current := none, gatheredIndent := .none
            gatheredMeasure := .none, contactMark := none, bufferFull := false, cue := .none }
        fcu.claim := .none
        fcu.claimRefresh := none
        fcu.collided := []
        mot := { m with sequence := none, settleEnd := none, moveDeadline := none } : State }
    let late := ∃ d, s.mot.moveDeadline = some d ∧ d.interval ≤ (s.tbu.stationTime - d.setAt).toNat
    let onSequence := fun (written : State) =>
      let timesOut := fun (cause : FaultCause) (m : Mot) =>
        exec .moveDeadline s = .next (faulted written cause { m with stopping := true })
      (late → s.mot.carriageActivity = .idle → s.mot.zActivity = .idle →
        (s.mot.turretActivity = .homing → timesOut .homeFailed { s.mot with turret := none }) ∧
        (∀ target slots positive, s.mot.turretActivity = .indexing target slots positive →
          timesOut .motionTimeout { s.mot with turret := none })) ∧
      (late → s.mot.turretActivity = .idle → s.mot.zActivity = .idle →
        (∀ xHome yHome, s.mot.carriageActivity = .homing xHome yHome →
          timesOut .homeFailed { s.mot with carriageHomed := false }) ∧
        (∀ x y, s.mot.carriageActivity = .moving x y → timesOut .motionTimeout { s.mot with carriageHomed := false })) ∧
      (late → s.mot.turretActivity = .idle → s.mot.carriageActivity = .idle →
        (s.mot.zActivity = .homing → timesOut .homeFailed { s.mot with zHomed := false }) ∧
        (∀ z, s.mot.zActivity = .rapid z → timesOut .motionTimeout { s.mot with zHomed := false })) ∧
      (∀ p z rest r, s.mot.sequence = some (p :: .rapidTo z :: rest) → s.mot.z ≠ z → s.mot.turretActivity = .homing →
        s.mot.carriageActivity = .idle → s.mot.zActivity = .idle →
        s.frc.rawPrimary = some r → r < s.cfg.freeMin ∨ s.cfg.freeMax < r →
        exec .turretHomeFound s
          = .next (faulted written .interlock { s.mot with turret := some 0, turretActivity := .idle }))
    (∀ i, c.phase = .toSite → c.work = .indent i → s.fcu.claim = .held .motion → s.img.state = .idle →
      let e := i.fields.abandoned .none s.tbu.stationTime
      onSequence (({ s.answered (.siteDone e .abortedBeforeContact .none) with
          sst.map := s.sst.map ++ [e] }.signal .outcome (qualifierBit 2)).signal .flag e.flagMask)) ∧
    (∀ e, s.sst.entry? c.work.site = some e →
      let written : State :=
        match c.work with
        | .remeasure _ => s.answered (.siteDone e .aborted measureAbortedAlone)
        | _ =>
          ({ s.answered (.siteDone e.unmeasured .aborted measureAbortedAlone) with
              sst.map := s.mapWith c.work.site Entry.unmeasured }.signal .outcome (qualifierBit 7)).signal
            .flag e.unmeasured.flagMask
      (c.phase = .toView → s.fcu.claim = .held .motion → s.img.state = .idle → onSequence written) ∧
      ∀ name site z, c.phase = .image → s.fcu.claim = .held .quiet → s.img.state = .step → s.img.reserved = some name →
        s.mea.get name = .filling site → s.mot.zActivity = .fine z → s.mot.turretActivity = .idle →
        s.mot.carriageActivity = .idle → late →
        exec .moveDeadline s = .next
          { faulted written .motionTimeout { s.mot with zHomed := false, stopping := true } with
            mea := s.mea.set name .free
            img :=
              { s.img with
                state := .ending, stage := .none, reserved := none, settleEnd := none, frameWaitEnd := none
                illumination := 0 } }) ∧
    (∀ d, s.mot.moveDeadline = some d → (s.tbu.stationTime - d.setAt).toNat < d.interval →
      exec .moveDeadline s = .next s)

/-- Settle end reached ends the sequence and releases MOTION. After TO_SITE, INDENT begins with an empty indent set: its QUIET
claim is queued behind the RELEASE where the measure list has room, none in PER_SITE and fewer than the limit in BATCH, and
nothing opposes it; without room it waits with cue ROOM and no need. After TO_VIEW, IMAGE begins with an empty measure set: its
QUIET claim is queued so where a slot is FREE; with none a buffer-full episode opens and is counted, with no need. A fine step
ends at its target and the focus settle begins, or the capture at once for a settle of 0. At rest every activity is IDLE: a
turret that was homing or indexing is UNKNOWN, a homing cut short leaves its axis unhomed, and an axis that was under way has
its counted position. An item in ENDING of TO_SITE, TO_VIEW or IMAGE ends at that rest: its claim is released, it is no longer
current, and RUNNING chooses again (cue PLAN with nothing left, the first undelivered entry in TO_VIEW) or PAUSING goes on; one of
INDENT waits for its RETRACTED. A phase that waited for the rest has its need set and its CLAIM queued where nothing forbids it
(R34, R35, R37, R38, R41, R42, R44, R46, R48, R55, R61, R98 to R105, R141, R145, R148). That the counted positions come with
AXES_STOPPED (log 30), no effect before its time or where nothing is being stopped (log 5), and that cue PLAN or RESULT returns to
NONE at a choice (log 53), are the model's choices. -/
def Obligations.SettleStepAndRest : Prop :=
  ∀ s : State, s.live →
    (∀ (c : Current) (d : Deadline), s.mot.settleEnd = some d → d.interval ≤ (s.tbu.stationTime - d.setAt).toNat →
      s.cyc.current = some c → c.step = .working → s.fcu.claim = .held .motion → s.fcu.need = none →
      let done := fun (p : Phase) =>
        { s with
          mot := { s.mot with settleEnd := none, sequence := none }
          cyc.current := some { work := c.work, phase := p, step := .waiting }
          fcu := { s.fcu with claim := .none, claimRefresh := none, collided := [] }
          fli := s.fli.released .motion : State }
      let claims := fun (u : State) =>
        { u with
          fcu :=
            { u.fcu with
              claim := .pending .quiet, block := none, need := some { kind := .quiet, since := s.tbu.stationTime } }
          fli.notices := placeNotice (.claim .quiet) u.fli.notices : State }
      let unopposed := s.fcu.state = .active ∧ s.fcu.doubtUntil = none ∧ (∀ v ∈ s.fcu.view, v.claim = none ∧ v.holdoff = none) ∧
        s.frc.state = .retracted ∧ s.mot.stopping = false ∧ s.img.state = .idle
      let room := (s.cyc.workMode = .perSite → s.sst.measureList = []) ∧
        (s.cyc.workMode = .batch → s.sst.measureList.length < s.cyc.batchLimit)
      (∀ i, c.work = .indent i → c.phase = .toSite →
        let u : State := { done .indent with cyc.gatheredIndent := .none }
        (room → unopposed → exec .settleEnd s = .next (claims u)) ∧
        (¬room → exec .settleEnd s = .next { u with cyc.cue := .room })) ∧
      (c.phase = .toView →
        let u : State := { done .image with cyc.gatheredMeasure := .none }
        (s.mea.slotA = .free ∨ s.mea.slotB = .free → unopposed → exec .settleEnd s = .next (claims u)) ∧
        (s.mea.slotA ≠ .free → s.mea.slotB ≠ .free →
          exec .settleEnd s = .next ({ u with cyc.bufferFull := true }.signal .deferral (qualifierBit 2))))) ∧
    (∀ d, s.mot.settleEnd = some d → (s.tbu.stationTime - d.setAt).toNat < d.interval → exec .settleEnd s = .next s) ∧
    (∀ z slot o, s.mot.zActivity = .fine z → s.mot.stopping = false → s.img.state = .step →
      s.img.objective = some slot → s.cfg.slot slot = .objective o →
      exec .fineStepComplete s = .next
        (if o.focusSettle = 0 then
          { s with
            mot := { s.mot with z := z, zActivity := .idle, moveDeadline := none }
            img :=
              { s.img with
                state := .capture, reachedZ := z, ph := [], pv := [], settleEnd := none
                frameWaitEnd := some { setAt := s.tbu.stationTime, interval := 250 } } }
        else
          { s with
            mot := { s.mot with z := z, zActivity := .idle, moveDeadline := none }
            img :=
              { s.img with
                state := .settle, reachedZ := z
                settleEnd := some { setAt := s.tbu.stationTime, interval := o.focusSettle } } })) ∧
    (∀ (x y : Int) (z : Nat), s.mot.stopping = true →
      let answers := fun t => exec (.axesStopped x y z) s = .next t
      let room := s.cyc.cue = .none ∧ (s.cyc.workMode = .perSite → s.sst.measureList = []) ∧
        (s.cyc.workMode = .batch → s.sst.measureList.length < s.cyc.batchLimit)
      let resting := s.frc.state = .retracted ∧ (s.img.state = .idle ∨ s.img.state = .ending)
      let unopposed := fun (k : ClaimKind) => s.fcu.state = .active ∧ s.fcu.doubtUntil = none ∧
        ∀ v ∈ s.fcu.view, (∀ m, v.claim = some m → m.kind = k) ∧ ∀ m, v.holdoff = some m → m.kind = k
      let claims := fun (u : State) (k : ClaimKind) =>
        { u with
          fcu :=
            { u.fcu with claim := .pending k, block := none, need := some { kind := k, since := s.tbu.stationTime } }
          fli.notices := placeNotice (.claim k) u.fli.notices : State }
      let rested := fun (m : Mot) =>
        let u : State :=
          { s with
            mot := { m with stopping := false }
            img.state := if s.img.state = .ending then .idle else s.img.state }
        (s.cyc.current = none → answers u) ∧
        (∀ c, s.cyc.current = some c →
          (c.step = .working ∨ (c.step = .ending ∧ c.phase = .indent) → answers u) ∧
          (c.step = .waiting → s.fcu.need = none →
            (¬resting → answers u) ∧
            (∀ k, resting → unopposed k → s.fcu.claim = .none →
              (k = .motion ∧ (c.phase = .toSite ∨ c.phase = .toView)) ∨ (k = .quiet ∧ c.phase = .indent ∧ room) ∨
                (k = .quiet ∧ c.phase = .image ∧ (s.mea.slotA = .free ∨ s.mea.slotB = .free)) →
              answers (claims u k))) ∧
          (∀ k, c.step = .ending → c.phase ≠ .indent → s.fcu.claim = .held k → s.fcu.need = none →
            let ended : State :=
              { u with
                fcu := { s.fcu with claim := .none, claimRefresh := none, collided := [] }
                fli := s.fli.released k
                cyc :=
                  { s.cyc with
                    current := none, gatheredIndent := .none, gatheredMeasure := .none, contactMark := none
                    bufferFull := false, cue := if s.cyc.cue = .room then .none else s.cyc.cue } }
            let delivered := ∀ e ∈ s.sst.map, e.outcome = .awaitingMeasure → e.fields.site ∈ s.cyc.delivered
            (s.cyc.mode = .running → answers ended.choose) ∧
            (s.cyc.mode = .running → s.cyc.batch = none → s.sst.queue = [] → delivered →
              answers { ended with cyc.cue := .plan }) ∧
            (s.cyc.mode = .pausing → s.frc.state = .retracted → delivered → answers { ended with cyc.mode := .paused }) ∧
            (s.cyc.mode = .pausing → s.frc.state ≠ .retracted → delivered → answers ended) ∧
            (∀ first, s.sst.measureList.find? (fun id => !s.cyc.delivered.contains id) = some first →
              s.cyc.mode = .pausing ∨ (s.cyc.mode = .running ∧ s.cyc.batch = none) → resting → unopposed .motion →
              answers (claims
                { ended with
                  cyc :=
                    { ended.cyc with
                      cue := if s.cyc.mode = .running then .none else ended.cyc.cue
                      current := some { work := .listed first, phase := .toView, step := .waiting } } }
                .motion))))
      (s.mot.carriageActivity = .idle → s.mot.zActivity = .idle →
        (s.mot.turretActivity = .homing → rested { s.mot with turret := none, turretActivity := .idle }) ∧
        (∀ target slots positive, s.mot.turretActivity = .indexing target slots positive →
          rested { s.mot with turret := none, turretActivity := .idle })) ∧
      (s.mot.turretActivity = .idle → s.mot.zActivity = .idle →
        (∀ xHome yHome, s.mot.carriageActivity = .homing xHome yHome →
          rested
            { s.mot with
              x := if xHome then s.mot.x else x, y := if yHome then s.mot.y else y, carriageHomed := false
              carriageActivity := .idle }) ∧
        (∀ x' y', s.mot.carriageActivity = .moving x' y' →
          rested
            { s.mot with
              x := if x' = s.mot.x then s.mot.x else x, y := if y' = s.mot.y then s.mot.y else y
              carriageActivity := .idle })) ∧
      (s.mot.turretActivity = .idle → s.mot.carriageActivity = .idle →
        (s.mot.zActivity = .homing → rested { s.mot with z := z, zHomed := false, zActivity := .idle }) ∧
        (∀ target, s.mot.zActivity = .rapid target ∨ s.mot.zActivity = .fine target →
          rested { s.mot with z := z, zActivity := .idle }))) ∧
    (s.mot.stopping = false → ∀ x y z, exec (.axesStopped x y z) s = .next s)

/-! ### Force -/

/-- Each tare pair adds its two raw samples to the sums and is counted; the 64th forms both zeros and turns the test current on.
So with each of the first 32 pairs of the open-wire test: the 32nd turns the current off and goes on where both shifts lie in
their window; where one does not, the unit is in RETRACT, the station faults with SENSOR_OPEN and the item is written
ABORTED_BEFORE_CONTACT with its SITE_DONE, for which the message queue has room, one already ENDING not again; the next seven
pairs are counted alone, and the 40th enters APPROACH. The readings are formed under the tare held after the pair (R10, R39,
R110, R113, R114, R50). That a fault releases the held claim at once (log 19) and leaves no current item while the unit withdraws
(log 48), the tare held at the 64th pair (log 27), and that TARE_DONE, WIRE_TEST_DONE and WIRE_TEST_RECOVERED are the sample pair
they name (log 7) and change nothing at another pair (log 5), are the model's choices. -/
def Obligations.ForceCycleBegins : Prop :=
  ∀ (s : State) (p q : RawSample), s.live →
    let reading := fun (raw zero : Int) (gain : Nat) =>
      max (-200000) (min 200000 (((raw - zero) * (gain : Int) + 32768) / 65536))
    let taken : Frc := { s.frc with rawPrimary := some p.toInt, rawCheck := some q.toInt }
    let underway : Frc :=
      { taken with
        pairs := s.frc.pairs + 1
        primary := s.frc.tare.map fun z => reading p.toInt z.1 s.cfg.primaryGain
        check := s.frc.tare.map fun z => reading q.toInt z.2 s.cfg.checkGain }
    let summed : Frc :=
      { underway with sumPrimary := s.frc.sumPrimary + p.toInt, sumCheck := s.frc.sumCheck + q.toInt }
    (s.frc.state = .tare → s.frc.pairs ≠ 63 → exec (.samplePair p q) s = .next { s with frc := summed }) ∧
    (s.frc.state = .wireTest → s.frc.pairs < 31 → exec (.samplePair p q) s = .next { s with frc := summed }) ∧
    (s.frc.state = .wireTest → 31 < s.frc.pairs → s.frc.pairs < 39 →
      exec (.samplePair p q) s = .next { s with frc := underway }) ∧
    (exec (.tareDone p q) s = if s.frc.state = .tare ∧ s.frc.pairs = 63 then exec (.samplePair p q) s else .next s) ∧
    (exec (.wireTestDone p q) s =
      if s.frc.state = .wireTest ∧ s.frc.pairs = 31 then exec (.samplePair p q) s else .next s) ∧
    (exec (.wireTestRecovered p q) s =
      if s.frc.state = .wireTest ∧ s.frc.pairs = 39 then exec (.samplePair p q) s else .next s) ∧
    (s.frc.state = .tare → s.frc.pairs = 63 →
      let zp := (s.frc.sumPrimary + p.toInt + 32) / 64
      let zq := (s.frc.sumCheck + q.toInt + 32) / 64
      exec (.tareDone p q) s = .next
        { s with
          frc :=
            { taken with
              state := .wireTest, tare := some (zp, zq), pairs := 0, sumPrimary := 0, sumCheck := 0
              testCurrent := true, primary := some (reading p.toInt zp s.cfg.primaryGain)
              check := some (reading q.toInt zq s.cfg.checkGain) } }) ∧
    (∀ zp zq : Int, s.frc.state = .wireTest → s.frc.tare = some (zp, zq) →
      let read : Frc :=
        { taken with
          primary := some (reading p.toInt zp s.cfg.primaryGain)
          check := some (reading q.toInt zq s.cfg.checkGain) }
      let sp := s.frc.sumPrimary + p.toInt
      let sq := s.frc.sumCheck + q.toInt
      let inWindow := fun (sum zero : Int) => s.cfg.owMin ≤ (sum + 16) / 32 - zero ∧ (sum + 16) / 32 - zero ≤ s.cfg.owMax
      (s.frc.pairs = 31 → inWindow sp zp → inWindow sq zq →
        exec (.wireTestDone p q) s = .next
          { s with frc := { read with pairs := 32, sumPrimary := sp, sumCheck := sq, testCurrent := false } }) ∧
      (s.frc.pairs = 31 → ¬(inWindow sp zp ∧ inWindow sq zq) → s.cyc.mode ≠ .faulted →
        ∃ t, exec (.wireTestDone p q) s = .next t ∧
          t.cyc.mode = .faulted ∧ t.cyc.fault = .sensorOpen ∧ t.cyc.current = none ∧
          t.frc.state = .retract ∧ t.frc.testCurrent = false ∧ t.frc.setPoint = 0 ∧ t.frc.tare = s.frc.tare ∧
          t.frc.deadline = some { setAt := s.tbu.stationTime, interval := 2000 } ∧
          (s.fcu.claim = .held .quiet → t.fcu.claim = .none) ∧
          t.sst.queue = s.sst.queue ∧ t.tbu = s.tbu ∧ t.cfg = s.cfg ∧
          (∀ i, s.cyc.current = some { work := .indent i, phase := .indent, step := .working } →
            s.cyc.contactMark = none → s.hasMessageRoom 1 →
            let e : Entry :=
              { fields := i.fields, made := false, outcome := .abortedBeforeContact, indentFlags := s.cyc.gatheredIndent
                measureFlags := .none, d1 := none, d2 := none, hardness := none, meanForce := none
                indentTime := s.tbu.stationTime, count := 0 }
            t.sst.map = s.sst.map ++ [e] ∧
            t.fli.messages = s.fli.messages ++
              [{ message := .siteDone e .abortedBeforeContact .none, restart := false }]) ∧
          (∀ w, s.cyc.current = some { work := w, phase := .indent, step := .ending } →
            t.sst.map = s.sst.map ∧ t.fli.messages = s.fli.messages)) ∧
      (s.frc.pairs = 39 →
        exec (.wireTestRecovered p q) s = .next { s with frc := { read with state := .approach, pairs := 0 } }))

/-- A sample pair of a force cycle. In APPROACH, at or above the contact threshold it enters LOAD and creates the entry, and an
overload at that pair ends the item in LOAD; below it the stroke advances, and at its end the item is written NO_CONTACT and
the unit retracts. Load pair t sets Fc + floor((F - Fc) t / T), and pair T reaches F and enters HOLD. In HOLD each pair is
accumulated and cross-checked, and the third disagreement in a row is reported once; a reading below the contact threshold is a
lost contact that ends the hold unaccumulated; the pair that completes the dwell enters UNLOAD; each end of a hold hands over
its results, FORCE_TOL and DWELL_UNTRACEABLE among them. UNLOAD lowers the set-point and ends at 0 with a low reading;
FAST_UNLOAD withdraws the stroke and ends so too. A reading above the overload threshold goes to FAST_UNLOAD, in HOLD with the
hold's results, and the item is written by whether contact was reached, its SITE_DONE finding room in the message queue. In
LOAD, HOLD and UNLOAD the force loop moves the stroke one step toward the set-point after the tests, within the stroke (R112,
R115 to R123, R134). At which pairs the force loop moves is read from R112 by inference (log 25), as is the order of the stroke
and the test in FAST_UNLOAD (log 26). That LOAD_RAMP_END and DWELL_END are the sample pair they name is the model's reading
(log 7). -/
def Obligations.ContactRampAndDwell : Prop :=
  ∀ (s : State) (p q : RawSample) (k : ForceCycle) (zp zq : Int), s.live → s.frc.cycle = some k →
    s.frc.tare = some (zp, zq) →
    let reading := fun (raw zero : Int) (gain : Nat) =>
      max (-200000) (min 200000 (((raw - zero) * (gain : Int) + 32768) / 65536))
    let a := reading p.toInt zp s.cfg.primaryGain
    let b := reading q.toInt zq s.cfg.checkGain
    let read : Frc :=
      { s.frc with rawPrimary := some p.toInt, rawCheck := some q.toInt, primary := some a, check := some b }
    let ahead := fun (interval : Nat) => some { setAt := s.tbu.stationTime, interval := interval : Deadline }
    let moved := fun (target : Nat) =>
      if a < target then s.frc.stroke.map fun z => min (z + s.cfg.forceLoopStep) (s.cfg.strokeLength * 1000)
      else if (target : Int) < a then s.frc.stroke.map fun z => z - s.cfg.forceLoopStep
      else s.frc.stroke
    let retract := fun (f : Frc) (z : Nat) =>
      { f with
        state := .retract, setPoint := 0, pairs := 0, testCurrent := false, stroke := some z, deadline := ahead 2000
        drive := if z = 0 then .freeTest else .running }
    let fast : Frc :=
      { read with state := .fastUnload, setPoint := 0, pairs := 0, disagreement := 0, deadline := ahead 2000 }
    let overloaded := (k.overloadAt : Int) < a ∨ (k.overloadAt : Int) < b
    let mean := fun (sum : Int) (n : Nat) => if n = 0 then none else some ((sum + (n / 2 : Nat)) / (n : Int)).toNat
    let outside := fun (m : Option Nat) =>
      m.any fun v => decide (s.cfg.tolerancePermille * k.force < ((v : Int) - k.force).natAbs * 1000)
    let counted := fun (h : HoldSource) => { h with marks := s.tbu.tickMark :: h.marks }
    let untraceable := fun (h : HoldSource) => (s.tbu.tickMark :: h.marks).contains .internal || h.opening == .internal
    (s.frc.state = .load → s.frc.pairs + 1 = k.loadTime → exec (.loadRampEnd p q) s = exec (.samplePair p q) s) ∧
    (s.frc.state = .hold → s.frc.holdTicks + 1 = k.dwell → exec (.dwellEnd p q) s = exec (.samplePair p q) s) ∧
    (∀ z, s.frc.state = .fastUnload → s.frc.stroke = some z →
      exec (.samplePair p q) s = .next
        { s with frc := if 2 * a < k.contactAt then retract read (z - 2000) else { read with stroke := some (z - 2000) } }) ∧
    ∀ i, s.cyc.current = some { work := .indent i, phase := .indent, step := .working } →
      let g := s.cyc.gatheredIndent
      let unmade := fun (o : SiteOutcome) (flags : IndentFlags) =>
        { fields := i.fields, made := false, outcome := o, indentFlags := flags, measureFlags := .none, d1 := none
          d2 := none, hardness := none, meanForce := none, indentTime := s.tbu.stationTime, count := 0 : Entry }
      let ended := fun (frc : Frc) (e : Entry) (map : List Entry) (flags : IndentFlags) (mark : Option TickSource) =>
        exec (.samplePair p q) s = .next
          (({ s.answered (.siteDone e e.outcome e.measureFlags) with
              frc := frc
              sst.map := map
              cyc.current := some { work := .indent i, phase := .indent, step := .ending }
              cyc.contactMark := mark
              cyc.gatheredIndent := flags }.signal .outcome (qualifierBit e.outcome.code)).signal .flag e.flagMask)
      let made : Entry :=
        { fields := i.fields, made := true, outcome := .awaitingMeasure, indentFlags := g, measureFlags := .none
          d1 := none, d2 := none, hardness := none, meanForce := none, indentTime := s.tbu.stationTime, count := 0 }
      let abandoned := fun (flags : IndentFlags) (mark : TickSource) (d : Entry) =>
        { d with
          outcome := .aborted
          meanForce := mean s.frc.holdSum s.frc.holdSamples
          indentFlags := d.indentFlags.union
            { flags with
              dwellUntraceable := flags.dwellUntraceable || (s.frc.holdSource.isNone && mark == .internal)
              indentAborted := true } }
      let rewritten := fun (f : Entry → Entry) =>
        s.sst.map.map fun d => if d.fields.site = i.fields.site then f d else d
      (s.frc.state = .approach → ¬overloaded → (k.contactAt : Int) ≤ a →
        exec (.samplePair p q) s = .next
          { s with
            frc := { read with state := .load, contact := true, setPoint := k.contactAt, pairs := 0 }
            sst.map := s.sst.map ++ [made]
            cyc.contactMark := some s.tbu.tickMark }) ∧
      (s.frc.state = .approach → overloaded → (k.contactAt : Int) ≤ a → s.hasMessageRoom 1 →
        (∀ d ∈ s.sst.map, d.fields.site ≠ i.fields.site) →
        let e := abandoned { g with overload := true } s.tbu.tickMark made
        ended { fast with contact := true } e (s.sst.map ++ [e]) { g with overload := true } (some s.tbu.tickMark)) ∧
      (∀ z, s.frc.state = .approach → ¬overloaded → a < k.contactAt → s.frc.stroke = some z →
        (z ≠ s.cfg.strokeLength * 1000 →
          exec (.samplePair p q) s = .next
            { s with frc := { read with stroke := some (min (z + s.cfg.approachSpeed) (s.cfg.strokeLength * 1000)) } }) ∧
        (z = s.cfg.strokeLength * 1000 → s.hasMessageRoom 1 →
          ended (retract read z) (unmade .noContact g) (s.sst.map ++ [unmade .noContact g]) g s.cyc.contactMark)) ∧
      (s.frc.state = .approach → overloaded → a < k.contactAt → s.cyc.contactMark = none → s.hasMessageRoom 1 →
        let e := unmade .abortedBeforeContact { g with overload := true }
        ended fast e (s.sst.map ++ [e]) { g with overload := true } none) ∧
      (∀ mark e, s.frc.state = .load ∨ s.frc.state = .unload → overloaded → s.cyc.contactMark = some mark →
        s.sst.entry? i.fields.site = some e → s.hasMessageRoom 1 →
        let written := abandoned { g with overload := true } mark
        ended fast (written e) (rewritten written) { g with overload := true } (some mark)) ∧
      (∀ mark e h, s.frc.state = .hold → overloaded → s.cyc.contactMark = some mark →
        s.sst.entry? i.fields.site = some e → s.frc.holdSource = some h → s.hasMessageRoom 1 →
        let flags : IndentFlags :=
          { g with
            overload := true, forceTol := g.forceTol || outside (mean s.frc.holdSum s.frc.holdSamples)
            dwellUntraceable := g.dwellUntraceable || untraceable h }
        let written := abandoned flags mark
        ended { fast with holdTicks := s.frc.holdTicks + 1, holdSource := some (counted h) } (written e)
          (rewritten written) flags (some mark)) ∧
      (s.frc.state = .load → ¬overloaded → s.frc.pairs + 1 ≠ k.loadTime → k.contactAt ≤ k.force →
        let target := k.contactAt + (k.force - k.contactAt) * (s.frc.pairs + 1) / k.loadTime
        exec (.samplePair p q) s = .next
          { s with frc := { read with pairs := s.frc.pairs + 1, setPoint := target, stroke := moved target } }) ∧
      (s.frc.state = .load → ¬overloaded → s.frc.pairs + 1 = k.loadTime → k.contactAt ≤ k.force →
        exec (.loadRampEnd p q) s = .next
          { s with
            frc :=
              { read with
                state := .hold, setPoint := k.force, pairs := 0, stroke := moved k.force
                holdSource := some { opening := s.tbu.tickMark, marks := [] } } }) ∧
      (∀ h : HoldSource, s.frc.state = .hold → ¬overloaded → (k.contactAt : Int) ≤ a → s.frc.holdSource = some h →
        s.frc.holdTicks + 1 ≠ k.dwell →
        let apart := k.crossLimit < (a - b).natAbs
        exec (.samplePair p q) s = .next
          { s with
            frc :=
              { read with
                stroke := moved s.frc.setPoint, holdTicks := s.frc.holdTicks + 1, holdSum := s.frc.holdSum + a
                holdSamples := s.frc.holdSamples + 1
                holdSource := some (counted h)
                disagreement :=
                  if apart then min (s.frc.disagreement + 1) 3 else if s.frc.disagreement = 3 then 3 else 0 }
            cyc.gatheredIndent.forceDisagree := g.forceDisagree || (decide apart && s.frc.disagreement == 2) }) ∧
      (∀ h : HoldSource, s.frc.state = .hold → ¬overloaded → a < k.contactAt → s.frc.holdSource = some h →
        exec (.samplePair p q) s = .next
          { s with
            frc :=
              { read with
                state := .unload, setPoint := k.force, pairs := 0, disagreement := 0, stroke := moved k.force
                holdTicks := s.frc.holdTicks + 1, holdSource := some (counted h)
                deadline := ahead (s.cfg.unloadTime + 2000) }
            cyc.gatheredIndent :=
              { g with
                lostContact := true, forceTol := g.forceTol || outside (mean s.frc.holdSum s.frc.holdSamples)
                dwellUntraceable := g.dwellUntraceable || untraceable h } }) ∧
      (∀ h : HoldSource, s.frc.state = .hold → ¬overloaded → (k.contactAt : Int) ≤ a → s.frc.holdSource = some h →
        s.frc.holdTicks + 1 = k.dwell →
        let apart := k.crossLimit < (a - b).natAbs
        exec (.samplePair p q) s = .next
          { s with
            frc :=
              { read with
                state := .unload, setPoint := k.force, pairs := 0, disagreement := 0, stroke := moved k.force
                holdTicks := k.dwell, holdSum := s.frc.holdSum + a, holdSamples := s.frc.holdSamples + 1
                holdSource := some (counted h), deadline := ahead (s.cfg.unloadTime + 2000) }
            cyc.gatheredIndent :=
              { g with
                forceDisagree := g.forceDisagree || (decide apart && s.frc.disagreement == 2)
                forceTol := g.forceTol || outside (mean (s.frc.holdSum + a) (s.frc.holdSamples + 1))
                dwellUntraceable := g.dwellUntraceable || untraceable h } }) ∧
      (∀ z, s.frc.state = .unload → ¬overloaded → s.frc.stroke = some z →
        let u := s.frc.pairs + 1
        let target := k.force - k.force * min u s.cfg.unloadTime / s.cfg.unloadTime
        exec (.samplePair p q) s = .next
          { s with
            frc :=
              if target = 0 ∧ 2 * a < k.contactAt then retract read z
              else { read with pairs := u, setPoint := target, stroke := moved target } })

/-- Withdrawals: a reached deadline sends UNLOAD to FAST_UNLOAD and FAST_UNLOAD to RETRACT, stops the drive of RETRACT, and
faults the station, keeping the first cause where it is FAULTED already; the item is written ABORTED with INDENT_ABORTED after
contact and ABORTED_BEFORE_CONTACT before it, where its SITE_DONE finds room, and one already ENDING not again. RETRACT runs
home at the retract speed, or drives 1,000 pairs from an unknown position, each counted, and the free test begins at home; each
free pair is counted, one with a sample outside the window sets the run back to 0, and the 8th in a row is RETRACTED; with the
drive STOPPED a pair is recorded and moves nothing. RETRACTED ends a waiting START; it sets the need of a WAITING motion phase; it ends an item in ENDING, after which
PAUSING is PAUSED and RUNNING takes the next item or waits; it completes the entry of an INDENT item in hand, releases QUIET
and goes on to TO_VIEW, or in a batch closes it by one of R36's four conditions and begins the measurement run, or takes the
next item (R10, R12, R30, R35 to R37, R39, R46, R48, R50, R55, R61, R122 to R124). That a fault releases the held claim at once
(log 19) and leaves no current item while the unit withdraws (log 48), that no deadline is left after RETRACT_TIMEOUT (log 47),
that a cue PLAN or RESULT stays through PAUSE and returns to NONE at the choice that takes an item up (log 53), that
HOME_DRIVE_DONE and FREE_TEST_PASS are the sample pair they name (log 7) and change nothing at another pair, and no effect before
its time (log 5), are the model's choices. -/
def Obligations.WithdrawalsEnd : Prop :=
  ∀ (s : State) (d : Deadline), s.live →
    (s.frc.deadline = some d → d.interval ≤ (s.tbu.stationTime - d.setAt).toNat →
      let ahead : Deadline := { setAt := s.tbu.stationTime, interval := 2000 }
      let fast : Frc :=
        { s.frc with state := .fastUnload, setPoint := 0, pairs := 0, disagreement := 0, deadline := some ahead }
      let retract : Frc :=
        { s.frc with
          state := .retract, setPoint := 0, pairs := 0, testCurrent := false, deadline := some ahead
          drive := match s.frc.stroke with | none => .homeDrive | some z => if z = 0 then .freeTest else .running }
      let stopped : Frc := { s.frc with drive := .stopped, deadline := none }
      let faulted := fun (c : Instr) (cause : FaultCause) (frc : Frc) =>
        (s.cyc.mode = .faulted → exec c s = .next { s with frc := frc }) ∧
        (s.cyc.mode ≠ .faulted → ∃ t, exec c s = .next t ∧ t.cyc.mode = .faulted ∧ t.cyc.fault = cause ∧
          t.cyc.current = none ∧ t.frc = frc ∧ t.sst.queue = s.sst.queue ∧ t.tbu = s.tbu ∧ t.cfg = s.cfg ∧
          (∀ k, s.fcu.claim = .held k → t.fcu.claim = .none) ∧
          (∀ w, s.cyc.current = some { work := w, phase := .indent, step := .ending } →
            t.sst.map = s.sst.map ∧ t.fli.messages = s.fli.messages) ∧
          ∀ i, s.cyc.current = some { work := .indent i, phase := .indent, step := .working } → s.hasMessageRoom 1 →
            let g := s.cyc.gatheredIndent
            let written := fun (e : Entry) (map : List Entry) =>
              t.sst.map = map ∧
              t.fli.messages = s.fli.messages ++
                [{ message := .siteDone e e.outcome e.measureFlags, restart := false }]
            (s.cyc.contactMark = none →
              let e : Entry :=
                { fields := i.fields, made := false, outcome := .abortedBeforeContact, indentFlags := g
                  measureFlags := .none, d1 := none, d2 := none, hardness := none, meanForce := none
                  indentTime := s.tbu.stationTime, count := 0 }
              written e (s.sst.map ++ [e])) ∧
            (∀ mark e, s.cyc.contactMark = some mark → s.sst.entry? i.fields.site = some e →
              let abandoned : Entry → Entry := fun d =>
                { d with
                  outcome := .aborted
                  meanForce := s.frc.holdMean
                  indentFlags := d.indentFlags.union
                    { g with
                      dwellUntraceable := g.dwellUntraceable || (s.frc.holdSource.isNone && mark == .internal)
                      indentAborted := true } }
              written (abandoned e)
                (s.sst.map.map fun d => if d.fields.site = i.fields.site then abandoned d else d)))
      (s.frc.state = .unload → faulted .unloadTimeout .unloadTimeout fast) ∧
      (s.frc.state = .fastUnload → faulted .fastUnloadTimeout .unloadTimeout retract) ∧
      (s.frc.state = .retract → faulted .retractTimeout .retractTimeout stopped)) ∧
    (s.frc.deadline = some d → (s.tbu.stationTime - d.setAt).toNat < d.interval →
      exec .unloadTimeout s = .next s ∧ exec .fastUnloadTimeout s = .next s ∧ exec .retractTimeout s = .next s) ∧
    (∀ p q : RawSample, s.frc.state = .retract →
      let reading := fun (raw zero : Int) (gain : Nat) =>
        max (-200000) (min 200000 (((raw - zero) * (gain : Int) + 32768) / 65536))
      let read : Frc :=
        { s.frc with
          rawPrimary := some p.toInt, rawCheck := some q.toInt
          primary := s.frc.tare.map fun z => reading p.toInt z.1 s.cfg.primaryGain
          check := s.frc.tare.map fun z => reading q.toInt z.2 s.cfg.checkGain }
      let retracted : Frc := { read with state := .retracted, cycle := none, contact := false, deadline := none, pairs := 0 }
      (∀ z, s.frc.drive = .running → s.frc.stroke = some z →
        exec (.samplePair p q) s = .next
          { s with
            frc :=
              if z ≤ 2000 then { read with stroke := some 0, drive := .freeTest, pairs := 0 }
              else { read with stroke := some (z - 2000) } }) ∧
      let free := s.cfg.freeMin ≤ p.toInt ∧ p.toInt ≤ s.cfg.freeMax ∧ s.cfg.freeMin ≤ q.toInt ∧ q.toInt ≤ s.cfg.freeMax
      (s.frc.drive = .homeDrive → s.frc.pairs ≠ 999 →
        exec (.samplePair p q) s = .next { s with frc := { read with pairs := s.frc.pairs + 1 } }) ∧
      (s.frc.drive = .freeTest → s.frc.pairs ≠ 7 → free →
        exec (.samplePair p q) s = .next { s with frc := { read with pairs := s.frc.pairs + 1 } }) ∧
      (s.frc.drive = .freeTest → ¬free → exec (.samplePair p q) s = .next { s with frc := { read with pairs := 0 } }) ∧
      (s.frc.drive = .stopped → exec (.samplePair p q) s = .next { s with frc := read }) ∧
      (exec (.homeDriveDone p q) s =
        if s.frc.drive = .homeDrive ∧ s.frc.pairs = 999 then exec (.samplePair p q) s else .next s) ∧
      (exec (.freeTestPass p q) s =
        if s.frc.drive = .freeTest ∧ s.frc.pairs = 7 ∧ free then exec (.samplePair p q) s else .next s) ∧
      (s.frc.drive = .homeDrive → s.frc.pairs = 999 →
        exec (.homeDriveDone p q) s = .next { s with frc := { read with stroke := some 0, drive := .freeTest, pairs := 0 } }) ∧
      (s.frc.drive = .freeTest → s.frc.pairs = 7 →
        s.cfg.freeMin ≤ p.toInt → p.toInt ≤ s.cfg.freeMax → s.cfg.freeMin ≤ q.toInt → q.toInt ≤ s.cfg.freeMax →
        (s.cyc.current = none →
          (s.cyc.mode ≠ .start → s.cyc.mode ≠ .pausing → exec (.freeTestPass p q) s = .next { s with frc := retracted }) ∧
          (s.cyc.mode = .start → s.cyc.configReading = false → s.cyc.imageHeld = true → s.cyc.haltSeen = false →
            exec (.freeTestPass p q) s = .next
              { s with
                frc := retracted
                cyc.mode := .ready
                fcu.state := .listenIn
                fcu.listenEnd := some { setAt := s.tbu.stationTime, interval := s.cfg.listenInterval }
                fli.notices := placeNotice (.hello s.cyc.startCause) s.fli.notices })) ∧
        (∀ (w : Work) (p' : Phase), p' = .toSite ∨ p' = .toView →
          s.cyc.current = some { work := w, phase := p', step := .waiting } → s.cyc.mode ≠ .start →
          s.fcu.claim = .none → s.fcu.need = none → s.fcu.state = .active → s.fcu.doubtUntil = none →
          (∀ v ∈ s.fcu.view, v.claim = none ∧ v.holdoff = none) → s.mot.stopping = false → s.img.state = .idle →
          exec (.freeTestPass p q) s = .next
            { s with
              frc := retracted
              fcu :=
                { s.fcu with
                  claim := .pending .motion, block := none
                  need := some { kind := .motion, since := s.tbu.stationTime } }
              fli.notices := placeNotice (.claim .motion) s.fli.notices }) ∧
        (∀ w : Work,
          s.cyc.current = some { work := w, phase := .indent, step := .ending } → s.fcu.claim = .held .quiet →
          s.fcu.need = none → s.cyc.batch = none →
          s.sst.measureList.find? (fun id => !s.cyc.delivered.contains id) = none →
          let freed : State :=
            { s with
              frc := retracted
              fcu := { s.fcu with claim := .none, claimRefresh := none, collided := [] }
              fli := s.fli.released .quiet
              cyc :=
                { s.cyc with
                  current := none, gatheredIndent := .none, gatheredMeasure := .none, contactMark := none
                  bufferFull := false, cue := if s.cyc.cue = .room then .none else s.cyc.cue } }
          (s.cyc.mode = .pausing → exec (.freeTestPass p q) s = .next { freed with cyc.mode := .paused }) ∧
          (s.cyc.mode = .running → s.sst.queue = [] →
            exec (.freeTestPass p q) s = .next { freed with cyc.cue := .plan }) ∧
          (∀ j rest, s.cyc.mode = .running → s.cyc.workMode = .perSite → s.sst.queue = .indent j :: rest →
            s.sst.map.length < 256 → (∀ d ∈ s.sst.map, s.cfg.conflicts j.fields d = false) →
            s.fcu.state = .active → s.fcu.doubtUntil = none →
            (∀ v ∈ s.fcu.view, v.claim = none ∧ v.holdoff = none) → s.mot.stopping = false → s.img.state = .idle →
            exec (.freeTestPass p q) s = .next
              { freed with
                sst := { s.sst with queue := rest, deferral := none }
                fcu :=
                  { freed.fcu with
                    claim := .pending .motion, block := none
                    need := some { kind := .motion, since := s.tbu.stationTime } }
                fli := { freed.fli with notices := placeNotice (.claim .motion) freed.fli.notices }
                cyc :=
                  { freed.cyc with
                    cue := .none, current := some { work := .indent j, phase := .toSite, step := .waiting } } })) ∧
        (∀ (i : IndentItem) (mark : TickSource) (e : Entry),
          s.cyc.current = some { work := .indent i, phase := .indent, step := .working } → s.cyc.contactMark = some mark →
          s.sst.entry? i.fields.site = some e → e.outcome = .awaitingMeasure → s.cyc.mode = .running →
          s.fcu.claim = .held .quiet → s.fcu.need = none → s.fcu.state = .active → s.fcu.doubtUntil = none →
          (∀ v ∈ s.fcu.view, v.claim = none ∧ v.holdoff = none) → s.mot.stopping = false → s.img.state = .idle →
          let g := s.cyc.gatheredIndent
          let flags : IndentFlags :=
            { g with dwellUntraceable := g.dwellUntraceable || (s.frc.holdSource.isNone && mark == .internal) }
          let completed : State :=
            { s with
              frc := retracted
              sst.map := s.sst.map.map fun (d : Entry) => if d.fields.site = i.fields.site then
                { d with indentFlags := d.indentFlags.union flags, meanForce := s.frc.holdMean } else d
              fcu :=
                { s.fcu with
                  claim := .pending .motion, claimRefresh := none, collided := [], block := none
                  need := some { kind := .motion, since := s.tbu.stationTime } }
              fli :=
                { s.fli.released .quiet with
                  notices := placeNotice (.claim .motion) (s.fli.released .quiet).notices } }
          let dropped : Cyc :=
            { s.cyc with
              gatheredIndent := .none, gatheredMeasure := .none, contactMark := none, bufferFull := false, cue := .none }
          (s.cyc.workMode = .perSite →
            exec (.freeTestPass p q) s = .next
              { completed with cyc.current := some { work := .indent i, phase := .toView, step := .waiting } }) ∧
          (∀ slot, s.cyc.workMode = .batch → s.cyc.batch = some slot →
            let closes := s.cyc.batchLimit ≤ s.sst.measureList.length ∨ s.sst.queue = [] ∨
              (∃ site rest, s.sst.queue = .remeasure site :: rest) ∨
              (∃ j rest, s.sst.queue = .indent j :: rest ∧ j.fields.indenter ≠ slot)
            (∀ first, closes → s.sst.measureList.find? (fun id => !s.cyc.delivered.contains id) = some first →
              exec (.freeTestPass p q) s = .next
                { completed with
                  cyc :=
                    { dropped with
                      batch := none, current := some { work := .listed first, phase := .toView, step := .waiting } } }) ∧
            (∀ j rest, ¬closes → s.sst.queue = .indent j :: rest → s.sst.map.length < 256 →
              (∀ d ∈ s.sst.map, s.cfg.conflicts j.fields d = false) →
              exec (.freeTestPass p q) s = .next
                { completed with
                  sst := { completed.sst with queue := rest, deferral := none }
                  cyc :=
                    { dropped with
                      current := some { work := .indent j, phase := .toSite, step := .waiting } } })))))

/-! ### The timebase -/

/-- The reference monitor: the 64th good window in a row qualifies the reference and a bad one begins again; a window
with no edge, or a second bad one in a row, loses the selected reference at once; the switch is made in QUALIFIED
outside LOAD, HOLD and UNLOAD alone (R130 to R132). That a switch comes at a tick is left to the sender (log 6). -/
def Obligations.ReferenceMonitor : Prop :=
  ∀ (s : State) (edges : Nat), s.live →
    let expected := s.cfg.referenceDivider / 10
    let good := ((edges : Int) - expected).natAbs ≤ expected / 32
    let answer := fun (t : Tbu) => exec (.refWindowEnd edges) s = .next { s with tbu := t }
    (s.tbu.monitor = .qualifying → good → s.tbu.goodRun < 63 → answer { s.tbu with goodRun := s.tbu.goodRun + 1 }) ∧
    (s.tbu.monitor = .qualifying → good → s.tbu.goodRun = 63 →
      answer { s.tbu with goodRun := 64, monitor := .qualified }) ∧
    (s.tbu.monitor = .qualifying ∨ s.tbu.monitor = .qualified → ¬good →
      answer { s.tbu with goodRun := 0, monitor := .qualifying }) ∧
    (s.tbu.monitor = .off ∨ s.tbu.monitor = .lost ∨ (s.tbu.monitor = .qualified ∧ good) → answer s.tbu) ∧
    (s.tbu.monitor = .selected → good → answer { s.tbu with badRun := 0 }) ∧
    (s.tbu.monitor = .selected → ¬good → edges ≠ 0 → s.tbu.badRun = 0 → answer { s.tbu with badRun := 1 }) ∧
    (s.tbu.monitor = .selected → ¬good → edges = 0 ∨ s.tbu.badRun = 1 → ∃ run,
      answer { s.tbu with source := .internal, refLost := true, monitor := .lost, badRun := run }) ∧
    (s.tbu.monitor = .qualified → s.frc.state ≠ .load → s.frc.state ≠ .hold → s.frc.state ≠ .unload →
      exec .sourceSwitch s = .next
        { s with tbu.source := .reference, tbu.monitor := .selected, tbu.badRun := 0 }) ∧
    (s.tbu.monitor ≠ .qualified ∨ s.frc.state = .load ∨ s.frc.state = .hold ∨ s.frc.state = .unload →
      exec .sourceSwitch s = .next s)

/-! ### Images and measurement -/

/-- Focus settle end and FVAL: the attempt begins with 250 ms to wait for a frame, and a rising edge ends that wait. A
stall, a short frame and a frame wait end are retried with a CAPTURE_RETRY event while retries are left; then the IMAGE
work ends with CAPTURE_STALL: the claim is released, and with nothing else to do the bare delivery is written
MEASURE_FAILED at once, or with a HALT that falls due together stays READY (R9, R14, R141 to R143, R145, R147, R149, R152). The
order of the steps within one event (log 23), that the command tells of the HALT (log 51), and that the site of the bare delivery
joins the delivered entries while it stays READY, so that cue PLAN follows (log 52), are the model's choices. -/
def Obligations.CaptureAttempts : Prop :=
  ∀ s : State, s.live →
    let waitEnd : Option Deadline := some { setAt := s.tbu.stationTime, interval := 250 }
    (∀ d, s.img.state = .settle → s.img.settleEnd = some d → d.interval ≤ (s.tbu.stationTime - d.setAt).toNat →
      exec .focusSettleEnd s = .next
        { s with img := { s.img with state := .capture, ph := [], pv := [], settleEnd := none, frameWaitEnd := waitEnd } }) ∧
    (s.img.state = .capture → exec .fvalRise s = .next { s with img.frameWaitEnd := none }) ∧
    (s.img.state ≠ .capture → exec .fvalRise s = .next s ∧
      ∀ halt, exec (.pclkStall halt) s = .next s ∧ exec (.shortFrame halt) s = .next s) ∧
    (∀ (c : Instr) (halt : Bool), s.img.state = .capture →
      ((c = .pclkStall halt ∨ c = .shortFrame halt) ∧ s.img.frameWaitEnd = none) ∨
        (c = .frameWaitEnd halt ∧
          ∃ d, s.img.frameWaitEnd = some d ∧ d.interval ≤ (s.tbu.stationTime - d.setAt).toNat) →
      (s.img.attempt < s.cfg.captureRetries →
        exec c s = .next ({ s with
          img :=
            { s.img with
              attempt := s.img.attempt + 1, ph := [], pv := [], settleEnd := none
              frameWaitEnd := waitEnd } }.signal .captureRetry 0)) ∧
      (∀ site name e, s.cfg.captureRetries ≤ s.img.attempt →
        s.cyc.current = some { work := .listed site, phase := .image, step := .working } →
        s.img.reserved = some name → s.mea = Mea.set { slotA := .free, slotB := .free } name (.filling site) →
        s.sst.map = [e] → e.fields.site = site → e.outcome = .awaitingMeasure → s.sst.queue = [] →
        s.fcu.claim = .held .quiet → s.fcu.need = none → s.cyc.mode = .running → s.cyc.batch = none →
        s.cyc.cue = .none → s.cyc.delivered = [] → s.hasMessageRoom 1 →
        let written : Entry :=
          { e with
            outcome := .measureFailed, measureFlags := { s.cyc.gatheredMeasure with captureStall := true }
            d1 := none, d2 := none, hardness := none, count := 1 }
        let ended := fun (t : State) =>
          t.cyc.current = none ∧ t.cyc.cue = .plan ∧ t.sst.queue = [] ∧
          t.img.state = .idle ∧ t.img.stage = .none ∧ t.img.reserved = none ∧ t.img.illumination = 0 ∧
          t.fcu.claim = .none ∧ t.fli.notices = (s.fli.released .quiet).notices ∧
          t.mot = s.mot ∧ t.frc = s.frc ∧ t.tbu = s.tbu ∧ t.cfg = s.cfg
        (halt = false → ∃ t, exec c s = .next t ∧ ended t ∧ t.sst.map = [written] ∧ t.cyc.delivered = [] ∧
          t.mea = { slotA := .free, slotB := .free } ∧
          t.fli.messages = s.fli.messages ++
            [{ message := .siteDone written .measureFailed written.measureFlags, restart := false }]) ∧
        (halt = true → ∃ t d, exec c s = .next t ∧ ended t ∧ t.sst = s.sst ∧ t.cyc.delivered = [site] ∧
          t.mea = Mea.set { slotA := .free, slotB := .free } name (.ready d) ∧ d.site = site ∧
          d.force = e.fields.force ∧ d.objective = e.fields.objective ∧ d.measureSet = written.measureFlags ∧
          d.profiles = none ∧ t.fli.messages = s.fli.messages)))

/-- What the Image Unit computes, where the lines hold the whole window and the band lies in it: row r and column c of the window
are line originRow + r and pixel originColumn + c; Ph[c] and Pv[r] are the sums over the band rows and the band columns, from
floor(H/2) - floor(B/2) and floor(W/2) - floor(B/2) on, B of them, each at most B * 1,023; and the sharpness is the sum of the steps
between neighbours of both (R138, R139, R145). WINDOW_COMPLETE with a frame being received that holds the whole window: in FOCUS the
score is kept when it is greater than the best so far; then the fine step to the next height is asked for, or after the last
position the one to the best height, for FINAL, unless the best score is below the minimum sharpness: that ends the work with
FOCUS_FAILED. A fine step to the height at which Z stands completes at once. In FINAL, the profiles are delivered into the
reserved slot, whose computation starts at once in RUNNING and PAUSING, or where a HALT falls due together stays READY, QUIET is
released and the item ends: in RUNNING with nothing to do the Cycle Controller waits with cue PLAN, and in PAUSED after PAUSING
that leaves nothing to finish. Lines that lack a window pixel change nothing (R9, R42, R103, R141, R145 to R147, R149, R152). The
order of the steps within one event (log 23), no effect without a whole window (log 5), that the command tells of the HALT (log
51), and that the site of a FOCUS_FAILED joins the delivered entries while its slot stays READY, so that cue PLAN follows (log
52), are the model's choices. -/
def Obligations.WindowComplete : Prop :=
  (∀ (o : ObjectiveRecord) (band : Nat) (lines : List (List Pixel)), band ≤ o.height → band ≤ o.width →
    (∀ r, r < o.height → ∃ line, lines[o.originRow + r]? = some line ∧ o.originColumn + o.width ≤ line.length) →
    let pixel := fun (r c : Nat) => ((lines.getD (o.originRow + r) []).getD (o.originColumn + c) 0#10).toNat
    let bandRow := o.height / 2 - band / 2
    let bandColumn := o.width / 2 - band / 2
    o.window lines = ((List.range o.height).map fun r => (List.range o.width).map fun c => pixel r c) ∧
    horizontalProfile o band (o.window lines)
      = ((List.range o.width).map fun c => ((List.range band).map fun b => pixel (bandRow + b) c).sum) ∧
    verticalProfile o band (o.window lines)
      = ((List.range o.height).map fun r => ((List.range band).map fun b => pixel r (bandColumn + b)).sum) ∧
    ∀ v ∈ horizontalProfile o band (o.window lines) ++ verticalProfile o band (o.window lines), v ≤ band * 1023) ∧
  (∀ ph pv : List Nat,
    let steps := fun (p : List Nat) =>
      ((List.range (p.length - 1)).map fun i => ((p.getD (i + 1) 0 : Int) - p.getD i 0).natAbs).sum
    sharpness ph pv = steps ph + steps pv) ∧
  ∀ (s : State) (o : ObjectiveRecord) (slot : Nat) (lines : List (List Pixel)) (halt : Bool), s.live → s.img.state = .capture →
    s.img.frameWaitEnd = none → s.img.objective = some slot → s.cfg.slot slot = .objective o →
    let whole := ∀ r, r < o.height → ∃ line, lines[o.originRow + r]? = some line ∧ o.originColumn + o.width ≤ line.length
    let ph := horizontalProfile o s.cfg.band (o.window lines)
    let pv := verticalProfile o s.cfg.band (o.window lines)
    let score := sharpness ph pv
    let here : BestFocus := { index := s.img.index, z := s.img.reachedZ, sharpness := score }
    let best : BestFocus := match s.img.best with
      | some b => if b.sharpness < score then here else b
      | none => here
    let scored : Img := { s.img with attempt := 0, ph := [], pv := [], best := some best }
    let asked := fun (i : Img) (target : Int) =>
      let z := (max 0 (min 500000 target)).toNat
      exec (.windowComplete lines halt) s = .next
        (if s.mot.z ≠ z then
          { s with
            img := { i with state := .step }
            mot :=
              { s.mot with
                zActivity := .fine z
                moveDeadline := some { setAt := s.tbu.stationTime, interval := s.cfg.moveTimeout } } }
        else if o.focusSettle = 0 then
          { s with
            img :=
              { i with
                state := .capture, reachedZ := z, settleEnd := none
                frameWaitEnd := some { setAt := s.tbu.stationTime, interval := 250 } } }
        else
          { s with
            img :=
              { i with
                state := .settle, reachedZ := z
                settleEnd := some { setAt := s.tbu.stationTime, interval := o.focusSettle } } })
    (¬whole → exec (.windowComplete lines halt) s = .next s) ∧
    (whole → s.img.stage = .focus → s.mot.zHomed = true → s.mot.zActivity = .idle → s.mot.stopping = false →
      (∀ heights target, s.img.index + 1 < o.focusCount → s.img.positions = some heights →
        heights[s.img.index + 1]? = some target → asked { scored with index := s.img.index + 1 } target) ∧
      (o.focusCount ≤ s.img.index + 1 → o.minSharpness ≤ best.sharpness →
        asked { scored with stage := .final } best.z)) ∧
    (∀ site name e, whole →
      s.cyc.current = some { work := .listed site, phase := .image, step := .working } →
      s.img.reserved = some name → s.mea = Mea.set { slotA := .free, slotB := .free } name (.filling site) →
      s.sst.map = [e] → e.fields.site = site → s.cfg.indenterKind? e.fields.indenter ≠ none →
      s.fcu.claim = .held .quiet → s.fcu.need = none → s.cyc.delivered = [] → s.frc.state = .retracted →
      s.cyc.mode = .pausing ∨ (s.cyc.mode = .running ∧ s.cyc.batch = none ∧ s.sst.queue = []) →
      let ended := fun (t : State) =>
        t.cyc.mode = (if s.cyc.mode = .running then .running else .paused) ∧ t.cyc.current = none ∧
        (s.cyc.mode = .running → t.cyc.cue = .plan) ∧
        t.img.state = .idle ∧ t.img.stage = .none ∧ t.img.reserved = none ∧ t.img.illumination = 0 ∧
        t.fcu.claim = .none ∧ t.fli.notices = (s.fli.released .quiet).notices ∧
        t.mot = s.mot ∧ t.frc = s.frc ∧ t.tbu = s.tbu ∧ t.cfg = s.cfg ∧ t.sst.queue = s.sst.queue
      (s.img.stage = .final →
        ∃ t d, exec (.windowComplete lines halt) s = .next t ∧ ended t ∧
          t.mea = Mea.set { slotA := .free, slotB := .free } name (if halt then .ready d else .computing d) ∧
          d.site = site ∧ some d.kind = s.cfg.indenterKind? e.fields.indenter ∧ d.force = e.fields.force ∧
          d.objective = e.fields.objective ∧ d.measureSet = s.cyc.gatheredMeasure ∧
          d.profiles = some { width := o.width, height := o.height, ph := ph, pv := pv } ∧
          t.cyc.delivered = [site] ∧ t.sst = s.sst ∧ t.evc = s.evc) ∧
      (s.img.stage = .focus → o.focusCount ≤ s.img.index + 1 → best.sharpness < o.minSharpness →
        e.outcome = .awaitingMeasure → s.hasMessageRoom 1 → s.cyc.cue = .none →
        let written : Entry :=
          { e with
            outcome := .measureFailed, measureFlags := { s.cyc.gatheredMeasure with focusFailed := true }
            d1 := none, d2 := none, hardness := none, count := 1 }
        (halt = false → ∃ t, exec (.windowComplete lines halt) s = .next t ∧ ended t ∧ t.sst.map = [written] ∧
          t.cyc.delivered = [] ∧ t.mea = { slotA := .free, slotB := .free } ∧
          t.fli.messages = s.fli.messages ++
            [{ message := .siteDone written .measureFailed written.measureFlags, restart := false }]) ∧
        (halt = true → ∃ t d, exec (.windowComplete lines halt) s = .next t ∧ ended t ∧ t.sst = s.sst ∧
          t.cyc.delivered = [site] ∧ t.mea = Mea.set { slotA := .free, slotB := .free } name (.ready d) ∧
          d.site = site ∧ some d.kind = s.cfg.indenterKind? e.fields.indenter ∧ d.force = e.fields.force ∧
          d.objective = e.fields.objective ∧ d.measureSet = written.measureFlags ∧ d.profiles = none ∧
          t.fli.messages = s.fli.messages)))

/-- COMPUTE_COMPLETE of a COMPUTING slot: the slot is FREE, the site is delivered no more and SITE_DONE is placed, or dropped
with TX_OVERFLOW and LINK_ERROR overflow on a full message queue (R84). For an entry
that waits for its measurement the result's measure flags replace the entry's, the outcome is MEASURE_FAILED with a failure
flag, FLAGGED with any other flag of either set, else VALID, the numbers stand with the last two alone, and the count is 1.
For a REMEASURE attempt a result without a failure flag is written so too, with the count one higher up to 255, and one with
a failure flag leaves the entry as it was; SITE_DONE carries the attempt's own outcome and flags. Each of the three wakes what
waits for it: a choice with cue RESULT is made; an INDENT with cue ROOM, where the measure list then has room, and an IMAGE in
a buffer-full episode set their QUIET need
(R9, R14, R16, R17, R35, R37, R42, R43, R55, R153, R164, R172). That a slot that is not COMPUTING changes nothing (log 5) and
the attempt's outcome by its own flags (log 33) are the model's choices. -/
def Obligations.ComputeCompleteWrites : Prop :=
  ∀ (s : State) (name : SlotName), s.live →
    ((∀ d, s.mea.get name ≠ .computing d) → exec (.computeComplete name) s = .next s) ∧
    (∀ d e, s.mea.get name = .computing d → s.sst.entry? d.site = some e →
      let r := s.cfg.resultOf d
      let failed := r.flags.lowContrast || r.flags.noImpression || r.flags.edgeNotFound || r.flags.focusFailed
        || r.flags.captureStall
      let derived := fun (indent : IndentFlags) =>
        if failed then SiteOutcome.measureFailed
        else if indent ≠ IndentFlags.none ∨ r.flags ≠ MeasureFlags.none then .flagged else .valid
      let written := fun (count : Nat) (f : Entry) =>
        { f with
          outcome := derived f.indentFlags, measureFlags := r.flags, count := count
          d1 := if failed then none else r.d1, d2 := if failed then none else r.d2
          hardness := if failed then none else r.hardness }
      let freed : State := { s with mea := s.mea.set name .free, cyc.delivered := s.cyc.delivered.erase d.site }
      let rewritten := fun (count : Nat) (attempt : SiteOutcome) =>
        (({ freed with
              sst.map := s.sst.map.map fun (f : Entry) => if f.fields.site = d.site then written count f else f
              }.signal .outcome (qualifierBit (derived e.indentFlags).code)).signal .flag (written count e).flagMask).placed
          (.siteDone (written count e) attempt r.flags)
      let remaining := s.sst.measureList.filter fun site => site != d.site
      let writes := fun (wakes : State → List Nat → Prop) =>
        (e.outcome = .awaitingMeasure → wakes (rewritten 1 (derived e.indentFlags)) remaining) ∧
        (e.outcome ≠ .awaitingMeasure → failed = false →
          wakes (rewritten (min (e.count + 1) 255) (derived .none)) remaining) ∧
        (e.outcome ≠ .awaitingMeasure → failed = true →
          wakes (freed.placed (.siteDone e .measureFailed r.flags)) s.sst.measureList)
      let room := fun (list : List Nat) =>
        (s.cyc.workMode = .perSite → list = []) ∧ (s.cyc.workMode = .batch → list.length < s.cyc.batchLimit)
      ((s.cyc.cue = .result → s.cyc.mode = .running → s.cyc.current ≠ none) → s.cyc.cue ≠ .room →
        s.cyc.bufferFull = false → (∀ c, s.cyc.current = some c → c.step ≠ .waiting ∨ s.fcu.need ≠ none) →
        writes fun u _ => exec (.computeComplete name) s = .next u) ∧
      (s.cyc.current = none → s.cyc.cue = .result → s.cyc.mode = .running → s.cyc.bufferFull = false →
        writes fun u _ => exec (.computeComplete name) s = .next u.choose) ∧
      (∀ c : Current, s.cyc.current = some c → c.step = .waiting → s.fcu.need = none →
        let claims := fun (u : State) =>
          s.frc.state = .retracted → s.mot.stopping = false → s.img.state = .idle → s.fcu.state = .active →
          s.fcu.doubtUntil = none → s.fcu.claim = .none → (∀ v ∈ s.fcu.view, v.claim = none ∧ v.holdoff = none) →
          exec (.computeComplete name) s = .next
            { u with
              cyc := { s.cyc with delivered := s.cyc.delivered.erase d.site, cue := .none, bufferFull := false }
              fcu :=
                { s.fcu with
                  need := some { kind := .quiet, since := s.tbu.stationTime }, claim := .pending .quiet, block := none }
              fli.notices := placeNotice (.claim .quiet) s.fli.notices }
        (c.phase = .indent → s.cyc.cue = .room →
          writes fun u list =>
            (room list → claims u) ∧
            (¬room list → exec (.computeComplete name) s = .next { u with cyc.bufferFull := false })) ∧
        (c.phase = .image → s.cyc.cue = .none → s.cyc.bufferFull = true → writes fun u _ => claims u)))

/-- The spacing check at the START of a PER_SITE station with an INDENT item at the head of its queue: a conflict with a made
entry, by the exact squares of R21 over the reference diagonal of R20, defers the item while that entry waits for its
measurement and rejects it otherwise; an entry with made = no and equality are no conflict. With 256 entries in the map the
item waits with reason map-full and cue PLAN, whatever its spacing (R10, R18 to R23, R35). That a PLAN or RESULT cue kept from
before returns to NONE at the choice that takes the item up is the model's choice (log 53). -/
def Obligations.SpacingDecides : Prop :=
  ∀ (dest : BitVec 4) (tag : Byte) (s : State) (i : IndentItem) (rest : List Item), s.live → s.own dest →
    s.hasMessageRoom 2 → s.cyc.mode = .ready → s.cyc.workMode = .perSite → s.cyc.current = none → s.cyc.batch = none →
    (∀ d, s.mea.slotA ≠ .ready d ∧ s.mea.slotB ≠ .ready d) → s.sst.queue = .indent i :: rest → s.sst.deferral = none →
    (∀ e ∈ s.sst.map, e.outcome = .awaitingMeasure → e.fields.site ∈ s.cyc.delivered) →
    let started : State := { s.replied tag 0x14#8 .accepted with cyc.mode := .running }
    (256 ≤ s.sst.map.length →
      exec (.start dest [tag]) s = .next
        ({ started with
            sst.deferral := some { reason := .mapFull, since := s.tbu.stationTime }
            cyc.cue := .plan }.signal .deferral (qualifierBit 1))) ∧
    (∀ e, s.sst.map = [e] → rest = [] → s.fcu.state = .active → s.fcu.claim = .none → s.fcu.need = none →
      s.frc.state = .retract →
      let f := i.fields
      let governing :=
        match e.d1, e.fields.expected with
        | some d1, _ => if s.cfg.indenterKind? e.fields.indenter = some .vickers then max d1 (e.d2.getD 0) else d1
        | none, some d => d
        | none, none => s.cfg.bound e.fields.indenter
      let d := max governing (f.expected.getD 0)
      let conflict := e.made = true ∧
        100000000 * ((f.x - e.fields.x) * (f.x - e.fields.x) + (f.y - e.fields.y) * (f.y - e.fields.y))
          < ((s.cfg.spacingFactor * s.cfg.spacingFactor * (d * d) : Nat) : Int)
      let rejected : Entry :=
        { fields := f, made := false, outcome := .rejectedSpacing, indentFlags := .none, measureFlags := .none
          d1 := none, d2 := none, hardness := none, meanForce := none, indentTime := s.tbu.stationTime, count := 0 }
      (¬conflict → exec (.start dest [tag]) s = .next
        { started with
          sst := { queue := [], deferral := none, map := [e] }
          cyc.cue := .none
          cyc.current := some { work := .indent i, phase := .toSite, step := .waiting } }) ∧
      (conflict → e.outcome = .awaitingMeasure → exec (.start dest [tag]) s = .next
        ({ started with
          sst.deferral := some { reason := .spacingWait, since := s.tbu.stationTime }
          cyc.cue := .result }.signal .deferral (qualifierBit 0))) ∧
      (conflict → e.outcome ≠ .awaitingMeasure → exec (.start dest [tag]) s = .next
        (({ (s.replied tag 0x14#8 .accepted).answered (.siteDone rejected .rejectedSpacing .none) with
            cyc.mode := .running
            sst := { queue := [], deferral := none, map := [e, rejected] }
            cyc.cue := .plan }.signal .outcome (qualifierBit 0)).signal .flag rejected.flagMask)))

/-- The stages of a measurement. The guard is clamped so that a centre is left; the bright level is the floored mean of the
guard points at both ends with half of them added, the dark level the least point between the guards; a span below the
minimum contrast is LOW_CONTRAST; the threshold stands above the dark level by the ladder's share of the span, rounded half
up; a centre at or above it is NO_IMPRESSION; from the centre outward the first point at or above it on each side gives an
edge interpolated in 1/256 pixel, and a side without one is EDGE_NOT_FOUND. The length between the edges is scaled to nm,
rounded half up and clamped, and flagged by the pixel bounds (R155 to R161). The mean of two diagonals is the half sum
rounded up, and ASYMMETRIC compares their difference with it (R162). The hardness is the nearest integer to the quotient of
R163, a half rounded up, saturating at 999,999; a diagonal of 0 gives EDGE_NOT_FOUND and no hardness. The result of a delivery
without profiles is its measure set alone; KNOOP works Ph alone, VICKERS both profiles, each to its own end, and the hardness
comes from the one diagonal or from the mean of two; the flags are the union of the measure set and those of the stages
(R164). -/
def Obligations.HardnessArithmetic : Prop :=
  (∀ g n : Nat, 64 ≤ n → guardOf g n ≤ g ∧ 2 * guardOf g n + 3 ≤ n ∧ (guardOf g n = g ∨ n < 2 * (guardOf g n + 1) + 3)) ∧
  (∀ (o : ObjectiveRecord) (g : Nat) (p : List Nat), 64 ≤ p.length → 0 < g →
    let m := guardOf g p.length
    let k := p.length / 2
    let ends := (p.take m).sum + (p.drop (p.length - m)).sum
    let bright := brightLevel p m
    let dark := darkLevel p m
    let span := bright - dark
    let height := thresholdHeight o.ladder o.ladderStep span
    let t := dark + height
    let right := fun (c : Nat) => k < c ∧ c + m < p.length ∧ t ≤ p.getD c 0 ∧ ∀ b, k < b → b < c → p.getD b 0 < t
    let left := fun (c : Nat) => c < k ∧ m ≤ c ∧ t ≤ p.getD c 0 ∧ ∀ b, c < b → b < k → p.getD b 0 < t
    (2 * m * bright ≤ ends + m ∧ ends + m < 2 * m * (bright + 1)) ∧
    ((∀ c, m ≤ c → c + m < p.length → dark ≤ p.getD c 0) ∧ ∃ c, m ≤ c ∧ c + m < p.length ∧ p.getD c 0 = dark) ∧
    (bright < dark + o.minContrast → profileLength o g p = .error .lowContrast) ∧
    (o.ladder = .wide → 24 * height ≤ max o.ladderStep 1 * span + 12 ∧ max o.ladderStep 1 * span + 12 < 24 * (height + 1)) ∧
    (o.ladder = .narrow → 32 * height ≤ (8 + o.ladderStep) * span + 16 ∧ (8 + o.ladderStep) * span + 16 < 32 * (height + 1)) ∧
    (dark + o.minContrast ≤ bright →
      (t ≤ p.getD k 0 → profileLength o g p = .error .noImpression) ∧
      (p.getD k 0 < t → (∀ c, ¬right c) ∨ (∀ c, ¬left c) → profileLength o g p = .error .edgeNotFound) ∧
      (∀ r l, p.getD k 0 < t → right r → left l →
        ∃ x y, profileLength o g p = .ok ((r - 1) * 256 + x - ((l + 1) * 256 - y)) ∧
          x * (p.getD r 0 - p.getD (r - 1) 0) ≤ 256 * (t - p.getD (r - 1) 0) ∧
          256 * (t - p.getD (r - 1) 0) < (x + 1) * (p.getD r 0 - p.getD (r - 1) 0) ∧
          y * (p.getD l 0 - p.getD (l + 1) 0) ≤ 256 * (t - p.getD (l + 1) 0) ∧
          256 * (t - p.getD (l + 1) 0) < (y + 1) * (p.getD l 0 - p.getD (l + 1) 0)))) ∧
  (∀ (o : ObjectiveRecord) (n : Nat),
    (∃ d, lengthDiagonal o (.ok n) = some d ∧ d ≤ 4194303 ∧
      (d < 4194303 → 65536 * d ≤ n * o.scale + 32768 ∧ n * o.scale + 32768 < 65536 * (d + 1)) ∧
      (d = 4194303 → 65536 * d ≤ n * o.scale + 32768)) ∧
    ((lengthFlags o (.ok n)).tooSmall = true ↔ n < o.minPixels * 256) ∧
    ((lengthFlags o (.ok n)).tooLarge = true ↔ o.maxPixels * 256 < n)) ∧
  (∀ a b permille : Nat,
    (2 * meanDiagonal a b = a + b ∨ 2 * meanDiagonal a b = a + b + 1) ∧
    (asymmetric permille a b = true ↔ permille * meanDiagonal a b < (max a b - min a b) * 1000)) ∧
  (∀ kind force, hardnessOf kind force 0 = (none, { MeasureFlags.none with edgeNotFound := true })) ∧
  (∀ (kind : IndenterKind) (force d : Nat), 0 < d →
    let num := (match kind with | .vickers => 18909290000 | .knoop => 145095000000) * force
    ∃ (h : Nat) (flags : MeasureFlags), hardnessOf kind force d = (some h, flags) ∧ h ≤ 999999 ∧
      (flags = MeasureFlags.none → (2 * h) * (d * d) ≤ 2 * num + d * d ∧ 2 * num + d * d < (2 * h + 2) * (d * d)) ∧
      (flags ≠ MeasureFlags.none → flags = { MeasureFlags.none with saturated := true } ∧ h = 999999 ∧
        2 * 1000000 * (d * d) ≤ 2 * num + d * d)) ∧
  (∀ (o : ObjectiveRecord) (f : ProfileFailure), lengthDiagonal o (.error f) = none ∧
    lengthFlags o (.error f) = (match f with
      | .lowContrast => { MeasureFlags.none with lowContrast := true }
      | .noImpression => { MeasureFlags.none with noImpression := true }
      | .edgeNotFound => { MeasureFlags.none with edgeNotFound := true })) ∧
  ∀ (c : ConfigImage) (d : Delivery),
    (d.profiles = none →
      c.resultOf d = { site := d.site, d1 := none, d2 := none, hardness := none, flags := d.measureSet }) ∧
    ∀ (p : Profiles) (o : ObjectiveRecord), d.profiles = some p → c.slot d.objective = .objective o →
      let h := profileLength o c.guardPoints p.ph
      let v := profileLength o c.guardPoints p.pv
      let r := c.resultOf d
      let flagged := fun (set : MeasureFlags → Bool) (stages : List MeasureFlags) =>
        set r.flags = true ↔ set d.measureSet = true ∨ ∃ f ∈ stages, set f = true
      let union := fun (stages : List MeasureFlags) =>
        flagged (·.lowContrast) stages ∧ flagged (·.noImpression) stages ∧ flagged (·.edgeNotFound) stages ∧
        flagged (·.tooSmall) stages ∧ flagged (·.tooLarge) stages ∧ flagged (·.asymmetric) stages ∧
        flagged (·.saturated) stages ∧ flagged (·.focusFailed) stages ∧ flagged (·.captureStall) stages ∧
        flagged (·.frameDisturbedImage) stages ∧ flagged (·.measureAborted) stages
      r.site = d.site ∧
      (d.kind = .knoop →
        r.d1 = lengthDiagonal o h ∧ r.d2 = none ∧
        r.hardness = (lengthDiagonal o h).bind (fun d1 => (hardnessOf .knoop d.force d1).1) ∧
        union (lengthFlags o h :: (lengthDiagonal o h).toList.map fun d1 => (hardnessOf .knoop d.force d1).2)) ∧
      (d.kind = .vickers →
        r.d1 = lengthDiagonal o h ∧ r.d2 = lengthDiagonal o v ∧
        (lengthDiagonal o h = none ∨ lengthDiagonal o v = none →
          r.hardness = none ∧ union [lengthFlags o h, lengthFlags o v]) ∧
        ∀ d1 d2, lengthDiagonal o h = some d1 → lengthDiagonal o v = some d2 →
          let number := hardnessOf .vickers d.force (meanDiagonal d1 d2)
          r.hardness = number.1 ∧
          union [lengthFlags o h, lengthFlags o v, number.2,
            { MeasureFlags.none with asymmetric := asymmetric c.asymmetryPermille d1 d2 }])
end

