-- ==== Sys2Proof/Laws/State.lean ====
section
/-!
SUPPORT. The fields of the shared updates of the state, one lemma per field, so that no proof unfolds a record update.
-/

namespace Sys2Proof.Machine

/-! ### A signal changes the counters alone (R174) -/

@[simp] theorem State.signal_cfg (s : State) (k : EventKind) (b : BitVec 20) : (s.signal k b).cfg = s.cfg := rfl
@[simp] theorem State.signal_cyc (s : State) (k : EventKind) (b : BitVec 20) : (s.signal k b).cyc = s.cyc := rfl
@[simp] theorem State.signal_sst (s : State) (k : EventKind) (b : BitVec 20) : (s.signal k b).sst = s.sst := rfl
@[simp] theorem State.signal_fcu (s : State) (k : EventKind) (b : BitVec 20) : (s.signal k b).fcu = s.fcu := rfl
@[simp] theorem State.signal_fli (s : State) (k : EventKind) (b : BitVec 20) : (s.signal k b).fli = s.fli := rfl
@[simp] theorem State.signal_mot (s : State) (k : EventKind) (b : BitVec 20) : (s.signal k b).mot = s.mot := rfl
@[simp] theorem State.signal_frc (s : State) (k : EventKind) (b : BitVec 20) : (s.signal k b).frc = s.frc := rfl
@[simp] theorem State.signal_tbu (s : State) (k : EventKind) (b : BitVec 20) : (s.signal k b).tbu = s.tbu := rfl
@[simp] theorem State.signal_img (s : State) (k : EventKind) (b : BitVec 20) : (s.signal k b).img = s.img := rfl
@[simp] theorem State.signal_mea (s : State) (k : EventKind) (b : BitVec 20) : (s.signal k b).mea = s.mea := rfl
@[simp] theorem State.signal_restartPending (s : State) (k : EventKind) (b : BitVec 20) : (s.signal k b).restartPending = s.restartPending := rfl
@[simp] theorem State.signal_resetHeld (s : State) (k : EventKind) (b : BitVec 20) : (s.signal k b).resetHeld = s.resetHeld := rfl
@[simp] theorem State.signal_freeCount (s : State) (k : EventKind) (b : BitVec 20) : (s.signal k b).freeCount = s.freeCount := rfl
@[simp] theorem State.signal_pending (s : State) (k : EventKind) (b : BitVec 20) : (s.signal k b).pending = s.pending := rfl
@[simp] theorem State.signal_evc (s : State) (k : EventKind) (b : BitVec 20) :
    (s.signal k b).evc = s.evc.map (Counter.count k b) := rfl

/-! ### A queued notice changes the notice queue alone (R56) -/

@[simp] theorem State.queueNotice_cfg (s : State) (n : Notice) : (s.queueNotice n).cfg = s.cfg := rfl
@[simp] theorem State.queueNotice_cyc (s : State) (n : Notice) : (s.queueNotice n).cyc = s.cyc := rfl
@[simp] theorem State.queueNotice_sst (s : State) (n : Notice) : (s.queueNotice n).sst = s.sst := rfl
@[simp] theorem State.queueNotice_fcu (s : State) (n : Notice) : (s.queueNotice n).fcu = s.fcu := rfl
@[simp] theorem State.queueNotice_mot (s : State) (n : Notice) : (s.queueNotice n).mot = s.mot := rfl
@[simp] theorem State.queueNotice_frc (s : State) (n : Notice) : (s.queueNotice n).frc = s.frc := rfl
@[simp] theorem State.queueNotice_tbu (s : State) (n : Notice) : (s.queueNotice n).tbu = s.tbu := rfl
@[simp] theorem State.queueNotice_img (s : State) (n : Notice) : (s.queueNotice n).img = s.img := rfl
@[simp] theorem State.queueNotice_mea (s : State) (n : Notice) : (s.queueNotice n).mea = s.mea := rfl
@[simp] theorem State.queueNotice_restartPending (s : State) (n : Notice) : (s.queueNotice n).restartPending = s.restartPending := rfl
@[simp] theorem State.queueNotice_evc (s : State) (n : Notice) : (s.queueNotice n).evc = s.evc := rfl
@[simp] theorem State.queueNotice_resetHeld (s : State) (n : Notice) : (s.queueNotice n).resetHeld = s.resetHeld := rfl
@[simp] theorem State.queueNotice_freeCount (s : State) (n : Notice) : (s.queueNotice n).freeCount = s.freeCount := rfl
@[simp] theorem State.queueNotice_pending (s : State) (n : Notice) : (s.queueNotice n).pending = s.pending := rfl
@[simp] theorem State.queueNotice_fli_rank (s : State) (n : Notice) : (s.queueNotice n).fli.rank = s.fli.rank := rfl
@[simp] theorem State.queueNotice_fli_messages (s : State) (n : Notice) : (s.queueNotice n).fli.messages = s.fli.messages := rfl
@[simp] theorem State.queueNotice_fli_transmitter (s : State) (n : Notice) : (s.queueNotice n).fli.transmitter = s.fli.transmitter := rfl
@[simp] theorem State.queueNotice_fli_engine (s : State) (n : Notice) : (s.queueNotice n).fli.engine = s.fli.engine := rfl
@[simp] theorem State.queueNotice_fli_txOverflow (s : State) (n : Notice) : (s.queueNotice n).fli.txOverflow = s.fli.txOverflow := rfl
@[simp] theorem State.queueNotice_fli_stopDrive (s : State) (n : Notice) : (s.queueNotice n).fli.stopDrive = s.fli.stopDrive := rfl
@[simp] theorem State.queueNotice_fli_idleCount (s : State) (n : Notice) : (s.queueNotice n).fli.idleCount = s.fli.idleCount := rfl
@[simp] theorem State.queueNotice_fli_runLength (s : State) (n : Notice) : (s.queueNotice n).fli.runLength = s.fli.runLength := rfl
@[simp] theorem State.queueNotice_fli_notices (s : State) (n : Notice) :
    (s.queueNotice n).fli.notices = placeNotice n s.fli.notices := rfl

/-! ### An answer changes the message queue alone (R84, R166) -/

@[simp] theorem State.answered_cfg (s : State) (m : Message) : (s.answered m).cfg = s.cfg := rfl
@[simp] theorem State.answered_cyc (s : State) (m : Message) : (s.answered m).cyc = s.cyc := rfl
@[simp] theorem State.answered_sst (s : State) (m : Message) : (s.answered m).sst = s.sst := rfl
@[simp] theorem State.answered_fcu (s : State) (m : Message) : (s.answered m).fcu = s.fcu := rfl
@[simp] theorem State.answered_mot (s : State) (m : Message) : (s.answered m).mot = s.mot := rfl
@[simp] theorem State.answered_frc (s : State) (m : Message) : (s.answered m).frc = s.frc := rfl
@[simp] theorem State.answered_tbu (s : State) (m : Message) : (s.answered m).tbu = s.tbu := rfl
@[simp] theorem State.answered_img (s : State) (m : Message) : (s.answered m).img = s.img := rfl
@[simp] theorem State.answered_mea (s : State) (m : Message) : (s.answered m).mea = s.mea := rfl
@[simp] theorem State.answered_restartPending (s : State) (m : Message) : (s.answered m).restartPending = s.restartPending := rfl
@[simp] theorem State.answered_evc (s : State) (m : Message) : (s.answered m).evc = s.evc := rfl
@[simp] theorem State.answered_resetHeld (s : State) (m : Message) : (s.answered m).resetHeld = s.resetHeld := rfl
@[simp] theorem State.answered_freeCount (s : State) (m : Message) : (s.answered m).freeCount = s.freeCount := rfl
@[simp] theorem State.answered_pending (s : State) (m : Message) : (s.answered m).pending = s.pending := rfl
@[simp] theorem State.answered_fli_rank (s : State) (m : Message) : (s.answered m).fli.rank = s.fli.rank := rfl
@[simp] theorem State.answered_fli_notices (s : State) (m : Message) : (s.answered m).fli.notices = s.fli.notices := rfl
@[simp] theorem State.answered_fli_transmitter (s : State) (m : Message) : (s.answered m).fli.transmitter = s.fli.transmitter := rfl
@[simp] theorem State.answered_fli_engine (s : State) (m : Message) : (s.answered m).fli.engine = s.fli.engine := rfl
@[simp] theorem State.answered_fli_txOverflow (s : State) (m : Message) : (s.answered m).fli.txOverflow = s.fli.txOverflow := rfl
@[simp] theorem State.answered_fli_stopDrive (s : State) (m : Message) : (s.answered m).fli.stopDrive = s.fli.stopDrive := rfl
@[simp] theorem State.answered_fli_idleCount (s : State) (m : Message) : (s.answered m).fli.idleCount = s.fli.idleCount := rfl
@[simp] theorem State.answered_fli_runLength (s : State) (m : Message) : (s.answered m).fli.runLength = s.fli.runLength := rfl
@[simp] theorem State.answered_fli_messages (s : State) (m : Message) :
    (s.answered m).fli.messages = s.fli.messages ++ [{ message := m, restart := false }] := rfl

/-! ### A stale mark changes the transmitter alone (R61, R71) -/

@[simp] theorem State.markStale_cfg (s : State) (p : Notice → Bool) : (s.markStale p).cfg = s.cfg := rfl
@[simp] theorem State.markStale_cyc (s : State) (p : Notice → Bool) : (s.markStale p).cyc = s.cyc := rfl
@[simp] theorem State.markStale_sst (s : State) (p : Notice → Bool) : (s.markStale p).sst = s.sst := rfl
@[simp] theorem State.markStale_fcu (s : State) (p : Notice → Bool) : (s.markStale p).fcu = s.fcu := rfl
@[simp] theorem State.markStale_mot (s : State) (p : Notice → Bool) : (s.markStale p).mot = s.mot := rfl
@[simp] theorem State.markStale_frc (s : State) (p : Notice → Bool) : (s.markStale p).frc = s.frc := rfl
@[simp] theorem State.markStale_tbu (s : State) (p : Notice → Bool) : (s.markStale p).tbu = s.tbu := rfl
@[simp] theorem State.markStale_img (s : State) (p : Notice → Bool) : (s.markStale p).img = s.img := rfl
@[simp] theorem State.markStale_mea (s : State) (p : Notice → Bool) : (s.markStale p).mea = s.mea := rfl
@[simp] theorem State.markStale_restartPending (s : State) (p : Notice → Bool) : (s.markStale p).restartPending = s.restartPending := rfl
@[simp] theorem State.markStale_evc (s : State) (p : Notice → Bool) : (s.markStale p).evc = s.evc := rfl
@[simp] theorem State.markStale_resetHeld (s : State) (p : Notice → Bool) : (s.markStale p).resetHeld = s.resetHeld := rfl
@[simp] theorem State.markStale_freeCount (s : State) (p : Notice → Bool) : (s.markStale p).freeCount = s.freeCount := rfl
@[simp] theorem State.markStale_pending (s : State) (p : Notice → Bool) : (s.markStale p).pending = s.pending := rfl

/-! ### The uncounted removal of a queued CLAIM (R61) -/

@[simp] theorem State.removeClaim_cfg (s : State) : s.removeClaim.cfg = s.cfg := rfl
@[simp] theorem State.removeClaim_cyc (s : State) : s.removeClaim.cyc = s.cyc := rfl
@[simp] theorem State.removeClaim_sst (s : State) : s.removeClaim.sst = s.sst := rfl
@[simp] theorem State.removeClaim_fcu (s : State) : s.removeClaim.fcu = s.fcu := rfl
@[simp] theorem State.removeClaim_mot (s : State) : s.removeClaim.mot = s.mot := rfl
@[simp] theorem State.removeClaim_frc (s : State) : s.removeClaim.frc = s.frc := rfl
@[simp] theorem State.removeClaim_tbu (s : State) : s.removeClaim.tbu = s.tbu := rfl
@[simp] theorem State.removeClaim_img (s : State) : s.removeClaim.img = s.img := rfl
@[simp] theorem State.removeClaim_mea (s : State) : s.removeClaim.mea = s.mea := rfl
@[simp] theorem State.removeClaim_restartPending (s : State) : s.removeClaim.restartPending = s.restartPending := rfl
@[simp] theorem State.removeClaim_evc (s : State) : s.removeClaim.evc = s.evc := rfl
@[simp] theorem State.removeClaim_resetHeld (s : State) : s.removeClaim.resetHeld = s.resetHeld := rfl
@[simp] theorem State.removeClaim_freeCount (s : State) : s.removeClaim.freeCount = s.freeCount := rfl
@[simp] theorem State.removeClaim_pending (s : State) : s.removeClaim.pending = s.pending := rfl

/-! ### The uncounted removal of a queued HOLDOFF (R73) -/

@[simp] theorem State.removeHoldoff_cfg (s : State) : s.removeHoldoff.cfg = s.cfg := rfl
@[simp] theorem State.removeHoldoff_cyc (s : State) : s.removeHoldoff.cyc = s.cyc := rfl
@[simp] theorem State.removeHoldoff_sst (s : State) : s.removeHoldoff.sst = s.sst := rfl
@[simp] theorem State.removeHoldoff_fcu (s : State) : s.removeHoldoff.fcu = s.fcu := rfl
@[simp] theorem State.removeHoldoff_mot (s : State) : s.removeHoldoff.mot = s.mot := rfl
@[simp] theorem State.removeHoldoff_frc (s : State) : s.removeHoldoff.frc = s.frc := rfl
@[simp] theorem State.removeHoldoff_tbu (s : State) : s.removeHoldoff.tbu = s.tbu := rfl
@[simp] theorem State.removeHoldoff_img (s : State) : s.removeHoldoff.img = s.img := rfl
@[simp] theorem State.removeHoldoff_mea (s : State) : s.removeHoldoff.mea = s.mea := rfl
@[simp] theorem State.removeHoldoff_restartPending (s : State) : s.removeHoldoff.restartPending = s.restartPending := rfl
@[simp] theorem State.removeHoldoff_evc (s : State) : s.removeHoldoff.evc = s.evc := rfl
@[simp] theorem State.removeHoldoff_resetHeld (s : State) : s.removeHoldoff.resetHeld = s.resetHeld := rfl
@[simp] theorem State.removeHoldoff_freeCount (s : State) : s.removeHoldoff.freeCount = s.freeCount := rfl
@[simp] theorem State.removeHoldoff_pending (s : State) : s.removeHoldoff.pending = s.pending := rfl

/-! ### Steps -/

@[simp] theorem step_cons (s : State) (c : Instr) (rest : List Instr) :
    step { s with pending := c :: rest } = exec c { s with pending := rest } := rfl

/-- While RESET_N is released an effect is taken; while it is held nothing is. -/
theorem State.act_live {s : State} (h : s.resetHeld = false) (f : State → State) : s.act f = .next (f s) := by
  simp [State.act, h]

theorem State.act_held {s : State} (h : s.resetHeld = true) (f : State → State) : s.act f = .next s := by
  simp [State.act, h]

end Sys2Proof.Machine
end

