-- ==== Sys2Proof/Laws/Coordination.lean ====
section
/-!
SUPPORT. What the operations of the Frame Coordination Unit can do: deadlines, the view, the permit test, need and claim reports, the
recheck and doubt.
-/

namespace Sys2Proof.Machine

/-! ### Deadlines (R52) -/

theorem due_reached {d : Deadline} {t : Time} (h : d.interval ≤ (t - d.setAt).toNat) : due (some d) t = true := by
  simp only [due, Deadline.reached, elapsed]
  exact decide_eq_true h

theorem due_early {d : Deadline} {t : Time} (h : (t - d.setAt).toNat < d.interval) : due (some d) t = false := by
  simp only [due, Deadline.reached, elapsed]
  exact decide_eq_false (Nat.not_le.mpr h)

/-! ### The view (R62) -/

theorem liveClaim_iff {view : List ViewEntry} {k : ClaimKind} :
    liveClaim view k = true ↔ ∃ v ∈ view, ∃ m, v.claim = some m ∧ m.kind = k := by
  simp only [liveClaim, List.any_eq_true]
  constructor <;> rintro ⟨v, h, g⟩ <;> refine ⟨v, h, ?_⟩
  · split at g
    · rename_i m hm
      exact ⟨m, hm, by simpa using g⟩
    · simp at g
  · obtain ⟨m, hm, hk⟩ := g
    simp [hm, hk]

theorem liveHoldoff_iff {view : List ViewEntry} {k : ClaimKind} :
    liveHoldoff view k = true ↔ ∃ v ∈ view, ∃ m, v.holdoff = some m ∧ m.kind = k := by
  simp only [liveHoldoff, List.any_eq_true]
  constructor <;> rintro ⟨v, h, g⟩ <;> refine ⟨v, h, ?_⟩
  · split at g
    · rename_i m hm
      exact ⟨m, hm, by simpa using g⟩
    · simp at g
  · obtain ⟨m, hm, hk⟩ := g
    simp [hm, hk]

theorem liveClaim_false {view : List ViewEntry} {k : ClaimKind}
    (h : ∀ v ∈ view, ∀ m, v.claim = some m → m.kind = k.opposite) : liveClaim view k = false := by
  rw [Bool.eq_false_iff]
  intro hl
  obtain ⟨v, hv, m, hm, hk⟩ := liveClaim_iff.mp hl
  rw [h v hv m hm] at hk
  cases k <;> simp [ClaimKind.opposite] at hk

theorem liveHoldoff_false {view : List ViewEntry} {k : ClaimKind}
    (h : ∀ v ∈ view, ∀ m, v.holdoff = some m → m.kind = k.opposite) : liveHoldoff view k = false := by
  rw [Bool.eq_false_iff]
  intro hl
  obtain ⟨v, hv, m, hm, hk⟩ := liveHoldoff_iff.mp hl
  rw [h v hv m hm] at hk
  cases k <;> simp [ClaimKind.opposite] at hk

@[simp] theorem ClaimKind.opposite_opposite (k : ClaimKind) : k.opposite.opposite = k := by cases k <;> rfl

/-! ### The permit test (R55) -/

theorem State.permitTest_no_need {s : State} (h : s.fcu.need = none) : s.permitTest = s := by
  simp [State.permitTest, h]

theorem State.permitTest_claimed {s : State} (h : s.fcu.claim ≠ .none) : s.permitTest = s := by
  unfold State.permitTest
  split <;> simp [h]

theorem State.permitTest_passes {s : State} {n : Need} (hn : s.fcu.need = some n) (hc : s.fcu.claim = .none)
    (hf : s.fcu.firstFailure n.kind = none) :
    s.permitTest =
      { s with
        fcu.claim := .pending n.kind, fcu.block := none
        fli.notices := placeNotice (.claim n.kind) s.fli.notices } := by
  simp only [State.permitTest, hn, hc, if_true]
  split
  · simp [State.queueNotice]
  · rename_i c h
    rw [hf] at h
    cases h

theorem State.permitTest_fails {s : State} {n : Need} {c : BlockCause} (hn : s.fcu.need = some n)
    (hc : s.fcu.claim = .none) (hf : s.fcu.firstFailure n.kind = some c) : s.permitTest = (s.blockOn c).tryHoldoff := by
  simp only [State.permitTest, hn, hc, if_true]
  split
  · rename_i h
    rw [hf] at h
    cases h
  · rename_i c' h
    rw [hf] at h
    cases h
    rfl

/-- The four conditions of the permit test hold. -/
theorem Fcu.firstFailure_none {f : Fcu} {k : ClaimKind} (h1 : f.state = .active) (h2 : f.doubtUntil = none)
    (h3 : ∀ v ∈ f.view, ∀ m, v.claim = some m → m.kind = k) (h4 : ∀ v ∈ f.view, ∀ m, v.holdoff = some m → m.kind = k) :
    f.firstFailure k = none := by
  have a : liveClaim f.view k.opposite = false := liveClaim_false (by simpa using h3)
  have b : liveHoldoff f.view k.opposite = false := liveHoldoff_false (by simpa using h4)
  simp [Fcu.firstFailure, h1, Fcu.inDoubt, h2, a, b]

/-- No holdoff is tried before the need has waited out the patience (R71). -/
theorem State.tryHoldoff_early {s : State} {n : Need} (hn : s.fcu.need = some n)
    (hp : (s.tbu.stationTime - n.since).toNat < s.cfg.patience) : s.tryHoldoff = s := by
  have h : s.holdoffAllowed n = false := by
    have : decide (s.cfg.patience ≤ elapsed n.since s.now) = false := decide_eq_false (Nat.not_le.mpr hp)
    simp only [State.holdoffAllowed, this, Bool.false_and]
  simp [State.tryHoldoff, hn, h]

/-! ### Operations that touch Frame Coordination alone -/

/-- `t` is `s` but for the coordination record, the notice queue, the transmitter's mark and the counters; an empty transmitter stays
empty. -/
def OnlyCoordination (s t : State) : Prop :=
  ∃ fcu notices transmitter evc,
    t = { s with fcu := fcu, fli := { s.fli with notices := notices, transmitter := transmitter }, evc := evc } ∧
    (s.fli.transmitter = none → transmitter = none)

theorem OnlyCoordination.same (s : State) : OnlyCoordination s s := ⟨_, _, _, _, rfl, id⟩

theorem OnlyCoordination.trans {s t u : State} (h : OnlyCoordination s t) (g : OnlyCoordination t u) :
    OnlyCoordination s u := by
  obtain ⟨a, b, c, d, rfl, e⟩ := h
  obtain ⟨a', b', c', d', rfl, e'⟩ := g
  exact ⟨a', b', c', d', rfl, fun x => e' (e x)⟩

theorem OnlyCoordination.of_fcu (s : State) (f : Fcu) : OnlyCoordination s { s with fcu := f } := ⟨f, _, _, _, rfl, id⟩

theorem OnlyCoordination.signal (s : State) (k : EventKind) (b : BitVec 20) : OnlyCoordination s (s.signal k b) :=
  ⟨_, _, _, _, rfl, id⟩

theorem OnlyCoordination.queueNotice (s : State) (n : Notice) : OnlyCoordination s (s.queueNotice n) := ⟨_, _, _, _, rfl, id⟩

theorem OnlyCoordination.markStale (s : State) (p : Notice → Bool) : OnlyCoordination s (s.markStale p) :=
  ⟨_, _, _, _, rfl, fun h => by simp [h]⟩

theorem OnlyCoordination.removeClaim (s : State) : OnlyCoordination s s.removeClaim := ⟨_, _, _, _, rfl, id⟩

theorem OnlyCoordination.removeHoldoff (s : State) : OnlyCoordination s s.removeHoldoff := ⟨_, _, _, _, rfl, id⟩

theorem OnlyCoordination.withdrawClaim (s : State) : OnlyCoordination s s.withdrawClaim := by
  unfold State.withdrawClaim
  split
  · exact (OnlyCoordination.removeClaim s).trans (.signal _ _ _)
  · exact .same s

theorem OnlyCoordination.withdrawHoldoff (s : State) : OnlyCoordination s s.withdrawHoldoff := by
  unfold State.withdrawHoldoff
  split
  · exact (OnlyCoordination.removeHoldoff s).trans (.signal _ _ _)
  · exact .same s

theorem OnlyCoordination.blockOn (s : State) (c : BlockCause) : OnlyCoordination s (s.blockOn c) := by
  unfold State.blockOn
  split
  · exact .same s
  · exact (OnlyCoordination.of_fcu s _).trans (.signal _ _ _)

theorem OnlyCoordination.tryHoldoff (s : State) : OnlyCoordination s s.tryHoldoff := by
  unfold State.tryHoldoff
  split
  · split
    · exact (OnlyCoordination.of_fcu s _).trans (.queueNotice _ _)
    · exact .same s
  · exact .same s

theorem OnlyCoordination.permitTest (s : State) : OnlyCoordination s s.permitTest := by
  unfold State.permitTest
  split
  · split
    · split
      · exact (OnlyCoordination.of_fcu s _).trans (.queueNotice _ _)
      · exact (OnlyCoordination.blockOn s _).trans (.tryHoldoff _)
    · exact .same s
  · exact .same s

theorem OnlyCoordination.setNeed (s : State) (k : ClaimKind) : OnlyCoordination s (s.setNeed k) :=
  (OnlyCoordination.of_fcu s _).trans (.permitTest _)

theorem OnlyCoordination.recheckPending (s : State) : OnlyCoordination s s.recheckPending := by
  unfold State.recheckPending
  split
  · split
    · exact ((OnlyCoordination.withdrawClaim s).trans (.of_fcu _ _)).trans (.permitTest _)
    · exact .same s
  · exact .same s

theorem OnlyCoordination.dropQueuedHoldoff (s : State) : OnlyCoordination s s.dropQueuedHoldoff := by
  unfold State.dropQueuedHoldoff
  split
  · exact ((OnlyCoordination.withdrawHoldoff s).trans (.markStale _ _)).trans (.of_fcu _ _)
  · exact .same s

theorem OnlyCoordination.endHoldoff (s : State) : OnlyCoordination s s.endHoldoff := by
  unfold State.endHoldoff
  split
  · exact .same s
  · exact ((OnlyCoordination.withdrawHoldoff s).trans (.markStale _ _)).trans (.of_fcu _ _)

theorem OnlyCoordination.withdrawPending (s : State) : OnlyCoordination s s.withdrawPending := by
  unfold State.withdrawPending
  split
  · split
    · exact (OnlyCoordination.withdrawClaim s).trans (.of_fcu _ _)
    · exact .same s
  · exact .same s

theorem OnlyCoordination.clearNeed (s : State) : OnlyCoordination s s.clearNeed :=
  ((OnlyCoordination.of_fcu s _).trans (.endHoldoff _)).trans (.withdrawPending _)

theorem OnlyCoordination.release (s : State) : OnlyCoordination s s.release := by
  unfold State.release
  split
  · exact ((((OnlyCoordination.removeClaim s).trans (.markStale _ _)).trans (.of_fcu _ _)).trans
      (.queueNotice _ _)).trans (.permitTest _)
  · exact .same s

theorem OnlyCoordination.blockNeed (s : State) : OnlyCoordination s s.blockNeed := by
  unfold State.blockNeed
  split
  · exact .blockOn s _
  · exact .same s

theorem OnlyCoordination.beginDoubt (s : State) : OnlyCoordination s s.beginDoubt := by
  unfold State.beginDoubt
  split
  · exact (((OnlyCoordination.of_fcu s _).trans (.recheckPending _)).trans (.dropQueuedHoldoff _)).trans (.blockNeed _)
  · exact .same s

/-! ### Need and claim reports (R54, R61) -/

/-- A release with no need set: the claim is NONE and RELEASE is queued. -/
theorem State.release_held {s : State} {k : ClaimKind} (hc : s.fcu.claim = .held k) (hn : s.fcu.need = none) :
    s.release =
      { s with
        fcu.claim := .none, fcu.claimRefresh := none, fcu.collided := []
        fli := s.fli.released k } := by
  unfold State.release
  rw [hc]
  exact State.permitTest_no_need hn

theorem State.release_none {s : State} (h : ∀ k, s.fcu.claim ≠ .held k) : s.release = s := by
  unfold State.release
  split
  · rename_i k hk
    exact absurd hk (h k)
  · rfl

/-- To clear a need where nothing waits changes nothing. -/
theorem State.clearNeed_idle {s : State} (hn : s.fcu.need = none) (hb : s.fcu.block = none) (hh : s.fcu.holdoff = .none)
    (hc : ∀ k, s.fcu.claim ≠ .pending k) : s.clearNeed = s := by
  have e : ({ s with fcu.need := none, fcu.block := none } : State) = s := by
    obtain ⟨cfg, cyc, sst, fcu, fli, mot, frc, tbu, img, mea⟩ := s
    obtain ⟨f1, f2, f3, f4, f5, f6⟩ := fcu
    simp only at hn hb
    simp [hn, hb]
  unfold State.clearNeed
  rw [e]
  have e2 : s.endHoldoff = s := by simp [State.endHoldoff, hh]
  rw [e2]
  unfold State.withdrawPending
  split
  · rename_i k hk
    exact absurd hk (hc k)
  · rfl

/-- To clear a need leaves a HELD claim, and no need (R54). -/
theorem State.clearNeed_held {s : State} {k : ClaimKind} (hc : s.fcu.claim = .held k) :
    s.clearNeed.fcu.claim = .held k ∧ s.clearNeed.fcu.need = none := by
  have h1 : ∀ u : State, u.endHoldoff.fcu.claim = u.fcu.claim ∧ u.endHoldoff.fcu.need = u.fcu.need := by
    intro u
    unfold State.endHoldoff
    split
    · exact ⟨rfl, rfl⟩
    · have h2 : u.withdrawHoldoff.fcu = u.fcu := by
        unfold State.withdrawHoldoff
        split <;> rfl
      simp [h2]
  obtain ⟨a, b⟩ := h1 { s with fcu.need := none, fcu.block := none }
  have e : s.clearNeed = ({ s with fcu.need := none, fcu.block := none } : State).endHoldoff := by
    unfold State.clearNeed State.withdrawPending
    rw [a]
    simp only [hc]
  rw [e]
  exact ⟨a.trans hc, b⟩

/-- Doubt with nothing to settle sets doubt-until alone (R70). -/
theorem State.beginDoubt_quiet {s : State} (hq : s.fcu.quietState) (hs : s.fcu.state = .listenIn ∨ s.fcu.state = .active) :
    s.beginDoubt = { s with fcu.doubtUntil := some (s.ahead s.cfg.doubtInterval) } := by
  obtain ⟨hn, hc, hh, hb⟩ := hq
  have e1 : ({ s with fcu.doubtUntil := some (s.ahead s.cfg.doubtInterval) } : State).recheckPending
      = { s with fcu.doubtUntil := some (s.ahead s.cfg.doubtInterval) } := by
    simp only [State.recheckPending, hc]
  have e2 : ({ s with fcu.doubtUntil := some (s.ahead s.cfg.doubtInterval) } : State).dropQueuedHoldoff
      = { s with fcu.doubtUntil := some (s.ahead s.cfg.doubtInterval) } := by
    simp only [State.dropQueuedHoldoff, hh]
  unfold State.beginDoubt
  rw [if_pos hs, e1, e2]
  simp only [State.blockNeed, hn]

theorem State.beginDoubt_silent {s : State} (hs : s.fcu.state = .inactive ∨ s.fcu.state = .halted) : s.beginDoubt = s := by
  unfold State.beginDoubt
  rw [if_neg]
  rcases hs with h | h <;> simp [h]

/-! ### The notice queue (R56) -/

/-- A notice that is not queued joins the tail. -/
theorem placeNotice_new {n : Notice} {queue : List Notice} (h : ∀ q ∈ queue, n.sameKind q = false) :
    placeNotice n queue = queue ++ [n] := by
  unfold placeNotice
  rw [if_neg]
  simpa using h

/-- The queue keeps one notice of a kind. -/
theorem placeNotice_distinct {n : Notice} {queue : List Notice} (h : distinctNotices queue) :
    distinctNotices (placeNotice n queue) := by
  have symm : ∀ a b : Notice, a.sameKind b = b.sameKind a := by
    intro a b
    cases a <;> cases b <;> rfl
  have swap : ∀ a b c : Notice, a.sameKind b = true → a.sameKind c = b.sameKind c := by
    intro a b c
    cases a <;> cases b <;> cases c <;> simp [Notice.sameKind]
  unfold placeNotice
  split
  · unfold distinctNotices at *
    rw [List.pairwise_map]
    refine h.imp ?_
    intro a b hab
    by_cases ha : n.sameKind a = true <;> by_cases hb : n.sameKind b = true
    · rw [swap n a b ha] at hb
      rw [hab] at hb
      cases hb
    · simp only [ha, hb, if_true]
      simpa using hb
    · simp only [ha, hb, if_true]
      rw [symm]
      simpa using ha
    · simp only [ha, hb]
      exact hab
  · rename_i hno
    unfold distinctNotices at *
    rw [List.pairwise_append]
    refine ⟨h, List.pairwise_singleton _ _, ?_⟩
    intro a ha b hb
    rw [List.mem_singleton] at hb
    subst hb
    rw [symm]
    simp only [List.any_eq_true, not_exists, not_and, Bool.not_eq_true] at hno
    exact hno a ha

/-! ### A cleared need and an ended holdoff, as the claims say them (R54, R58) -/

theorem State.withdrawClaim_of (s : State) : s.withdrawClaim = s.withdrawnOf Notice.isClaim 0 := rfl

theorem State.withdrawHoldoff_of (s : State) : s.withdrawHoldoff = s.withdrawnOf Notice.isHoldoff 1 := rfl

@[simp] theorem State.withdrawnOf_fcu (s : State) (p : Notice → Bool) (n : Nat) : (s.withdrawnOf p n).fcu = s.fcu := by
  unfold State.withdrawnOf
  split <;> rfl

@[simp] theorem State.withdrawnOf_transmitter (s : State) (p : Notice → Bool) (n : Nat) :
    (s.withdrawnOf p n).fli.transmitter = s.fli.transmitter := by
  unfold State.withdrawnOf
  split <;> rfl

/-- The end of the own holdoff. -/
theorem State.endHoldoff_over (s : State) : s.endHoldoff = s.holdoffOver := by
  unfold State.endHoldoff State.holdoffOver
  split
  · next h => simp [h]
  · next h => rw [if_neg h]; simp [State.markStale, State.withdrawHoldoff_of]

/-- The clearing of a need. -/
theorem State.clearNeed_cleared (s : State) : s.clearNeed = s.needCleared := by
  unfold State.clearNeed State.needCleared
  rw [State.endHoldoff_over]
  rfl

/-! ### A blocked need (R55, R71) -/

@[simp] theorem State.blockOn_fcu (s : State) (c : BlockCause) : (s.blockOn c).fcu = { s.fcu with block := some c } := by
  unfold State.blockOn
  split
  · rename_i h
    cases hf : s.fcu
    simp_all
  · rfl

@[simp] theorem State.blockOn_cfg (s : State) (c : BlockCause) : (s.blockOn c).cfg = s.cfg := by
  unfold State.blockOn; split <;> rfl

@[simp] theorem State.blockOn_tbu (s : State) (c : BlockCause) : (s.blockOn c).tbu = s.tbu := by
  unfold State.blockOn; split <;> rfl

@[simp] theorem State.blockOn_fli (s : State) (c : BlockCause) : (s.blockOn c).fli = s.fli := by
  unfold State.blockOn; split <;> rfl

@[simp] theorem State.blockOn_holdoffAllowed (s : State) (c : BlockCause) (n : Need) :
    (s.blockOn c).holdoffAllowed n = s.holdoffAllowed n := by
  simp only [State.holdoffAllowed, State.blockOn_fcu, State.blockOn_cfg, State.now, State.blockOn_tbu, Fcu.inDoubt]
  rfl

/-- A blocked need that may not hold off leaves only its block episode. -/
theorem State.blockOn_tryHoldoff_barred {s : State} {n : Need} (c : BlockCause) (hn : s.fcu.need = some n)
    (h : s.holdoffAllowed n = false) : (s.blockOn c).tryHoldoff = s.blockOn c := by
  unfold State.tryHoldoff
  simp [hn, h]

/-- A blocked need that may hold off queues its HOLDOFF at the same event. -/
theorem State.blockOn_tryHoldoff_queued {s : State} {n : Need} (c : BlockCause) (hn : s.fcu.need = some n)
    (h : s.holdoffAllowed n = true) :
    (s.blockOn c).tryHoldoff =
      { s.blockOn c with
        fcu := { s.fcu with block := some c, holdoff := .queued n.kind }
        fli.notices := placeNotice (.holdoff n.kind) s.fli.notices } := by
  unfold State.tryHoldoff
  simp [hn, h, State.queueNotice]

/-- The permit test passes where nothing of another kind is live in the view (R55). -/
theorem Fcu.firstFailure_unopposed {f : Fcu} {k : ClaimKind} (h1 : f.state = .active) (h2 : f.doubtUntil = none)
    (h3 : ∀ v ∈ f.view, (∀ m, v.claim = some m → m.kind = k) ∧ ∀ m, v.holdoff = some m → m.kind = k) :
    f.firstFailure k = none := by
  have hc : liveClaim f.view k.opposite = false := by
    rw [← Bool.not_eq_true, liveClaim_iff]
    rintro ⟨v, hv, m, hm, hk⟩
    rw [(h3 v hv).1 m hm] at hk
    cases k <;> cases hk
  have hh : liveHoldoff f.view k.opposite = false := by
    rw [← Bool.not_eq_true, liveHoldoff_iff]
    rintro ⟨v, hv, m, hm, hk⟩
    rw [(h3 v hv).2 m hm] at hk
    cases k <;> cases hk
  simp [Fcu.firstFailure, h1, h2, Fcu.inDoubt, hc, hh]

/-! ### The sweep of the view (R68, R174) -/

/-- An EXPIRY counter counts the qualifiers its mask names (R174). -/
theorem Counter.matches_expiry (c : Counter) (n : Nat) (hn : n < 20) :
    c.matches .expiry (qualifierBit n) = (c.kind == .expiry && c.mask.getLsbD n) := by
  have : (c.mask &&& qualifierBit n != 0) = c.mask.getLsbD n := by
    rcases hb : c.mask.getLsbD n
    · have : c.mask &&& qualifierBit n = 0 := by
        ext i hi
        by_cases h : i = n
        · subst h; simp [← BitVec.getLsbD_eq_getElem, hb]
        · simp [qualifierBit]
          intro _; omega
      simp [this]
    · have : c.mask &&& qualifierBit n ≠ 0 := by
        intro h
        have := congrArg (fun b => b.getLsbD n) h
        simp [qualifierBit, hb] at this; omega
      simpa using this
  rw [← this]; simp [Counter.matches, EventKind.qualified]

/-- A counter after `claims` lapsed claims and `holdoffs` lapsed holdoffs have been signalled (R68, R174). -/
def Counter.lapsesCounted (claims holdoffs : Nat) (c : Counter) : Counter :=
  if c.kind = .expiry then
    { c with
      value := min (c.value + (if c.mask.getLsbD 0 then claims else 0) + (if c.mask.getLsbD 1 then holdoffs else 0))
        4294967295 }
  else c

/-- What one view entry's lapses do: they count, and nothing else. -/
theorem State.signalLapses_evc (s : State) (now : Time) (v : ViewEntry) (hb : ∀ c ∈ s.evc, c.value ≤ 4294967295) :
    s.signalLapses now v = { s with
      evc := s.evc.map (Counter.lapsesCounted (lapsed v.claim now).toNat (lapsed v.holdoff now).toNat) } := by
  have key : ∀ (l : List Counter) (f g : Counter → Counter), (∀ c ∈ l, f c = g c) → l.map f = l.map g :=
    fun l f g h => List.map_congr_left h
  unfold State.signalLapses
  have hid : s = { s with evc := s.evc.map id } := by simp
  cases h1 : lapsed v.claim now <;> cases h3 : lapsed v.holdoff now <;> simp only [State.signal, List.map_map, if_true, Bool.false_eq_true, if_false]
  · conv_lhs => rw [hid]
    congr 1
    apply key
    intro c hc
    have := hb c hc
    unfold Counter.lapsesCounted
    split
    · cases c; simp at *; omega
    · rfl
  all_goals
    congr 1
    apply key
    intro c hc
    have := hb c hc
    obtain ⟨k, m, v⟩ := c
    by_cases hk : k = .expiry
    · subst hk
      simp only [Function.comp, Counter.count, Counter.lapsesCounted, Counter.matches_expiry _ 0 (by decide),
        Counter.matches_expiry _ 1 (by decide)]
      have hv : v ≤ 4294967295 := this
      cases m.getLsbD 0 <;> cases hq : m.getLsbD 1 <;>
        simp [hq, -BitVec.getLsbD_eq_getElem] <;> omega
    · simp [Counter.count, Counter.lapsesCounted, Counter.matches, hk]

theorem Counter.lapsesCounted_le (a b : Nat) {c : Counter} (h : c.value ≤ 4294967295) :
    (c.lapsesCounted a b).value ≤ 4294967295 := by
  unfold Counter.lapsesCounted; split
  · exact Nat.min_le_right _ _
  · exact h

theorem Counter.lapsesCounted_add (a b a' b' : Nat) (c : Counter) :
    (c.lapsesCounted a b).lapsesCounted a' b' = c.lapsesCounted (a + a') (b + b') := by
  obtain ⟨k, m, v⟩ := c
  by_cases hk : k = .expiry
  · subst hk
    simp only [Counter.lapsesCounted, if_true]
    generalize m.getLsbD 0 = p
    generalize m.getLsbD 1 = q
    cases p <;> cases q <;> simp <;> omega
  · simp [Counter.lapsesCounted, hk]

theorem Counter.lapsesCounted_zero {c : Counter} (h : c.value ≤ 4294967295) : c.lapsesCounted 0 0 = c := by
  obtain ⟨k, m, v⟩ := c
  simp only [Counter.lapsesCounted, ite_self, Nat.add_zero]
  split <;> simp_all

/-- What the lapses of a whole view do. -/
theorem State.signalLapses_fold (now : Time) (view : List ViewEntry) (s : State) (hb : ∀ c ∈ s.evc, c.value ≤ 4294967295) :
    view.foldl (fun acc v => acc.signalLapses now v) s =
      { s with
        evc := s.evc.map (Counter.lapsesCounted (view.filter fun v => lapsed v.claim now).length
          (view.filter fun v => lapsed v.holdoff now).length) } := by
  induction view generalizing s with
  | nil =>
    have : s.evc.map (Counter.lapsesCounted 0 0) = s.evc := by
      rw [List.map_congr_left fun c hc => Counter.lapsesCounted_zero (hb c hc), List.map_id']
    simp [this]
  | cons v rest ih =>
    rw [List.foldl_cons, s.signalLapses_evc now v hb, ih]
    · simp only [List.map_map]
      congr 2
      funext c
      simp only [Function.comp, Counter.lapsesCounted_add]
      cases h1 : lapsed v.claim now <;> cases h2 : lapsed v.holdoff now <;> simp [h1, h2, Nat.add_comm]
    · intro c hc
      obtain ⟨d, hd, rfl⟩ := List.mem_map.mp hc
      exact Counter.lapsesCounted_le _ _ (hb d hd)

/-- What the tick's look at the view does, whole: the counts and the marks. -/
theorem State.expireView_counted {s : State} (hb : ∀ c ∈ s.evc, c.value ≤ 4294967295) :
    s.expireView =
      { s with
        evc := s.evc.map (Counter.lapsesCounted (s.fcu.view.filter fun v => lapsed v.claim s.now).length
          (s.fcu.view.filter fun v => lapsed v.holdoff s.now).length)
        fcu.view := s.fcu.view.map (ViewEntry.expire s.now) } := by
  rw [State.expireView, State.signalLapses_fold _ _ _ hb]

end Sys2Proof.Machine
end

