-- ==== Sys2Proof/Laws/Requests.lean ====
section
/-!
SUPPORT. What the taking of a request can do: the destination, the decoding, the owner and the answer.
-/

namespace Sys2Proof.Machine

/-- An own destination is not the broadcast address. -/
theorem State.own_ne_broadcast {s : State} {d : BitVec 4} (hl : s.live) (h : s.own d) : d ≠ 15#4 := by
  intro e
  subst e
  obtain ⟨_, _, h3⟩ := hl
  simp [State.own] at h
  omega

/-- A request to the station or to all is handled (R86). -/
theorem State.takeRequest_taken {s : State} {d : BitVec 4} (hl : s.live) (h : s.own d ∨ d = 15#4) (k : Byte) (p : List Byte) :
    s.takeRequest d k p = s.handleRequest d k p := by
  obtain ⟨_, h2, h3⟩ := hl
  have hd : ¬(8 ≤ d.toNat ∧ d.toNat ≤ 14) := by
    rcases h with h | h
    · simp [State.own] at h
      omega
    · subst h
      decide
  have ha : s.addressed d = true := by
    rcases h with h | h
    · simp [State.own] at h
      simp [State.addressed, h]
      omega
    · subst h
      simp [State.addressed]
      omega
  simp [State.takeRequest, hd, ha]

/-- A message finds room (R84). -/
theorem State.send_room {s : State} (h : s.hasMessageRoom 1) (m : Message) : s.send m = s.answered m := by
  have hf : ¬(8 ≤ s.fli.messages.length) := by
    simp [State.hasMessageRoom] at h
    omega
  simp [State.send, State.queueMessage, State.messageQueueFull, hf, State.answered]

theorem State.reply_room {s : State} (h : s.hasMessageRoom 1) (t k : Byte) (c : ReplyCode) :
    s.reply t k c = s.replied t k c := State.send_room h _

/-- A message that finds no room is dropped, counted and marked (R84). -/
theorem State.send_full {s : State} (h : 8 ≤ s.fli.messages.length) (m : Message) :
    s.send m = { s with fli.txOverflow := true }.linkError 5 := by
  simp [State.send, State.queueMessage, State.messageQueueFull, h]

/-- A message sent is placed or dropped, as the claims say it (R84). -/
theorem State.send_placed (s : State) (m : Message) : s.send m = s.placed m := by
  by_cases h : s.hasMessageRoom 1
  · simp only [State.placed, if_pos h, State.send_room h m]
  · have hf : 8 ≤ s.fli.messages.length := by
      simp only [State.hasMessageRoom] at h
      omega
    simp only [State.placed, if_neg h, State.send_full hf m, State.linkError]

theorem State.placed_room {s : State} (h : s.hasMessageRoom 1) (m : Message) : s.placed m = s.answered m := if_pos h

/-- A request to the station's own rank reaches its owner. -/
theorem State.direct_own {s : State} {d : BitVec 4} (hl : s.live) (h : s.own d) (t k : Byte) (r : Request) :
    s.direct d t k r = s.answer t k r := by
  simp [State.direct, State.own_ne_broadcast hl h]

/-- A request of a broadcast kind reaches its owner whatever its destination (R167). -/
theorem State.direct_broadcast {s : State} {d : BitVec 4} (t k : Byte) {r : Request} (hb : r.broadcast = true) :
    s.direct d t k r = s.answer t k r := by
  simp [State.direct, hb]

theorem State.handleRequest_decoded {s : State} {d : BitVec 4} {k : Byte} {p : List Byte} {r : Request}
    (h : decodeRequest k p = .request r) : s.handleRequest d k p = s.direct d (requestTag p) k r := by
  simp [State.handleRequest, h]

theorem State.handleRequest_refused {s : State} {d : BitVec 4} {k : Byte} {p : List Byte} {c : ReplyCode}
    (h : decodeRequest k p = .refusal c) : s.handleRequest d k p = s.reply (requestTag p) k c := by
  simp [State.handleRequest, h]

/-- The site id of a three-byte request. -/
theorem fieldNat_site (tag hi lo : Byte) : fieldNat [tag, hi, lo] 1 2 = hi.toNat * 256 + lo.toNat := by
  simp [fieldNat, natOfBytes]

theorem State.wake_idle {s : State} {q : Cue} (h : s.cyc.waitsWith q = false) : s.wake q = s := by simp [State.wake, h]

/-- No entry waits undelivered. -/
theorem State.undelivered_none {s : State}
    (h : ∀ e ∈ s.sst.map, e.outcome = .awaitingMeasure → e.fields.site ∈ s.cyc.delivered) : s.undelivered? = none := by
  simp [State.undelivered?, Store.measureList]
  exact h

end Sys2Proof.Machine
end

