-- ==== Sys2Proof/Laws/Cycle.lean ====
section
/-!
SUPPORT. What the Cycle Controller's shared operations can do: entries and reports, abandonment, stops and faults.
-/

namespace Sys2Proof.Machine

/-! ### Operations that write entries and report them -/

/-- `t` is `s` but for the map, the message queue with its overflow mark, and the counters. -/
def OnlyReports (s t : State) : Prop :=
  ∃ map messages overflow evc,
    t = { s with sst.map := map, fli := { s.fli with messages := messages, txOverflow := overflow }, evc := evc }

theorem OnlyReports.same (s : State) : OnlyReports s s := ⟨_, _, _, _, rfl⟩

theorem OnlyReports.trans {s t u : State} (h : OnlyReports s t) (g : OnlyReports t u) : OnlyReports s u := by
  obtain ⟨a, b, c, d, rfl⟩ := h
  obtain ⟨a', b', c', d', rfl⟩ := g
  exact ⟨a', b', c', d', rfl⟩

theorem OnlyReports.signal (s : State) (k : EventKind) (b : BitVec 20) : OnlyReports s (s.signal k b) := ⟨_, _, _, _, rfl⟩

theorem OnlyReports.send (s : State) (m : Message) : OnlyReports s (s.send m) := by
  unfold State.send State.queueMessage
  split
  · exact ⟨_, _, true, _, rfl⟩
  · exact ⟨_, _, _, _, rfl⟩

theorem OnlyReports.signalOutcome (s : State) (e : Entry) : OnlyReports s (s.signalOutcome e) := ⟨_, _, _, _, rfl⟩

theorem OnlyReports.rewrite (s : State) (site : Nat) (f : Entry → Entry) : OnlyReports s (s.rewrite site f) :=
  ⟨_, _, _, _, rfl⟩

theorem OnlyReports.createUnmade (s : State) (f : SiteFields) (o : SiteOutcome) (g : IndentFlags) :
    OnlyReports s (s.createUnmade f o g) :=
  (OnlyReports.trans ⟨s.sst.map ++ [Entry.unmade f o g s.now], _, _, _, rfl⟩ (.signalOutcome _ _)).trans (.send _ _)

theorem OnlyReports.createMade (s : State) (f : SiteFields) (g : IndentFlags) : OnlyReports s (s.createMade f g) :=
  ⟨s.sst.map ++ [Entry.atContact f g s.now], _, _, _, rfl⟩

theorem OnlyReports.finish (s : State) (site : Nat) (f : Entry → Entry) : OnlyReports s (s.finish site f) := by
  unfold State.finish
  split
  · exact ((OnlyReports.rewrite s site f).trans (.signalOutcome _ _)).trans (.send _ _)
  · exact .same s

theorem OnlyReports.abandonMeasurement (s : State) (w : Work) : OnlyReports s (s.abandonMeasurement w) := by
  unfold State.abandonMeasurement
  split
  · unfold State.abandonRemeasure
    split
    · exact .send s _
    · exact .same s
  · exact .finish s _ _

theorem OnlyReports.writeAbandoned (s : State) : OnlyReports s s.writeAbandoned := by
  unfold State.writeAbandoned
  split
  · exact .same s
  · split
    · exact .same s
    · split
      · exact .createUnmade s _ _ _
      · unfold State.writeIndentAbandoned
        split
        · exact .finish s _ _
        · exact .createUnmade s _ _ _
      · exact .abandonMeasurement s _
      · exact .abandonMeasurement s _
      · exact .same s

theorem OnlyReports.writeResult (s : State) (r : MeasureResult) : OnlyReports s (s.writeResult r) := by
  unfold State.writeResult
  split
  · exact .same s
  · split
    · exact .finish s _ _
    · split
      · exact ((OnlyReports.rewrite s _ _).trans (.signalOutcome _ _)).trans (.send _ _)
      · exact .send s _

/-- Nothing is written for no current item. -/
theorem State.writeAbandoned_idle {s : State} (h : s.cyc.current = none) : s.writeAbandoned = s := by
  simp only [State.writeAbandoned, h]

/-! ### Stops -/

/-- A stop order where the Force Unit withdraws already, or stands at home, changes nothing (R125). -/
theorem Frc.stopForFault_withdrawn {f : Frc} (c : ConfigImage) (now : Time) (h : f.state.inCycle = false) :
    f.stopForFault c now = (f, []) := by
  unfold Frc.stopForFault
  revert h
  cases f.state <;> simp [ForceState.inCycle]

/-- With no report nothing is gathered. -/
@[simp] theorem Cyc.gatherAll_nil (c : Cyc) : c.gatherAll [] = c := rfl

theorem State.withForceStop_nil (s : State) : s.withForceStop (s.frc, []) = s := rfl

/-- The Image Unit abandons nothing in IDLE and ENDING (R148). -/
theorem State.abandonImage_idle {s : State} (h : s.img.state = .idle ∨ s.img.state = .ending) : s.abandonImage = s := by
  simp only [State.abandonImage, h, if_true]

/-- A stop ends the sequence, the settle and the deadline; what moves is being stopped (R105). -/
theorem Mot.stop_free {m : Mot} (h : m.stopping = false) :
    m.stop = ({ m with sequence := none, settleEnd := none, moveDeadline := none, stopping := m.moving }, !m.moving) := by
  simp only [Mot.stop, h]
  rfl

/-! ### Faults (R50) -/

/-- A fault in FAULTED leaves the first cause. -/
theorem State.stationFault_faulted {s : State} (h : s.cyc.mode = .faulted) (cause : FaultCause) : s.stationFault cause = s := by
  simp only [State.stationFault, h, if_true]

/-- A fault elsewhere: FAULTED with its cause, and nothing current. -/
theorem State.stationFault_taken {s : State} (h : s.cyc.mode ≠ .faulted) (cause : FaultCause) :
    (s.stationFault cause).cyc.mode = .faulted ∧ (s.stationFault cause).cyc.fault = cause ∧
      (s.stationFault cause).cyc.current = none := by
  have key : ∀ u : State, u.cyc.mode = .faulted ∧ u.cyc.fault = cause ∧ u.cyc.current = none →
      (u.clearNeed.release.abandonImage).cyc.mode = .faulted ∧ (u.clearNeed.release.abandonImage).cyc.fault = cause ∧
        (u.clearNeed.release.abandonImage).cyc.current = none := by
    intro u hu
    obtain ⟨a, b, c, d, e, _⟩ := (OnlyCoordination.clearNeed u).trans (.release _)
    rw [e]
    unfold State.abandonImage
    split
    · exact hu
    · unfold State.freeReserved
      split
      · split
        · exact hu
        · exact hu
      · exact hu
  simp only [State.stationFault, h, if_false]
  exact key _ ⟨rfl, rfl, rfl⟩

/-- What a fault elsewhere leaves and ends: the queue of sites, the timebase and the configuration stay, the Force Unit has its stop
order, and a HELD claim is given up (R50). -/
theorem State.stationFault_rest {s : State} (h : s.cyc.mode ≠ .faulted) (cause : FaultCause) :
    (s.stationFault cause).sst.queue = s.sst.queue ∧ (s.stationFault cause).tbu = s.tbu ∧
      (s.stationFault cause).cfg = s.cfg ∧ (s.stationFault cause).frc = (s.frc.stopForFault s.cfg s.now).1 ∧
      ∀ k, s.fcu.claim = .held k → (s.stationFault cause).fcu.claim = .none := by
  have image : ∀ u : State, u.abandonImage.sst = u.sst ∧ u.abandonImage.tbu = u.tbu ∧ u.abandonImage.cfg = u.cfg ∧
      u.abandonImage.frc = u.frc ∧ u.abandonImage.fcu = u.fcu := by
    intro u
    unfold State.abandonImage
    split
    · simp
    · unfold State.freeReserved
      split
      · split <;> simp
      · simp
  have given : ∀ (u : State) (k : ClaimKind), u.fcu.claim = .held k → (u.clearNeed.release).fcu.claim = .none := by
    intro u k hk
    obtain ⟨a, b⟩ := State.clearNeed_held hk
    rw [State.release_held a b]
  simp only [State.stationFault, h, if_false]
  obtain ⟨map, messages, overflow, evc, e⟩ := OnlyReports.writeAbandoned (s.withForceStop (s.frc.stopForFault s.cfg s.now))
  generalize (s.withForceStop (s.frc.stopForFault s.cfg s.now)).writeAbandoned = u at e
  subst e
  refine ⟨?_, ?_, ?_, ?_, ?_⟩
  · rw [(image _).1]
    obtain ⟨_, _, _, _, e, _⟩ := (OnlyCoordination.clearNeed _).trans (.release _)
    rw [e]
    rfl
  · rw [(image _).2.1]
    obtain ⟨_, _, _, _, e, _⟩ := (OnlyCoordination.clearNeed _).trans (.release _)
    rw [e]
    rfl
  · rw [(image _).2.2.1]
    obtain ⟨_, _, _, _, e, _⟩ := (OnlyCoordination.clearNeed _).trans (.release _)
    rw [e]
    rfl
  · rw [(image _).2.2.2.1]
    obtain ⟨_, _, _, _, e, _⟩ := (OnlyCoordination.clearNeed _).trans (.release _)
    rw [e]
    rfl
  · intro k hk
    rw [(image _).2.2.2.2]
    exact given _ k hk

/-! ### Choices (R35) -/

theorem State.chooseUpTo_stops {s t : State} (n : Nat) (h : s.chooseOnce = (t, false)) : State.chooseUpTo (n + 1) s = t := by
  simp [State.chooseUpTo, h]

/-- A choice with no batch open that does not choose again is R35's choice from rule 1. -/
theorem State.choose_unbatched {s t : State} (hb : s.cyc.batch = none)
    (h : ({ s with cyc.cue := .none } : State).chooseUnbatched = (t, false)) : s.choose = t := by
  apply State.chooseUpTo_stops
  unfold State.chooseOnce
  dsimp only
  split
  · rename_i hs
    rw [hb] at hs
    cases hs
  · exact h

theorem State.chooseUnbatched_listed {s : State} {site : Nat} (hu : s.undelivered? = some site) :
    s.chooseUnbatched = (s.enterPhase (.listed site) .toView, false) := by
  simp [State.chooseUnbatched, hu]

theorem State.chooseUnbatched_nothing {s : State} (hb : s.cyc.batch = none) (hu : s.undelivered? = none) (hq : s.sst.queue = []) :
    s.chooseUnbatched = ({ s with cyc.cue := .plan }, false) := by
  cases hw : s.cyc.workMode <;>
    simp [State.chooseUnbatched, hu, hw, State.chooseInBatchMode, State.askSelection, State.select, hq, State.onSelection,
      State.waitFor, hb]

theorem State.chooseUnbatched_remeasure {s : State} {site : Nat} {rest : List Item}
    (hu : s.undelivered? = none) (hq : s.sst.queue = .remeasure site :: rest) :
    s.chooseUnbatched =
      (({ s with sst := { s.sst with queue := rest, deferral := none } } : State).enterPhase (.remeasure site) .toView, false) := by
  cases hw : s.cyc.workMode <;>
    simp [State.chooseUnbatched, hu, hw, State.chooseInBatchMode, State.askSelection, State.select, hq, State.onSelection,
      State.takeHead]

/-- With no batch open, the first undelivered entry is taken up (R35 rule 1). -/
theorem State.choose_listed {s : State} {site : Nat} (hb : s.cyc.batch = none) (hu : s.undelivered? = some site) :
    s.choose = ({ s with cyc.cue := .none } : State).enterPhase (.listed site) .toView :=
  State.choose_unbatched hb (State.chooseUnbatched_listed hu)

/-- With no batch open, nothing undelivered and an empty queue, CYC waits with cue PLAN (R35). -/
theorem State.choose_nothing {s : State} (hb : s.cyc.batch = none) (hu : s.undelivered? = none) (hq : s.sst.queue = []) :
    s.choose = { s with cyc.cue := .plan } :=
  State.choose_unbatched hb (State.chooseUnbatched_nothing (s := { s with cyc.cue := .none }) hb hu hq)

/-- A REMEASURE item at the head is taken up, in either work mode (R18, R35). -/
theorem State.choose_remeasure {s : State} {site : Nat} {rest : List Item} (hb : s.cyc.batch = none)
    (hu : s.undelivered? = none) (hq : s.sst.queue = .remeasure site :: rest) :
    s.choose =
      ({ s with cyc.cue := .none, sst := { s.sst with queue := rest, deferral := none } } : State).enterPhase (.remeasure site) .toView :=
  State.choose_unbatched hb (State.chooseUnbatched_remeasure (s := { s with cyc.cue := .none }) hu hq)

/-- A WAITING phase that nothing forbids has its need set and its CLAIM queued (R32, R48, R55). -/
theorem State.trySetNeed_claims {s : State} {c : Current} {k : ClaimKind} (hc : s.cyc.current = some c) (hs : c.step = .waiting)
    (hk : c.phase.claim = some k) (hn : s.fcu.need = none) (hr : s.atRest = true) (hp : s.phaseReady c.phase = true)
    (h0 : s.fcu.claim = .none) (hf : s.fcu.firstFailure k = none) :
    s.trySetNeed =
      { s with
        fcu := { s.fcu with need := some { kind := k, since := s.tbu.stationTime }, claim := .pending k, block := none }
        fli.notices := placeNotice (.claim k) s.fli.notices } := by
  simp only [State.trySetNeed, hc, hk, hs, hn, hr, hp, and_self, if_true, State.setNeed]
  exact State.permitTest_passes (n := { kind := k, since := s.now }) rfl h0 hf

/-- A motion phase that begins where nothing forbids it claims MOTION at once (R32, R48, R55). -/
theorem State.enterPhase_claims {s : State} {w : Work} {p : Phase} (hp : p = .toSite ∨ p = .toView)
    (hn : s.fcu.need = none) (hr : s.atRest = true) (h0 : s.fcu.claim = .none) (hf : s.fcu.firstFailure .motion = none) :
    s.enterPhase w p =
      { s with
        cyc.current := some { work := w, phase := p, step := .waiting }
        fcu := { s.fcu with need := some { kind := .motion, since := s.tbu.stationTime }, claim := .pending .motion, block := none }
        fli.notices := placeNotice (.claim .motion) s.fli.notices } := by
  have he : ((({ s with
      cyc := { s.cyc.startGathering p with current := some { work := w, phase := p, step := .waiting } } } : State).cueRoom
        p).openBufferFull p) = { s with cyc.current := some { work := w, phase := p, step := .waiting } } := by
    rcases hp with rfl | rfl <;> simp [Cyc.startGathering, State.cueRoom, State.openBufferFull]
  rw [State.enterPhase, he]
  exact State.trySetNeed_claims (s := { s with cyc.current := some { work := w, phase := p, step := .waiting } }) rfl rfl
    (by rcases hp with rfl | rfl <;> rfl) hn hr (by rcases hp with rfl | rfl <;> rfl) h0 hf

end Sys2Proof.Machine
end

