-- ==== Sys2Proof/Laws/Link.lean ====
section
/-!
SUPPORT. The line's two measures and the pulses: the fields of the shared updates of the interface state, and what the shared
operations of the frame link answer.
-/

namespace Sys2Proof.Machine

/-! ### The fields of the line's updates (R78, R85) -/

@[simp] theorem Fli.measured_rank (f : Fli) (levels : List Bool) : (f.measured levels).rank = f.rank := rfl
@[simp] theorem Fli.measured_notices (f : Fli) (levels : List Bool) : (f.measured levels).notices = f.notices := rfl
@[simp] theorem Fli.measured_messages (f : Fli) (levels : List Bool) : (f.measured levels).messages = f.messages := rfl
@[simp] theorem Fli.measured_transmitter (f : Fli) (levels : List Bool) : (f.measured levels).transmitter = f.transmitter := rfl
@[simp] theorem Fli.measured_engine (f : Fli) (levels : List Bool) : (f.measured levels).engine = f.engine := rfl
@[simp] theorem Fli.measured_txOverflow (f : Fli) (levels : List Bool) : (f.measured levels).txOverflow = f.txOverflow := rfl
@[simp] theorem Fli.measured_stopDrive (f : Fli) (levels : List Bool) : (f.measured levels).stopDrive = f.stopDrive := rfl
@[simp] theorem Fli.measured_idleCount (f : Fli) (levels : List Bool) : (f.measured levels).idleCount = recessiveTail levels := rfl
@[simp] theorem Fli.measured_runLength (f : Fli) (levels : List Bool) : (f.measured levels).runLength = dominantTail levels := rfl

@[simp] theorem Fli.frameEnded_rank (f : Fli) (levels : List Bool) : (f.frameEnded levels).rank = f.rank := rfl
@[simp] theorem Fli.frameEnded_notices (f : Fli) (levels : List Bool) : (f.frameEnded levels).notices = f.notices := rfl
@[simp] theorem Fli.frameEnded_messages (f : Fli) (levels : List Bool) : (f.frameEnded levels).messages = f.messages := rfl
@[simp] theorem Fli.frameEnded_transmitter (f : Fli) (levels : List Bool) : (f.frameEnded levels).transmitter = f.transmitter := rfl
@[simp] theorem Fli.frameEnded_engine (f : Fli) (levels : List Bool) : (f.frameEnded levels).engine = .ready := rfl
@[simp] theorem Fli.frameEnded_txOverflow (f : Fli) (levels : List Bool) : (f.frameEnded levels).txOverflow = f.txOverflow := rfl
@[simp] theorem Fli.frameEnded_stopDrive (f : Fli) (levels : List Bool) : (f.frameEnded levels).stopDrive = f.stopDrive := rfl
@[simp] theorem Fli.frameEnded_idleCount (f : Fli) (levels : List Bool) : (f.frameEnded levels).idleCount = recessiveTail levels := rfl
@[simp] theorem Fli.frameEnded_runLength (f : Fli) (levels : List Bool) : (f.frameEnded levels).runLength = dominantTail levels := rfl

@[simp] theorem Fli.sample_rank (f : Fli) (level : Bool) : (f.sample level).rank = f.rank := by
  cases level <;> rfl
@[simp] theorem Fli.sample_notices (f : Fli) (level : Bool) : (f.sample level).notices = f.notices := by
  cases level <;> rfl
@[simp] theorem Fli.sample_messages (f : Fli) (level : Bool) : (f.sample level).messages = f.messages := by
  cases level <;> rfl
@[simp] theorem Fli.sample_transmitter (f : Fli) (level : Bool) : (f.sample level).transmitter = f.transmitter := by
  cases level <;> rfl
@[simp] theorem Fli.sample_txOverflow (f : Fli) (level : Bool) : (f.sample level).txOverflow = f.txOverflow := by
  cases level <;> rfl
@[simp] theorem Fli.sample_stopDrive (f : Fli) (level : Bool) : (f.sample level).stopDrive = f.stopDrive := by
  cases level <;> rfl


/-! ### The measures -/

@[simp] theorem Fli.sees_nil (f : Fli) : f.sees [] = f := rfl
@[simp] theorem Fli.sees_cons (f : Fli) (level : Bool) (levels : List Bool) :
    f.sees (level :: levels) = (f.sample level).sees levels := rfl

/-- Levels on the line change the two measures and the engine alone (R78, R85). -/
theorem Fli.sees_rest (f : Fli) (levels : List Bool) :
    ∃ idle run engine, f.sees levels = { f with idleCount := idle, runLength := run, engine := engine } := by
  induction levels generalizing f with
  | nil => exact ⟨_, _, _, rfl⟩
  | cons level levels ih =>
    obtain ⟨idle, run, engine, h⟩ := ih (f.sample level)
    refine ⟨idle, run, engine, ?_⟩
    rw [Fli.sees_cons, h]
    cases level <;> rfl

@[simp] theorem EngineState.atIdle_ready (idle : Nat) : EngineState.ready.atIdle idle = .ready := by simp [EngineState.atIdle]
@[simp] theorem EngineState.atIdle_receiving (idle : Nat) : EngineState.receiving.atIdle idle = .receiving := by
  simp [EngineState.atIdle]
@[simp] theorem EngineState.atIdle_twelve (e : EngineState) : e.atIdle 12 ≠ .sync := by cases e <;> decide
@[simp] theorem EngineState.atDominant_sync : EngineState.sync.atDominant = .sync := rfl
@[simp] theorem EngineState.atDominant_ready : EngineState.ready.atDominant = .receiving := rfl
@[simp] theorem EngineState.atDominant_receiving : EngineState.receiving.atDominant = .receiving := rfl

/-- An engine that goes by the idle count stands in SYNC on no idle line (R85). -/
theorem EngineState.atIdle_sync {e : EngineState} {idle : Nat} (h : e.atIdle idle = .sync) : idle ≠ 12 := by
  rintro rfl
  exact EngineState.atIdle_twelve e h

/-- SYNC stands on no idle line after some levels where it stood on none before (R85). -/
theorem Fli.sees_sync {f : Fli} (hf : f.engine = .sync → f.idleCount ≠ 12) (levels : List Bool)
    (h : (f.sees levels).engine = .sync) : (f.sees levels).idleCount ≠ 12 := by
  induction levels generalizing f with
  | nil => exact hf h
  | cons level levels ih =>
    rw [Fli.sees_cons] at h ⊢
    refine ih (fun hs => ?_) h
    cases level
    · simp [Fli.sample]
    · exact EngineState.atIdle_sync hs

/-- An idle count never passes 12 (R78). -/
theorem recessiveTail_le (levels : List Bool) : recessiveTail levels ≤ 12 := Nat.min_le_left _ _

/-! ### The dominant bit of a loss, of an error and of a pulse (R78, R85) -/

/-- A dominant bit after some levels ends the idle count, lengthens the run and is a start bit to a READY engine (R78, R85). -/
theorem Fli.dominantAfter_eq (f : Fli) (since : List Bool) :
    f.dominantAfter since =
      { f with
        idleCount := 0
        runLength := (f.sees since).runLength + 1
        engine := (f.sees since).engine.atDominant } := by
  obtain ⟨idle, run, engine, h⟩ := f.sees_rest since
  simp [Fli.dominantAfter, Fli.sample, h]

@[simp] theorem Fli.dominantAfter_idleCount (f : Fli) (since : List Bool) : (f.dominantAfter since).idleCount = 0 := rfl
@[simp] theorem Fli.dominantAfter_runLength (f : Fli) (since : List Bool) :
    (f.dominantAfter since).runLength = (f.sees since).runLength + 1 := rfl
@[simp] theorem Fli.dominantAfter_engine (f : Fli) (since : List Bool) :
    (f.dominantAfter since).engine = (f.sees since).engine.atDominant := rfl
@[simp] theorem Fli.dominantAfter_transmitter (f : Fli) (since : List Bool) :
    (f.dominantAfter since).transmitter = f.transmitter := by rw [Fli.dominantAfter_eq]
@[simp] theorem Fli.dominantAfter_notices (f : Fli) (since : List Bool) :
    (f.dominantAfter since).notices = f.notices := by rw [Fli.dominantAfter_eq]
@[simp] theorem Fli.dominantAfter_messages (f : Fli) (since : List Bool) :
    (f.dominantAfter since).messages = f.messages := by rw [Fli.dominantAfter_eq]
@[simp] theorem Fli.dominantAfter_stopDrive (f : Fli) (since : List Bool) :
    (f.dominantAfter since).stopDrive = f.stopDrive := by rw [Fli.dominantAfter_eq]

/-- A frame that leaves the transmitter for its queue leaves it empty (R81). -/
theorem Fli.returned_transmitter (f : Fli) : f.returned.transmitter = none := by
  cases h : f.transmitter with
  | none => simp [Fli.returned, h]
  | some t =>
    simp only [Fli.returned, h]
    repeat' split
    all_goals rfl

/-- A dominant bit after some levels does the same whatever stands in the queues and the transmitter (R78, R85). -/
theorem Fli.dominantAfter_queues (f : Fli) (since : List Bool) (t : Option Transmission) (ns : List Notice)
    (ms : List QueuedMessage) :
    ({ f with transmitter := t, notices := ns, messages := ms } : Fli).dominantAfter since =
      { f.dominantAfter since with transmitter := t, notices := ns, messages := ms } := by
  induction since generalizing f with
  | nil => rfl
  | cons level levels ih =>
    cases level
    · exact ih (f.sample false)
    · exact ih (f.sample true)

/-- The dominant bit of a pulse and the return of an own frame that it overrides come to the same in either order (R78, R81). -/
theorem Fli.dominantAfter_returned (f : Fli) (since : List Bool) :
    (f.dominantAfter since).returned = f.returned.dominantAfter since := by
  have queues := f.dominantAfter_queues since
  obtain ⟨_, ns, ms, t, _, _, _, _, _⟩ := f
  simp only [Fli.returned, Fli.dominantAfter_transmitter, Fli.dominantAfter_notices, Fli.dominantAfter_messages] at queues ⊢
  repeat' split
  all_goals first | rfl | exact (queues _ _ _).symm

/-! ### What the operations answer -/

/-- An own frame that loses arbitration leaves the transmitter empty (R81). -/
theorem Fli.lost_transmitter (f : Fli) (since : List Bool) : (f.lost since).transmitter = none := by
  cases h : f.transmitter <;> simp [Fli.lost, h, Fli.returned_transmitter]

/-- A frame that is not the station's own, at its end in RECEIVING, is judged with the measures of its levels (R78, R86). -/
theorem State.frameEnd_other {s : State} {f : LinkFrame} {line : List Bool} (hr : readFrame line = some f)
    (he : s.fli.engine = .receiving) (ht : s.fli.transmitter = none) :
    s.frameEnd line = { s with fli := s.fli.frameEnded line }.judgeOther f := by
  simp [State.frameEnd, State.judgeFrame, hr, he, ht]

/-- A pulse of the station's own with no own frame on the line drives the line alone (R91). -/
theorem State.drivePulse_empty {s : State} (h : s.fli.transmitter = none) (past : Bool) (since : List Bool) :
    s.drivePulse past since = { s with fli := { s.fli.dominantAfter since with stopDrive := .driving } } := by
  cases past <;> simp [State.drivePulse, State.overridden, State.ownFailed, Fli.returned, h]

/-- A further pulse does what a pulse of the station's own does (R91). -/
theorem State.stopPulseRepeat_waiting {s : State} (h : s.fli.stopDrive = .waiting) (past : Bool) (since : List Bool) :
    s.stopPulseRepeat past since = s.drivePulse past since := if_pos h

/-- A pulse that overrides an own frame past its arbitration byte drives the line after that frame's error (R82, R91). -/
theorem State.drivePulse_failed {s : State} (h : s.fli.transmitter ≠ none) (since : List Bool) :
    s.drivePulse true since = { s.ownMismatched since with fli.stopDrive := .driving } := by
  simp [State.drivePulse, State.overridden, State.ownMismatched, Option.isSome_iff_ne_none, h]

/-- A pulse that overrides an own frame within its arbitration byte drives the line after that frame's loss (R81, R91). -/
theorem State.drivePulse_lost {s : State} (h : s.fli.transmitter ≠ none) (since : List Bool) :
    s.drivePulse false since = { s with fli := { s.fli.lost since with stopDrive := .driving } } := by
  simp [State.drivePulse, State.overridden, Fli.lost, Option.isSome_iff_ne_none, h, Fli.dominantAfter_returned]

/-! ### The timebase at the release (R135) -/

@[simp] theorem Tbu.released_stationTime (t : Tbu) : t.released.stationTime = 0 := rfl
@[simp] theorem Tbu.released_source (t : Tbu) : t.released.source = .internal := rfl
@[simp] theorem Tbu.released_monitor (t : Tbu) : t.released.monitor = .off := rfl
@[simp] theorem Tbu.released_refLost (t : Tbu) : t.released.refLost = false := rfl
@[simp] theorem Tbu.released_goodRun (t : Tbu) : t.released.goodRun = t.goodRun := rfl
@[simp] theorem Tbu.released_badRun (t : Tbu) : t.released.badRun = t.badRun := rfl
@[simp] theorem Tbu.released_tickMark (t : Tbu) : t.released.tickMark = t.tickMark := rfl

end Sys2Proof.Machine
end

