-- ==== Sys2Proof/WellFormed.lean ====
section
/-!
DEFINITION. Which commands are well formed: operands outside these bounds spell no event of the part's surroundings.
-/

namespace Sys2Proof

/-- A request frame: a destination of 0..7 or 15 and a payload of at most 32 bytes (spec 11.1, R79). -/
def requestFormed (dest : BitVec 4) (payload : List Byte) : Bool :=
  (dest.toNat ≤ 7 || dest == 15#4) && payload.length ≤ 32

/-- Whether a kind byte is one of the fifteen request kinds, 10h..1Eh (spec 11.1). -/
def requestKind (kind : Byte) : Bool := 0x10 ≤ kind.toNat && kind.toNat ≤ 0x1E

/-- Whether a number is a signed count of 24 bits, the width of a carriage position (spec 11.5). -/
def signed24 (n : Int) : Bool := -8388608 ≤ n && n ≤ 8388607

/-- Whether no dominant run among some levels reaches 9 bit times, which is a command of its own (R86); `run` dominant bit times
stand before them. -/
def shortRuns : Nat → List Bool → Bool
  | _, [] => true
  | _, true :: rest => shortRuns 0 rest
  | run, false :: rest => run < 8 && shortRuns (run + 1) rest

/-- Well-formedness of a command. -/
def Instr.wellFormed : Instr → Bool
  | .deviceReset _ => true
  | .resetNRelease => true
  | .configReadDone image => image.length == 320
  | .planSite dest payload => requestFormed dest payload
  | .planRemeasure dest payload => requestFormed dest payload
  | .planWithdraw dest payload => requestFormed dest payload
  | .mapClear dest payload => requestFormed dest payload
  | .start dest payload => requestFormed dest payload
  | .pause dest payload => requestFormed dest payload
  | .resume dest payload => requestFormed dest payload
  | .abortSite dest payload => requestFormed dest payload
  | .restart dest payload => requestFormed dest payload
  | .refReselect dest payload => requestFormed dest payload
  | .setMode dest payload => requestFormed dest payload
  | .queryStatus dest payload => requestFormed dest payload
  | .queryEntry dest payload => requestFormed dest payload
  | .queryCounters dest payload => requestFormed dest payload
  | .setCounter dest payload => requestFormed dest payload
  | .unknownKind dest kind payload => requestFormed dest payload && !requestKind kind
  | .transmitStart since => shortRuns 0 since
  | .arbitrationLoss since => shortRuns 0 since
  | .ownFrameCompleted => true
  | .ownFrameError since => shortRuns 0 since
  | .frameEnd line => (Machine.readFrame line).isSome
  | .lengthAbove32 length _ _ => decide (32 < length.toNat)
  | .dominantRunReaches9 => true
  | .dominantRunEnd length => decide (9 ≤ length)
  | .haltPulse => true
  | .lineIdle => true
  | .stopAsserted _ since => shortRuns 0 since
  | .stopPulseEnd _ => true
  | .stopPulseRepeat _ since => shortRuns 0 since
  | .tick => true
  | .listenInEnd => true
  | .doubtEnd => true
  | .claimRefreshDue => true
  | .holdoffRefreshDue => true
  | .viewExpiry => true
  | .holdoffQueued => true
  | .turretHomeFound => true
  | .indexComplete edges => 1 ≤ edges && edges ≤ 3
  | .carriageAxisHome _ => true
  | .carriageInPosition => true
  | .zHomeFound => true
  | .zInPosition => true
  | .fineStepComplete => true
  | .moveDeadline => true
  | .settleEnd => true
  | .axesStopped x y z => signed24 x && signed24 y && z ≤ 500000
  | .samplePair _ _ => true
  | .tareDone _ _ => true
  | .wireTestDone _ _ => true
  | .wireTestRecovered _ _ => true
  | .loadRampEnd _ _ => true
  | .dwellEnd _ _ => true
  | .unloadTimeout => true
  | .fastUnloadTimeout => true
  | .homeDriveDone _ _ => true
  | .freeTestPass _ _ => true
  | .retractTimeout => true
  | .refWindowEnd _ => true
  | .sourceSwitch => true
  | .focusSettleEnd => true
  | .fvalRise => true
  | .windowComplete lines _ => !lines.isEmpty
  | .pclkStall _ => true
  | .shortFrame _ => true
  | .frameWaitEnd _ => true
  | .computeComplete _ => true
  | .startBit => true

end Sys2Proof
end

