-- ==== Sys2Proof/Tests/Slice0.lean ====
section
/-!
SUPPORT. Small checks: ill-formed commands refused, the figures the spec works out, single steps, and for every obligation with
hypotheses a concrete state and operands that meet them.
-/

namespace Sys2Proof.Tests

open Sys2Proof Sys2Proof.Machine

/-! ### A station to test on -/

/-- A VICKERS indenter. -/
def vickers : IndenterRecord := { kind := .vickers, offsetX := 0, offsetY := 0, standoff := 1000, bound := 80000 }

/-- A KNOOP indenter. -/
def knoop : IndenterRecord := { vickers with kind := .knoop }

/-- The objective of spec 9.6, with the smallest window and a search of three positions. -/
def objective : ObjectiveRecord where
  offsetX := 0
  offsetY := 0
  focusStart := 200000
  scale := 56320
  width := 64
  height := 64
  originColumn := 0
  originRow := 0
  ladder := .wide
  ladderStep := 10
  minContrast := 500
  minPixels := 8
  maxPixels := 900
  focusCount := 3
  focusStep := 10
  focusSettle := 5
  minSharpness := 0
  illumination := 100

/-- An image with an indenter of each kind in slots 0 and 2 and the objective in slot 1. -/
def config : ConfigImage :=
  { ConfigImage.defaults with
    slots := [.indenter vickers, .objective objective, .indenter knoop, .empty, .empty, .empty] }

/-- A peer of rank 2, heard never. -/
def peer : ViewEntry := ViewEntry.cleared 2

/-- A station of rank 1 in RUNNING at station time 10,000, ACTIVE and RETRACTED, with nothing to do. -/
def station : State :=
  { State.reset with
    cfg := config
    cyc := { State.reset.cyc with mode := .running, imageHeld := true, configReading := false }
    fcu := { State.reset.fcu with state := .active, view := [peer] }
    frc := { State.reset.frc with
      state := .retracted, stroke := some 0, deadline := none, rawPrimary := some 0, rawCheck := some 0 }
    tbu := { State.reset.tbu with stationTime := 10000#32 } }

/-- The station in another mode. -/
def stationIn (mode : StationMode) : State := { station with cyc.mode := mode }

/-- A site at the origin for slots 0 and 1. -/
def fields : SiteFields :=
  { site := 7, x := 0, y := 0, indenter := 0, objective := 1, force := 4903, expected := none }

/-- Its INDENT item. -/
def item : IndentItem := { fields := fields, dwell := 10000, loadTime := some 4000 }

/-- Its entry after contact. -/
def entry : Entry := Entry.atContact fields .none 9000#32

/-- The station with an item current in a phase and a step, under a claim. -/
def at_ (work : Work) (phase : Phase) (step : CycStep) (claim : OwnClaim) : State :=
  { station with
    cyc.current := some { work := work, phase := phase, step := step }
    fcu.claim := claim }

/-- A deadline that station time 10,000 reaches exactly. -/
def reached : Deadline := { setAt := 9000#32, interval := 1000 }

/-- A deadline one tick away at station time 10,000. -/
def early : Deadline := { setAt := 9000#32, interval := 1001 }

/-- The payload of a PLAN_SITE: site, x, y, the slots and the force, with dwell 10,000 ms and no more. -/
def planPayload (site : Nat) (x y : Int) (indenter objective force : Nat) : List Byte :=
  0x55#8 :: (bytesOf 2 site ++ signedBytes 3 x ++ signedBytes 3 y ++ bytesOf 1 indenter ++ bytesOf 1 objective
    ++ bytesOf 3 force ++ bytesOf 3 10000 ++ bytesOf 2 0 ++ bytesOf 3 0)

/-- The state a step answers. -/
def after (o : Host.Outcome State Fault Refusal) : State :=
  match o with
  | .next s => s
  | _ => State.reset

/-! ### Ill-formed commands are refused -/

theorem test_request_destination_8_refused : (Instr.start 8#4 [0#8]).wellFormed = false := by decide
theorem test_request_of_33_bytes_refused : (Instr.planSite 1#4 (List.replicate 33 0#8)).wellFormed = false := by decide
theorem test_unknown_kind_14h_refused : (Instr.unknownKind 1#4 0x14#8 []).wellFormed = false := by decide
theorem test_image_of_3_bytes_refused : (Instr.configReadDone [0x34#8, 0x60#8, 0x01#8]).wellFormed = false := by decide
theorem test_unreadable_frame_refused : (Instr.frameEnd [true, false]).wellFormed = false := by decide
theorem test_length_32_refused : (Instr.lengthAbove32 32#8 0x15#8 0x01#8).wellFormed = false := by decide
theorem test_run_of_8_refused : (Instr.dominantRunEnd 8).wellFormed = false := by decide
theorem test_dominant_run_of_9_before_a_transmission_refused :
    (Instr.transmitStart (List.replicate 8 false)).wellFormed = true ∧
      (Instr.transmitStart (List.replicate 9 false)).wellFormed = false := by decide
theorem test_levels_with_a_run_of_9_refused :
    ∀ levels ∈ [List.replicate 9 false], (Instr.arbitrationLoss levels).wellFormed = false ∧
      (Instr.ownFrameError levels).wellFormed = false ∧ (Instr.stopAsserted true levels).wellFormed = false ∧
      (Instr.stopPulseRepeat true levels).wellFormed = false := by decide
theorem test_index_of_4_slots_refused : (Instr.indexComplete 4).wellFormed = false := by decide
theorem test_x_beyond_24_bits_refused : (Instr.axesStopped 8388608 0 0).wellFormed = false := by decide
theorem test_y_beyond_24_bits_refused : (Instr.axesStopped 0 (-8388609) 0).wellFormed = false := by decide
theorem test_z_above_500000_refused : (Instr.axesStopped 0 0 500001).wellFormed = false := by decide
theorem test_no_sensor_lines_refused : (Instr.windowComplete []).wellFormed = false := by decide
theorem test_no_table_word_decodes : decodeTableWord 16 0xFFFF = none := by decide

/-! ### Figures the spec works out -/

/-- Spec 6.12: the thresholds of 4,903 mN at the defaults. -/
theorem test_thresholds :
    let k := config.forceCycle 4903 10000 (some 4000)
    (k.contactAt, k.overloadAt, k.crossLimit) = (98, 5148, 98) := by decide

/-- Spec 6.12: the load set-points at pairs 1,000, 3,000 and 4,000. -/
theorem test_load_set_points :
    [999, 2999, 3999].map (fun t =>
      ({ station.frc with pairs := t }.loadPair config (config.forceCycle 4903 10000 (some 4000)) .internal 0).1.setPoint)
      = [1299, 3701, 4903] := by decide

/-- Spec 6.12: the primary zero of the tare, and the readings on both sides of the contact threshold. -/
theorem test_zero_and_readings :
    ({ station.frc with pairs := 63, sumPrimary := 1230448 - 19000, state := .tare }.tarePair config 19000 0).tare
        = some (19226, 0) ∧
      (calibrate 20780 19226 4096, calibrate 20826 19226 4096) = (97, 100) := by decide

/-- Spec 6.12: the bridge of the walkthrough is whole, and one with no shift is not. -/
theorem test_open_wire_shifts :
    config.shiftGood 2566464 19226 = true ∧ config.shiftGood (19226 * 32) 19226 = false := by decide

/-- Spec 6.12: the unload set-point at pair 1,500. -/
theorem test_unload_set_point : unloadSetPoint config (config.forceCycle 4903 10000 none) 1500 = 2452 := by decide

/-- Spec 6.12: the mean hold force. -/
theorem test_hold_mean : { station.frc with holdSum := 49061523, holdSamples := 10000 }.holdMean = some 4906 := by decide

/-- Spec 9.6 and 9.8: the threshold heights of WIDE 10, NARROW 6 and WIDE 0 over a span of 5,200. -/
theorem test_threshold_heights :
    (thresholdHeight .wide 10 5200, thresholdHeight .narrow 6 5200, thresholdHeight .wide 0 5200) = (2167, 2275, 217) := by
  decide

/-- Spec 9.6 and 9.8: the fractions of the right and the left edge, and of a point equal to the threshold. -/
theorem test_edge_fractions :
    (edgeFraction 3367 3100 3700, edgeFraction 3367 3000 3500, edgeFraction 3367 3000 3367, edgeFraction 3367 3366 3700)
      = (113, 187, 256, 0) := by decide

/-- Spec 9.6 to 9.8: lengths in nm. -/
theorem test_diagonals :
    (diagonalOf 56320 46636, diagonalOf 56320 46455, diagonalOf 56320 34909, diagonalOf 56320 1800)
      = (40078, 39922, 30000, 1547) := by decide

/-- Spec 9.6 and 9.8: means and asymmetry. -/
theorem test_means :
    (meanDiagonal 40078 39922, asymmetric 50 40078 39922, meanDiagonal 42500 39922, asymmetric 50 42500 39922)
      = (40000, false, 41211, true) := by decide

/-- Spec 9.6 to 9.8: hardness of the Vickers, the Knoop, the asymmetric and the saturated case. -/
theorem test_hardness :
    (hardnessOf .vickers 4903 40000, hardnessOf .knoop 981 30000, (hardnessOf .vickers 4903 41211).1,
        hardnessOf .vickers 49 900)
      = ((some 57945, .none), (some 158154, .none), some 54590,
        (some 999999, { MeasureFlags.none with saturated := true })) := by decide

/-- Spec 9.8: the guard of a window of 64 with G = 40. -/
theorem test_guard_clamp : guardOf 40 64 = 30 := by decide

/-- Spec 1.10: site 203 against 202, waiting and measured, and against 201. -/
theorem test_spacing_walkthrough :
    let site := fun (n : Nat) (x y : Int) (d : Option Nat) =>
      ({ fields with site := n, x := x, y := y, expected := d } : SiteFields)
    let e201 := Entry.atContact (site 201 0 0 (some 40000)) .none 0
    let e202 := Entry.atContact (site 202 130 0 (some 40000)) .none 0
    (config.conflicts (site 202 130 0 (some 40000)) e201, config.conflicts (site 203 130 100 none) e201,
        config.conflicts (site 203 130 100 none) e202,
        config.conflicts (site 203 130 100 none) { e202 with d1 := some 33000, d2 := some 32800 },
        config.conflicts (site 204 (-20) (-60) none) { e201 with d1 := some 40078, d2 := some 39922 })
      = (false, false, true, false, true) := by decide

/-- Spec 11.1: the check over the ASCII text 123456789. -/
theorem test_check :
    crc16 [0x31#8, 0x32#8, 0x33#8, 0x34#8, 0x35#8, 0x36#8, 0x37#8, 0x38#8, 0x39#8] = 10673#16 := by decide +kernel

/-- R79: a frame of zeros is read back through its inserted bits. -/
theorem test_zero_frame_read_back :
    readFrame (LinkFrame.sealed 0#8 0#8 [0#8, 0#8]).line = some (LinkFrame.sealed 0#8 0#8 [0#8, 0#8]) := by decide +kernel

/-! ### Single steps -/

/-- R29: rank 0 faults with NO_RANK and starts no read. -/
theorem test_device_reset_of_rank_0 :
    let t := after (exec (.deviceReset 0#3) station)
    (t.cyc.mode, t.cyc.fault, t.cyc.configReading) = (.faulted, .noRank, false) := by decide

/-- R129: the tick counts and wraps. -/
theorem test_tick_wraps :
    (after (exec .tick { station with tbu.stationTime := 0xFFFFFFFF#32 })).tbu.stationTime = 0#32 := by decide

/-- R28: START in RUNNING is refused, and the reply carries the kind byte and code 9. -/
theorem test_start_in_running :
    (after (exec (.start 1#4 [0x55#8]) station)).fli.messages
      = [{ message := .reply 0x55#8 0x14#8 .wrongMode, restart := false }] := by decide

/-- R86: a request to another rank changes nothing here. -/
theorem test_request_to_another_rank : after (exec (.pause 2#4 [0x55#8]) station) = station := by decide

/-- R84: a ninth message is dropped and TX_OVERFLOW is set. -/
theorem test_ninth_message_dropped :
    let full : State := { station with
      fli.messages := List.replicate 8 { message := .reply 0#8 0#8 .accepted, restart := false } }
    let t := after (exec (.pause 1#4 [0x55#8]) full)
    (t.fli.messages.length, t.fli.txOverflow) = (8, true) := by decide

/-- R36 and R55: a planned site is taken up, and its MOTION claim is queued. -/
theorem test_planned_site_taken_up :
    let t := after (exec (.planSite 1#4 (planPayload 7 0 0 0 1 4903)) { station with cyc.cue := .plan })
    (t.fcu.claim, t.fli.notices) = (.pending .motion, [.claim .motion]) := by decide

/-- R78: 9 dominant bit times take a receiving engine to SYNC. -/
theorem test_run_of_9 :
    (after (exec .dominantRunReaches9 { station with fli.engine := .receiving })).fli.engine = .sync := by decide

/-- R99: an index whose edge count is not the slots to be passed does not complete. -/
theorem test_index_count_mismatch :
    let s : State := { station with mot.turretActivity := .indexing 2 2 true, mot.sequence := some [.indexTo 2, .settle] }
    (after (exec (.indexComplete 3) s) = s, (after (exec (.indexComplete 2) s)).mot.turret) = (True, some 2) := by
  simp only [Prod.mk.injEq, eq_iff_iff, iff_true]
  decide

/-- R102: Z home is 500,000. -/
theorem test_z_home :
    (after (exec .zHomeFound { station with mot.zActivity := .homing, mot.sequence := some [.homeZ, .settle] })).mot.z
      = 500000 := by decide

/-- R118: the third disagreeing hold pair in a row is reported, the second is not. -/
theorem test_third_disagreement :
    let k := config.forceCycle 4903 10000 none
    let f := fun n => { station.frc with disagreement := n, primary := some 4903, check := some 4804 }
    (((f 2).crossCheck k).2, ((f 1).crossCheck k).2) = ([.forceDisagree], []) := by decide

/-- R118: the run of disagreements is not kept across states; a lost contact ends the hold with it. -/
theorem test_disagreement_ends_with_the_hold :
    ({ station.frc with state := .hold, disagreement := 2 }.enterUnload config
      (config.forceCycle 4903 10000 none) 9000#32).disagreement = 0 := by decide

/-- R135: a configuration read before the release of RESET_N leaves the monitor OFF at the release. -/
theorem test_monitor_off_at_release :
    let held := after (exec (.configReadDone [0x34#8, 0x60#8, 0x01#8]) (after (exec (.deviceReset 1#3) station)))
    (after (exec .resetNRelease held)).tbu.monitor = .off := by decide

/-- R170: a move along X leaves Y's position in STATUS, and a homing the position of the axis already home. -/
theorem test_axis_not_under_way :
    let y := fun (c : CarriageActivity) =>
      ((({ station with mot.y := 6, mot.carriageActivity := c } : State).statusPage2.drop 6).take 3)
    (y (.moving 5 6), y (.homing false true)) = ([0#8, 0#8, 6#8], [0#8, 0#8, 6#8]) := by decide

/-- R78: after LINE_IDLE within a frame the frame's own levels give the idle count, here that of a check ending in 1. -/
theorem test_idle_count_at_frame_end :
    let s : State := { station with fli.engine := .receiving, fli.idleCount := 12 }
    recessiveTail [true, false, true, true] = 2 ∧
      (after (exec (.frameEnd (noticeLine 2 (.hello .resume))) s)).fli.idleCount < 12 := by decide +kernel

/-- R78, R85: a length byte of FFh after four recessive bits counts 12, as on an idle line; after eight dominant ones the
inserted bit counts with it; a length of F0h leaves 0. -/
theorem test_idle_count_at_bad_length :
    let s : State := { station with fli.engine := .receiving }
    let idle := fun (kind length : Byte) => (after (execLengthAbove32 length s 0x15#8 kind)).fli.idleCount
    (idle 0x0F#8 0xFF#8, idle 0x00#8 0xFF#8, idle 0xFF#8 0xF0#8) = (12, 9, 0) := by decide

/-- R78, R80: a dominant bit since LINE_IDLE leaves no idle line for TRANSMIT_START. -/
theorem test_start_after_a_dominant_bit :
    let s : State := { station with fli.idleCount := 12, fli.notices := [.claim .quiet] }
    ((after (execTransmitStart s [true, false, true])).fli.transmitter, (after (execTransmitStart s)).fli.notices)
      = (none, []) := by decide

/-- R130: 1,000 edges expected of a divider of 10,000 admit a deviation of 31, not of 32. -/
theorem test_reference_window :
    let s : State := { station with tbu.monitor := .qualifying }
    ((after (exec (.refWindowEnd 1031) s)).tbu.goodRun, (after (exec (.refWindowEnd 1032) s)).tbu.goodRun) = (1, 0) := by
  decide

/-- R143: the third failed attempt of two retries ends in CAPTURE_STALL; the second is retried. -/
theorem test_last_retry :
    let s := fun n => ({ station with img.state := .capture, img.attempt := n } : State)
    ((s 1).attemptFailed.2, (s 2).attemptFailed.2) = (none, some .captureStall) := by decide

/-- R145: steps between neighbours of both profiles. -/
theorem test_sharpness : sharpness [5, 8, 2] [1, 1] = 9 := by decide

/-! ### Witnesses: states and operands that meet the obligations' hypotheses -/

theorem witness_StepRunsFrontCommand : station.pending = [] ∧ ({ station with pending := [.tick] } : State).pending ≠ [] := by
  decide

theorem witness_ResetHoldsCommands :
    ({ station with resetHeld := true } : State).resetHeld = true ∧ (∀ straps, Instr.tick ≠ .deviceReset straps) ∧
      Instr.tick ≠ .resetNRelease :=
  ⟨rfl, nofun, nofun⟩

theorem witness_StepKeepsBounds :
    ({ station with pending := [.tick] } : State).Bounded ∧ ∃ t, step { station with pending := [.tick] } = .next t where
  left :=
    { fourCounters := rfl
      counterValues := by simp [station, State.reset, State.released, State.deviceReset, countersReset, Counter.reset]
      oneNoticeOfAKind := List.Pairwise.nil
      queueLength := by decide
      peersOnly := by decide
      onePeerEach := by decide }
  right := ⟨_, rfl⟩

theorem witness_StepKeepsClaimLaws :
    let s : State := { at_ (.indent item) .indent .working (.held .quiet) with frc.state := .load, pending := [.tick] }
    s.Lawful ∧ ∃ t, step s = .next t where
  left :=
    { worksInMode := by decide
      phases := by decide
      contact := by decide
      contactToCome := by decide
      need := by decide
      forceUnderQuiet := by decide
      motionUnderMotion := by decide
      settleInSequence := by decide
      imageUnderQuiet := by decide
      silentHoldsNothing := by decide
      startIsInactive := by decide
      heldIsIdle := by decide
      syncIsBusy := by decide }
  right := ⟨_, rfl⟩

/-- A map of 255 entries and an item that still owes one: the last map that fits. -/
theorem witness_StepKeepsBounds_map :
    let s : State := { at_ (.indent item) .toSite .waiting .none with
      sst.map := List.replicate 255 (Entry.atContact fields .none 0), pending := [.tick] }
    s.Lawful ∧ s.mapFits ∧ s.sst.map.length + s.entriesOwed = 256 ∧ ∃ t, step s = .next t where
  left :=
    { worksInMode := by decide
      phases := by decide
      contact := by decide
      contactToCome := by decide
      need := by decide
      forceUnderQuiet := by decide
      motionUnderMotion := by decide
      settleInSequence := by decide
      imageUnderQuiet := by decide
      silentHoldsNothing := by decide
      startIsInactive := by decide
      heldIsIdle := by decide
      syncIsBusy := by decide }
  right := ⟨by decide +kernel, by decide +kernel, _, rfl⟩

theorem witness_LinkFrameReadsBack :
    ({ arbitration := 0#8, kind := 0#8, payload := List.replicate 32 0#8, check := 0#16 } : LinkFrame).payload.length ≤ 32 := by
  decide

theorem witness_DominantRunsStayShort :
    let f : LinkFrame := { arbitration := 0#8, kind := 0#8, payload := [], check := 0#16 }
    f.line.length = 46 ∧ 0 + 9 ≤ f.line.length ∧ 37 + 9 ≤ f.line.length := by decide

theorem witness_PlanRecordReadsBack :
    let r : PlanRecord :=
      { site := 65535, x := -8388608, y := 8388607, indenter := 255, objective := 255, force := 16777215
        dwell := 16777215, loadTime := 65535, expected := 16777215 }
    r.site < 2 ^ 16 ∧ -2 ^ 23 ≤ r.x ∧ r.x < 2 ^ 23 ∧ -2 ^ 23 ≤ r.y ∧ r.y < 2 ^ 23 ∧ r.indenter < 2 ^ 8 ∧
      r.objective < 2 ^ 8 ∧ r.force < 2 ^ 24 ∧ r.dwell < 2 ^ 24 ∧ r.loadTime < 2 ^ 16 ∧ r.expected < 2 ^ 24 := by
  norm_num

theorem witness_MessagesFitFrames :
    station.evc.length = 4 ∧ ∀ page ∈ List.range 6, ∃ size ∈ [22, 24, 28, 18, 17],
      (page, size) ∈ [(0, 22), (1, 24), (2, 28), (3, 18), (4, 17), (5, 17)] := by decide

theorem witness_DeviceResetAndRelease :
    (State.deviceReset 1 0 0 0 0 []).resetHeld = true ∧ (0#3 = 0#3 ∧ 7#3 ≠ 0#3) := by decide

/-- The station in START with the configuration read in hand. -/
def reading : State := { station with cyc.mode := .start, cyc.configReading := true, cyc.imageHeld := false }

/-- An image with the marker alone; the bytes that are missing read FFh, so a reference is configured. -/
def marker : List Byte := [0x34#8, 0x60#8, 0x01#8]

theorem witness_ConfigReadDecides_accepts :
    reading.cyc.configReading = true ∧ reading.cyc.mode = .start ∧ reading.resetHeld = false ∧ markerGood marker = true ∧
      (readConfigImage marker).referenceConfigured = true ∧
      (readConfigImage (marker ++ List.replicate 59 0#8)).referenceConfigured = false ∧
      markerGood (marker ++ List.replicate 59 0#8) = true ∧
      ({ reading with frc.state := .retract } : State).frc.state ≠ .retracted ∧
      reading.frc.state = .retracted ∧ reading.cyc.haltSeen = false ∧
      ({ reading with cyc.haltSeen := true } : State).cyc.haltSeen = true := by decide

theorem witness_ConfigReadDecides_refuses :
    reading.cyc.configReading = true ∧ reading.cyc.mode = .start ∧ reading.resetHeld = false ∧
      markerGood [] = false ∧ reading.cyc.current = none ∧
      reading.fcu.quietState ∧ reading.img.state = .idle ∧
      (reading.frc.state = .retract ∨ reading.frc.state = .retracted) ∧ reading.mot.moving = false ∧
      reading.mot.stopping = false := by decide

/-- An image whose slot 0 is an objective or an indenter, by its kind byte. -/
def slotImage (kind : Byte) : List Byte := marker ++ List.replicate 77 0#8 ++ [kind]

/-- An image whose slot 0 has each of the kinds, and a kind above 3. -/
theorem witness_ImageFieldsInRange_kinds :
    ((slotImage 1#8).getD 80 0xFF#8).toNat = 1 ∧ ((slotImage 2#8).getD 80 0xFF#8).toNat = 2 ∧
      ((slotImage 3#8).getD 80 0xFF#8).toNat = 3 ∧ ((slotImage 0#8).getD 80 0xFF#8).toNat = 0 ∧
      3 < ((slotImage 4#8).getD 80 0xFF#8).toNat ∧ 3 < (marker.getD 280 0xFF#8).toNat := by decide

theorem witness_ImageFieldsInRange :
    SlotRecord.objective (readObjective (slotImage 3#8) 80) ∈ (readConfigImage (slotImage 3#8)).slots ∧
      SlotRecord.indenter (readIndenter (slotImage 1#8) 80 .vickers) ∈ (readConfigImage (slotImage 1#8)).slots := by decide

/-! #### Requests -/

/-- A site id is held by a queued INDENT item, the current item or an entry. -/
abbrev heldIn (s : State) (site : Nat) : Prop :=
  (∃ i, Item.indent i ∈ s.sst.queue ∧ i.fields.site = site) ∨
    (∃ c, s.cyc.current = some c ∧ c.work.site = site) ∨ (∃ e ∈ s.sst.map, e.fields.site = site)

theorem station_holds_no_id (site : Nat) : ¬heldIn station site := by
  simp [heldIn, station, State.reset, State.released, State.deviceReset, Store.empty, Cyc.reset]

/-- The first two of PLAN_SITE's stops: a mode, and site 0. -/
theorem witness_PlanSiteAnswer_mode_and_site :
    (stationIn .start).hears 1#4 ∧ (stationIn .faulted).hears 1#4 ∧ (planPayload 0 0 0 0 1 49).length = 22 ∧
      station.hears 1#4 ∧ ¬(station.cyc.mode = .start ∨ station.cyc.mode = .faulted) ∧
      (readPlanRecord (planPayload 0 0 0 0 1 49)).site = 0 := by decide

/-- A queue of 32 items is full and one of 31 is not. -/
theorem witness_PlanSiteAnswer_full :
    let s := fun n => ({ station with sst.queue := List.replicate n (.remeasure 9) } : State)
    (s 32).hears 1#4 ∧ 32 ≤ (s 32).sst.queue.length ∧ ¬32 ≤ (s 31).sst.queue.length ∧
      (readPlanRecord (planPayload 7 0 0 0 1 49)).site ≠ 0 := by decide

theorem witness_PlanSiteAnswer_held :
    heldIn { station with sst.queue := [.indent item] } (readPlanRecord (planPayload 7 0 0 0 1 49)).site :=
  .inl ⟨item, by decide, by decide⟩

/-- Where the tests of tool, force and range meet: each payload fails the test named and none before it, and the last two
pass all. -/
theorem witness_PlanSiteAnswer_tests :
    let r := fun p => readPlanRecord p
    let badTool := fun (p : PlanRecord) => station.cfg.indenterKind? p.indenter = none ∨ station.cfg.objective? p.objective = none
    let badForce := fun (p : PlanRecord) => p.force < 49 ∨
      (station.cfg.indenterKind? p.indenter = some .vickers ∧ 98067 < p.force) ∨
      (station.cfg.indenterKind? p.indenter = some .knoop ∧ 19613 < p.force)
    let outside := fun (p : PlanRecord) =>
      p.x < station.cfg.xLower ∨ station.cfg.xUpper < p.x ∨ p.y < station.cfg.yLower ∨ station.cfg.yUpper < p.y
    (∀ p ∈ [planPayload 7 0 0 1 1 49, planPayload 7 0 0 0 3 49], p.length = 22 ∧ (r p).site ≠ 0 ∧ badTool (r p)) ∧
      (∀ p ∈ [planPayload 7 0 0 0 1 48, planPayload 7 0 0 0 1 98068, planPayload 7 0 0 2 1 19614],
        p.length = 22 ∧ ¬badTool (r p) ∧ badForce (r p)) ∧
      (∀ p ∈ [planPayload 7 (-150001) 0 0 1 49, planPayload 7 0 150001 0 1 49],
        p.length = 22 ∧ ¬badTool (r p) ∧ ¬badForce (r p) ∧ outside (r p)) ∧
      (∀ p ∈ [planPayload 7 (-150000) 150000 0 1 98067, planPayload 7 150000 (-150000) 2 1 19613],
        p.length = 22 ∧ (r p).site ≠ 0 ∧ ¬badTool (r p) ∧ ¬badForce (r p) ∧ ¬outside (r p)) ∧
      station.cyc.waitsWith .plan = false := by decide

theorem no_peer_opposes (k : ClaimKind) :
    ∀ v ∈ station.fcu.view, (∀ m, v.claim = some m → m.kind = k) ∧ ∀ m, v.holdoff = some m → m.kind = k := by
  simp [station, peer, ViewEntry.cleared]

/-- The station waiting with cue PLAN. -/
def waitingForPlan : State := { station with cyc.cue := .plan }

theorem witness_PlanSiteTakenUp :
    let s := waitingForPlan
    let p := planPayload 7 0 0 0 1 4903
    s.hears 1#4 ∧ p.length = 22 ∧ s.planSiteCode (readPlanRecord p) = .accepted ∧ s.cyc.mode = .running ∧
      s.cyc.cue = .plan ∧ s.cyc.current = none ∧ s.cyc.batch = none ∧ s.cyc.workMode = .perSite ∧
      s.sst = { queue := [], deferral := none, map := [] } ∧ s.frc.state = .retracted ∧ s.mot.stopping = false ∧
      s.img.state = .idle ∧ s.fcu.state = .active ∧ s.fcu.doubtUntil = none ∧ s.fcu.need = none ∧ s.fcu.claim = .none := by
  decide

/-- An entry that can be measured again. -/
def measured : Entry := { entry with outcome := .valid, d1 := some 40000, d2 := some 40000, hardness := some 1, count := 1 }

/-- The station with a measured entry of site 7. -/
def mapped : State := { station with sst.map := [measured] }

theorem witness_PlanRemeasureAnswer :
    (stationIn .start).hears 1#4 ∧ (stationIn .start).cyc.mode = .start ∧
      (∀ e ∈ station.sst.map, e.fields.site ≠ 7) ∧
      mapped.hears 1#4 ∧ ¬(mapped.cyc.mode = .start ∨ mapped.cyc.mode = .faulted) ∧
      mapped.sst.entry? ((0#8).toNat * 256 + (7#8).toNat) = some measured ∧
      ({ measured with made := false } : Entry).made = false ∧ entry.outcome = .awaitingMeasure ∧
      ¬(measured.made = false ∨ measured.indentFlags.indentAborted = true ∨ measured.outcome = .awaitingMeasure) ∧
      Item.remeasure 7 ∈ ({ mapped with sst.queue := [.remeasure 7] } : State).sst.queue ∧
      Item.remeasure 7 ∉ ({ mapped with sst.queue := List.replicate 32 (.remeasure 9) } : State).sst.queue ∧
      Item.remeasure 7 ∉ mapped.sst.queue ∧ mapped.sst.queue.length < 32 ∧ mapped.cyc.waitsWith .plan = false := by decide

/-- Under cue PLAN, with the head at rest and while its axes are being stopped. -/
theorem witness_PlanRemeasureAnswer_waits :
    let s : State := { waitingForPlan with sst.map := [measured] }
    let m : State := { s with mot.stopping := true }
    s.hears 1#4 ∧ s.sst.entry? 7 = some measured ∧ s.cyc.waitsWith .plan = true ∧ s.cyc.batch = none ∧ s.sst.queue = [] ∧
      s.fcu.need = none ∧ (∀ d ∈ s.sst.map, d.outcome ≠ .awaitingMeasure) ∧ s.frc.state = .retracted ∧
      s.mot.stopping = false ∧ s.img.state = .idle ∧ s.fcu.state = .active ∧ s.fcu.doubtUntil = none ∧
      s.fcu.claim = .none ∧ s.fcu.view = station.fcu.view ∧ m.cyc.waitsWith .plan = true ∧ m.mot.stopping = true := by decide

theorem witness_PlanWithdrawAnswer_busy :
    let s := at_ (.indent item) .toSite .waiting .none
    s.hears 1#4 ∧ ∃ c, s.cyc.current = some c ∧ c.work.site = (0#8).toNat * 256 + (7#8).toNat :=
  ⟨by decide, _, rfl, by decide⟩

theorem witness_PlanWithdrawAnswer :
    let s : State := { station with sst.queue := [.indent item] }
    s.hears 1#4 ∧ s.cyc.current = none ∧ (∃ i ∈ s.sst.queue, i.site = 7) ∧ (¬∃ i ∈ s.sst.queue, i.site = 8) ∧
      s.cyc.waitsWith .plan = false ∧ s.cyc.waitsWith .result = false := by decide

/-- Under cue PLAN and under cue RESULT: with nothing left, a REMEASURE item left, and a site far enough away left. -/
theorem witness_PlanWithdrawAnswer_waits :
    let far : IndentItem := { item with fields := { fields with site := 8, x := 240 } }
    let s := fun cue rest => ({ waitingForPlan with
      cyc.cue := cue, sst := { queue := .indent item :: rest, deferral := none, map := [measured] } } : State)
    let left := fun (u : State) => u.sst.queue.filter fun i => i.site != 7
    (∀ cue ∈ [Cue.plan, .result], let u := s cue []
      u.hears 1#4 ∧ u.cyc.current = none ∧ (∃ i ∈ u.sst.queue, i.site = 7) ∧ u.cyc.waitsWith cue = true ∧
        u.cyc.batch = none ∧ (∀ d ∈ u.sst.map, d.outcome ≠ .awaitingMeasure) ∧ left u = [] ∧ u.fcu.need = none ∧
        u.fcu.view = station.fcu.view) ∧
      left (s .plan [.remeasure 9]) = [.remeasure 9] ∧ left (s .result [.indent far]) = [.indent far] ∧
      (s .result []).cyc.workMode = .perSite ∧ (s .result []).sst.map.length < 256 ∧
      ∀ d ∈ (s .result []).sst.map, config.conflicts far.fields d = false := by decide

/-- R35: a withdrawal under cue RESULT that leaves nothing ends in cue PLAN. -/
theorem test_withdrawal_wakes_cue_result :
    let s : State := { waitingForPlan with cyc.cue := .result, sst.queue := [.indent item] }
    (after (exec (.planWithdraw 1#4 [0x55#8, 0#8, 7#8]) s)).cyc.cue = .plan := by decide

theorem witness_MapClearAnswer :
    station.live ∧ (station.own 1#4 ∨ (1#4 = 15#4)) ∧ (station.own 15#4 ∨ (15#4 = 15#4)) ∧ station.hasMessageRoom 1 ∧
      (∃ e ∈ ({ station with sst.map := [entry] } : State).sst.map, e.outcome = .awaitingMeasure) ∧
      (∀ e ∈ mapped.sst.map, e.outcome ≠ .awaitingMeasure) ∧ mapped.cyc.current = none ∧ mapped.sst.queue = [] ∧
      mapped.mea.slotA = .free ∧ mapped.mea.slotB = .free := by decide

/-- A queued reply. -/
def q0 : QueuedMessage := { message := .reply 0x55#8 0x10#8 .accepted, restart := false }

/-- A message finds room behind seven, and none behind eight. -/
theorem witness_full_queue :
    let s := fun n => ({ station with fli.messages := List.replicate n q0 } : State)
    (s 8).live ∧ (s 8).own 1#4 ∧ ¬(s 8).hasMessageRoom 1 ∧ (s 7).hasMessageRoom 1 := by decide

/-- R84: behind eight messages a refused START is dropped, TX_OVERFLOW is set and LINK_ERROR counts an overflow. -/
theorem test_reply_dropped_on_full_queue :
    let s : State := { station with
      fli.messages := List.replicate 8 q0, evc := [{ kind := .linkError, mask := 0x20#20, value := 0 }] }
    let t := after (exec (.start 1#4 [0x55#8]) s)
    (t.fli.messages.length, t.fli.txOverflow, t.evc.map Counter.value) = (8, true, [1]) := by decide

theorem witness_ModeRequestsRefused :
    station.live ∧ station.hasMessageRoom 1 ∧ station.own 1#4 ∧ station.cyc.mode ≠ .ready ∧ station.cyc.mode ≠ .paused ∧
      (stationIn .ready).cyc.mode ≠ .running ∧ station.cyc.mode ≠ .halted ∧ (stationIn .start).cyc.mode = .start ∧
      station.cyc.current = none := by decide

theorem witness_StartChooses_nothing :
    let s := stationIn .ready
    s.live ∧ s.own 1#4 ∧ s.hasMessageRoom 1 ∧ s.cyc.mode = .ready ∧ s.cyc.current = none ∧ s.cyc.batch = none ∧
      (∀ name d, s.mea.get name = .ready d → d.profiles ≠ none) ∧ s.sst.queue = [] ∧
      ∀ e ∈ s.sst.map, e.outcome = .awaitingMeasure → e.fields.site ∈ s.cyc.delivered := by
  refine ⟨by decide, by decide, by decide, by decide, by decide, by decide, ?_, by decide, by decide⟩
  intro name d h
  cases name <;> exact absurd (show ProfileSlot.free = .ready d from h) nofun

/-- A slot kept READY through a HALT, with its profiles and without. -/
theorem witness_StartChooses_ready :
    let d : Delivery :=
      { site := 7, kind := .vickers, force := 4903, objective := 1
        measureSet := { MeasureFlags.none with focusFailed := true }, profiles := none }
    let p : Delivery := { d with profiles := some { width := 64, height := 64, ph := [], pv := [] } }
    let s := fun d => ({ stationIn .ready with
      mea := Mea.set { slotA := .free, slotB := .free } .a (.ready d), sst.map := [entry], cyc.delivered := [7] } : State)
    (s d).live ∧ (s d).own 1#4 ∧ (s d).hasMessageRoom 2 ∧ (s d).cyc.mode = .ready ∧ (s d).cyc.current = none ∧
      (s d).cyc.batch = none ∧ d.profiles = none ∧ d.measureSet.focusFailed = true ∧ (s d).sst.map = [entry] ∧
      entry.fields.site = d.site ∧ entry.outcome = .awaitingMeasure ∧ (s d).sst.queue = [] ∧
      (s d).cyc.bufferFull = false ∧ (s d).cyc.cue = .none ∧ (s p).mea.get .a = .ready p ∧ (s p).mea.get .b = .free ∧
      p.profiles ≠ none ∧ (∀ e ∈ (s p).sst.map, e.outcome = .awaitingMeasure → e.fields.site ∈ (s p).cyc.delivered) := by
  decide

theorem witness_StartChooses_measure :
    let s : State := { stationIn .paused with sst.map := [entry] }
    s.live ∧ s.own 1#4 ∧ s.hasMessageRoom 1 ∧ s.cyc.mode = .paused ∧ s.cyc.current = none ∧ s.cyc.batch = none ∧
      s.sst.measureList.find? (fun id => !s.cyc.delivered.contains id) = some 7 ∧ s.frc.state = .retracted ∧
      s.mot.stopping = false ∧ s.img.state = .idle ∧ s.fcu.state = .active ∧ s.fcu.doubtUntil = none ∧
      s.fcu.need = none ∧ s.fcu.claim = .none := by decide

/-- What lets the station in READY claim MOTION at once. -/
theorem station_may_claim :
    let s := stationIn .ready
    s.frc.state = .retracted ∧ s.mot.stopping = false ∧ s.img.state = .idle ∧ s.fcu.state = .active ∧
      s.fcu.doubtUntil = none ∧ s.fcu.need = none ∧ s.fcu.claim = .none ∧
      ∀ v ∈ s.fcu.view, (∀ m, v.claim = some m → m.kind = .motion) ∧ ∀ m, v.holdoff = some m → m.kind = .motion :=
  ⟨by decide, by decide, by decide, by decide, by decide, by decide, by decide, no_peer_opposes .motion⟩

theorem witness_StartChooses_remeasure :
    let s : State := { stationIn .ready with sst := { queue := [.remeasure 7], deferral := none, map := [measured] } }
    s.live ∧ s.own 1#4 ∧ s.hasMessageRoom 1 ∧ s.cyc.mode = .ready ∧ s.cyc.current = none ∧ s.cyc.batch = none ∧
      s.mea = { slotA := .free, slotB := .free } ∧ s.sst.queue = .remeasure 7 :: [] ∧
      ∀ e ∈ s.sst.map, e.outcome = .awaitingMeasure → e.fields.site ∈ s.cyc.delivered := by decide

/-- The first item of a batch: with an empty map, and with an entry that a slot still computes. -/
theorem witness_StartChooses_batch :
    let s : State := { stationIn .ready with cyc.workMode := .batch, sst.queue := [.indent item] }
    let w : State := { s with
      sst.map := [entry], cyc.delivered := [7]
      mea.slotA := .computing
        { site := 7, kind := .vickers, force := 4903, objective := 1, measureSet := .none, profiles := none } }
    s.live ∧ s.own 1#4 ∧ s.hasMessageRoom 1 ∧ s.cyc.mode = .ready ∧ s.cyc.current = none ∧ s.cyc.batch = none ∧
      s.sst.queue = .indent item :: [] ∧ s.cyc.workMode = .batch ∧ s.sst.measureList = [] ∧ s.sst.map.length < 256 ∧
      (∀ e ∈ s.sst.map, s.cfg.conflicts item.fields e = false) ∧ w.sst.measureList ≠ [] ∧
      ∀ e ∈ w.sst.map, e.outcome = .awaitingMeasure → e.fields.site ∈ w.cyc.delivered := by decide

theorem witness_PauseAndResume :
    station.live ∧ station.own 1#4 ∧ station.hasMessageRoom 1 ∧
      (at_ (.indent item) .toSite .waiting .none).cyc.current ≠ none ∧ station.cyc.mode = .running ∧
      station.cyc.current = none ∧
      (∀ e ∈ station.sst.map, e.outcome = .awaitingMeasure → e.fields.site ∈ station.cyc.delivered) ∧
      station.fcu.claim = .none ∧ station.fcu.need = none ∧ station.frc.state = .retracted ∧
      (stationIn .halted).cyc.mode = .halted := by decide

/-- An item listed and not delivered, at rest and not, behind one delivered; and a station that still has to finish. -/
theorem witness_PauseAndResume_listed :
    let s : State := { station with sst.map := [entry, { entry with fields := { fields with site := 8 } }], cyc.delivered := [7] }
    let r : State := { s with frc.state := .retract }
    let h : State := { station with fcu.claim := .held .quiet }
    s.sst.measureList = [7] ++ 8 :: [] ∧ (∀ d ∈ [7], d ∈ s.cyc.delivered) ∧ 8 ∉ s.cyc.delivered ∧ s.fcu.need = none ∧
      s.cyc.mode = .running ∧ s.cyc.current = none ∧
      (s.frc.state = .retracted ∧ s.mot.stopping = false ∧ s.img.state = .idle) ∧ s.fcu.state = .active ∧
      s.fcu.doubtUntil = none ∧ s.fcu.claim = .none ∧ (∀ v ∈ s.fcu.view, v.claim = none ∧ v.holdoff = none) ∧
      ¬(r.frc.state = .retracted ∧ r.mot.stopping = false ∧ r.img.state = .idle) ∧ h.fcu.claim = .held .quiet ∧
      ({ h with fcu.need := some { kind := .quiet, since := 7001#32 } } : State).fcu.need ≠ none ∧
      ∀ e ∈ h.sst.map, e.outcome = .awaitingMeasure → e.fields.site ∈ h.cyc.delivered := by decide

theorem witness_AbortBeforeContact :
    let s := at_ (.indent item) .toSite .waiting .none
    s.live ∧ s.own 1#4 ∧ s.hasMessageRoom 2 ∧ s.cyc.contactMark = none ∧ s.fcu.claim = .none ∧
      s.cyc.current = some { work := .indent item, phase := .toSite, step := .waiting } ∧
      s.cyc.mode = .running ∧ s.cyc.batch = none ∧ s.sst.queue = [] ∧
      (∀ e ∈ s.sst.map, e.outcome = .awaitingMeasure → e.fields.site ∈ s.cyc.delivered) ∧
      (at_ (.indent item) .indent .ending (.held .quiet)).cyc.current
        = some { work := .indent item, phase := .indent, step := .ending } := by decide

/-- The waiting item with its CLAIM queued beside a HOLDOFF, and with its CLAIM on the line. -/
theorem witness_AbortBeforeContact_pending :
    let q : State := { at_ (.indent item) .toSite .waiting (.pending .motion) with
      fcu.need := some { kind := .motion, since := 7000#32 }
      fcu.holdoff := .sent .motion
      fli.notices := [.claim .motion, .holdoff .motion] }
    let l : State := { q with
      fli.notices := []
      fli.transmitter := some { frame := .notice (.claim .motion), stale := false, unreported := false } }
    q.live ∧ q.own 1#4 ∧ q.hasMessageRoom 2 ∧ q.cyc.contactMark = none ∧ q.fcu.claim = .pending .motion ∧
      q.cyc.current = some { work := .indent item, phase := .toSite, step := .waiting } ∧ q.cyc.mode = .running ∧
      q.cyc.batch = none ∧ q.sst.queue = [] ∧ q.sst.map = [] ∧
      (q.needCleared.fcu.claim, q.needCleared.fli.notices) = (.none, []) ∧
      (l.needCleared.fcu.claim, l.needCleared.fli.notices) = (.pending .motion, []) := by decide

/-- TO_SITE at work, with a move under way and at rest, and a force cycle before contact. -/
theorem witness_AbortBeforeContact_working :
    let s := at_ (.indent item) .toSite .working (.held .motion)
    let m : State := { s with mot.zActivity := .rapid 1000 }
    let f : State := { at_ (.indent item) .indent .working (.held .quiet) with frc.state := .wireTest }
    s.live ∧ s.own 1#4 ∧ s.hasMessageRoom 2 ∧ s.cyc.contactMark = none ∧ s.fcu.need = none ∧ s.fcu.holdoff = .none ∧
      s.fcu.block = none ∧ s.fcu.claim = .held .motion ∧ s.mot.stopping = false ∧ s.mot.moving = false ∧
      m.mot.moving = true ∧ m.mot.stopping = false ∧ s.cyc.mode = .running ∧ s.cyc.batch = none ∧ s.sst.queue = [] ∧
      s.sst.map = [] ∧ s.cyc.current = some { work := .indent item, phase := .toSite, step := .working } ∧
      f.live ∧ f.own 1#4 ∧ f.hasMessageRoom 2 ∧ f.cyc.contactMark = none ∧ f.fcu.need = none ∧ f.fcu.holdoff = .none ∧
      f.fcu.block = none ∧ f.cyc.current = some { work := .indent item, phase := .indent, step := .working } ∧
      f.fcu.claim = .held .quiet ∧ f.frc.state.beforeContact = true := by decide

/-- The station in LOAD after contact, under its QUIET claim. -/
def loading : State :=
  { at_ (.indent item) .indent .working (.held .quiet) with
    cyc.contactMark := some .internal
    sst.map := [entry]
    frc.state := .load
    frc.cycle := some (config.forceCycle 4903 10000 (some 4000))
    frc.contact := true
    frc.tare := some (0, 0)
    frc.setPoint := 98 }

theorem witness_AbortAfterContact :
    let s := fun f => ({ loading with frc.state := f } : State)
    (s .load).live ∧ (s .load).own 1#4 ∧ (s .load).hasMessageRoom 2 ∧
      (s .load).cyc.current = some { work := .indent item, phase := .indent, step := .working } ∧
      (s .load).cyc.contactMark = some .internal ∧ (s .load).sst.entry? item.fields.site = some entry ∧
      (s .load).frc.state = .load ∧ (s .hold).frc.state = .hold ∧ (s .unload).frc.state = .unload ∧
      (s .fastUnload).frc.state = .fastUnload ∧ (s .retract).frc.state = .retract ∧
      (s .load).fcu.need = none ∧ (s .load).fcu.claim = .held .quiet ∧ (s .load).fcu.holdoff = .none ∧
      (s .load).fcu.block = none := by decide

theorem witness_RestartPendsThenActs :
    let full : State := { station with fli.messages := List.replicate 8 q0 }
    station.live ∧ station.own 1#4 ∧ station.cyc.mode ≠ .start ∧ station.restartPending = false ∧ station.hasMessageRoom 1 ∧
      full.live ∧ full.own 1#4 ∧ full.cyc.mode ≠ .start ∧ full.restartPending = false ∧ 8 ≤ full.fli.messages.length ∧
      full.mot.stopping = false ∧ station.resetHeld = false ∧
      let sent : Transmission :=
        { frame := .message { message := .reply 0x55#8 0x18#8 .accepted, restart := true }, stale := false, unreported := false }
      ({ station with fli.transmitter := some sent, restartPending := true } : State).fli.transmitter = some sent := by decide

theorem witness_ReselectAnswer :
    let s := fun m => ({ station with cfg.referenceConfigured := true, tbu.monitor := m } : State)
    station.hears 1#4 ∧ station.cfg.referenceConfigured = false ∧
      (∀ m ∈ [MonitorState.lost, .qualifying, .qualified, .selected],
        (s m).hears 1#4 ∧ (s m).tbu.monitor = m ∧
          ¬((s m).cyc.mode = .start ∨ (s m).cyc.imageHeld = false ∨ (s m).cfg.referenceConfigured = false)) := by decide

theorem witness_SetModeAnswer :
    let s := stationIn .ready
    s.hears 1#4 ∧ 1 < (2#8).toNat ∧ (1#8).toNat ≤ 1 ∧ (0#8).toNat ≤ 1 ∧ station.cyc.mode ≠ .ready ∧ s.cyc.mode = .ready ∧
      (¬∃ e ∈ s.sst.map, e.outcome = .awaitingMeasure) ∧
      (∃ e ∈ ({ s with sst.map := [entry] } : State).sst.map, e.outcome = .awaitingMeasure) := by decide

theorem witness_QueriesAnswered :
    mapped.hears 1#4 ∧ (5#8).toNat ≤ 5 ∧ 5 < (6#8).toNat ∧
      mapped.sst.entry? ((0#8).toNat * 256 + (7#8).toNat) = some measured ∧
      ∀ e ∈ mapped.sst.map, e.fields.site ≠ (0#8).toNat * 256 + (8#8).toNat := by decide

/-- Boundaries of SET_COUNTER: kind 10 and 11, index 3 and 4, the seven final outcomes, and AWAITING_MEASURE. -/
theorem witness_SetCounterAnswer :
    station.hears 1#4 ∧ 10 < (11#8).toNat ∧ EventKind.code .collision = (10#8).toNat ∧ 3 < (4#8).toNat ∧ (3#8).toNat ≤ 3 ∧
      EventKind.code .outcome = (1#8).toNat ∧ 247 &&& (EventKind.qualifiers .outcome).toNat = 247 ∧
      8 &&& (EventKind.qualifiers .outcome).toNat ≠ 8 := by decide

/-- SET_COUNTER of counter 3 to LINK_ERROR with overflow, behind eight messages. -/
theorem witness_SetCounterAnswer_full :
    let s : State := { station with fli.messages := List.replicate 8 q0 }
    s.live ∧ s.own 1#4 ∧ ¬s.hasMessageRoom 1 ∧ EventKind.code .linkError = (7#8).toNat ∧ (3#8).toNat ≤ 3 ∧
      (3#8).toNat < s.evc.length ∧ 0x20 &&& (EventKind.qualifiers .linkError).toNat = 0x20 ∧
      (BitVec.ofNat 20 0x20).getLsbD 5 = true := by decide

/-- R84, R166: the counter is set before its own answer is dropped, and counts the drop. -/
theorem test_counter_counts_the_drop_of_its_answer :
    let s : State := { station with fli.messages := List.replicate 8 q0 }
    let t := after (exec (.setCounter 1#4 [0x55#8, 3#8, 7#8, 0#8, 0#8, 0x20#8]) s)
    (t.evc.map Counter.value, t.fli.txOverflow) = ([0, 0, 0, 1], true) := by decide

/-- A payload of no byte has none of the fifteen lengths; those of 22, 3, 1, 2 and 6 bytes have theirs. -/
theorem witness_UndecodableRefused :
    station.live ∧ station.hasMessageRoom 1 ∧ station.own 1#4 ∧ (0x0F#8).toNat < 0x10 ∧ 0x1E < (0x1F#8).toNat ∧
      (∀ n ∈ [22, 3, 1, 2, 6], ([] : List Byte).length ≠ n ∧ (List.replicate n 0#8).length = n) := by decide

/-! #### The line and the coordination deadlines -/

/-- The station receiving a frame. -/
def receiving : State := { station with fli.engine := .receiving }

/-- The station with a notice on the line. -/
def sending (n : Notice) : State :=
  { station with fli.transmitter := some { frame := .notice n, stale := false, unreported := false } }

/-- A frame of each of the fifteen kinds and of the two kinds beside them, to rank 1 and to all. -/
theorem witness_RequestFrameTaken :
    let s := receiving
    (∀ n ∈ List.range 17, ∀ a ∈ [0x81#8, 0x8F#8],
      let f := LinkFrame.sealed a (BitVec.ofNat 8 (n + 15)) [0x55#8]
      f.kind.toNat = n + 15 ∧ f.payload.length ≤ 32 ∧ f.checkGood = true ∧ f.isMessage = true ∧ f.sender = 0 ∧
        (s.own f.dest ∨ f.dest = 15#4)) ∧
      s.live ∧ s.fli.engine = .receiving ∧ s.fli.transmitter = none := by decide +kernel

theorem witness_TransmitterMoves :
    let s : State := { station with fli.idleCount := 12, fli.notices := [.claim .quiet] }
    let r : QueuedMessage := { message := .reply 0#8 0x14#8 .accepted, restart := false }
    let m : State := { station with fli.idleCount := 12, fli.messages := [r] }
    s.live ∧ (s.fli.sees []).idleCount = 12 ∧ s.fli.transmitter = none ∧ s.fli.stopDrive ≠ .driving ∧
      s.fli.notices = .claim .quiet :: [] ∧ m.fli.notices = [] ∧ m.fli.messages = r :: [] ∧
      (s.fli.sees [false]).idleCount ≠ 12 ∧ (s.fli.sees (false :: List.replicate 11 true)).idleCount ≠ 12 ∧
      (s.fli.sees (false :: List.replicate 12 true)).idleCount = 12 ∧
      (sending (.claim .quiet)).fli.transmitter
        = some { frame := .notice (.claim .quiet), stale := false, unreported := false } ∧
      (∃ q ∈ s.fli.notices, (Notice.claim .quiet).sameKind q = true) ∧
      ∀ q ∈ station.fli.notices, (Notice.claim .quiet).sameKind q = false := by decide

/-- The station with a need for the line to be quiet, set 2,999 ms ago. -/
def needy : State := { station with fcu.need := some { kind := .quiet, since := 7001#32 } }

/-- A claim of the peer that lasts. -/
def peerMark (k : ClaimKind) : PeerMark := { kind := k, expiry := early }

theorem witness_PermitTestDecides :
    let n : Need := { kind := .quiet, since := 7001#32 }
    needy.fcu.need = some n ∧ needy.fcu.claim = .none ∧ needy.fcu.state = .active ∧ needy.fcu.doubtUntil = none ∧
      (needy.tbu.stationTime - n.since).toNat < needy.cfg.patience ∧
      (needy.tbu.stationTime - 7000#32).toNat = needy.cfg.patience ∧
      ({ needy with fcu.state := .listenIn } : State).fcu.state ≠ .active ∧
      ({ needy with fcu.doubtUntil := some early } : State).fcu.doubtUntil ≠ none := by decide

theorem witness_PermitTestDecides_opposed :
    (∃ v ∈ [{ peer with claim := some (peerMark .motion) }], ∃ m, v.claim = some m ∧ m.kind = ClaimKind.quiet.opposite) ∧
      ∃ v ∈ [{ peer with holdoff := some (peerMark .motion) }], ∃ m, v.holdoff = some m ∧ m.kind = ClaimKind.quiet.opposite :=
  ⟨⟨_, .head _, _, rfl, rfl⟩, ⟨_, .head _, _, rfl, rfl⟩⟩

/-- The station whose CLAIM(QUIET) for a waiting INDENT is on the line. -/
def claiming : State :=
  { sending (.claim .quiet) with
    cyc.current := some { work := .indent item, phase := .indent, step := .waiting }
    fcu.claim := .pending .quiet
    fcu.need := some { kind := .quiet, since := 9990#32 } }

theorem witness_ClaimGranted :
    let s := claiming
    s.resetHeld = false ∧
      s.fli.transmitter = some { frame := .notice (.claim .quiet), stale := false, unreported := false } ∧
      s.fcu.claim = .pending .quiet ∧ s.fcu.need = some { kind := .quiet, since := 9990#32 } ∧ s.fcu.state = .active ∧
      s.fcu.doubtUntil = none ∧ s.fcu.holdoff = .none ∧
      s.cyc.current = some { work := .indent item, phase := .indent, step := .waiting } := by decide

/-- The station whose CLAIM(MOTION) for the waiting item is on the line, its axes as given. -/
def claimingMotion (work : Work) (phase : Phase) (mot : Mot) : State :=
  { sending (.claim .motion) with
    cyc.current := some { work := work, phase := phase, step := .waiting }
    sst.map := [entry]
    mot := mot
    fcu.claim := .pending .motion
    fcu.need := some { kind := .motion, since := 9990#32 } }

/-- The axes homed, with the turret, the carriage and Z as given. -/
def homed (turret : Nat) (x y : Int) (z : Nat) : Mot :=
  { station.mot with turret := some turret, carriageHomed := true, zHomed := true, x := x, y := y, z := z }

theorem witness_ClaimGranted_motion :
    let s := claimingMotion (.indent item) .toSite station.mot
    s.fli.transmitter = some { frame := .notice (.claim .motion), stale := false, unreported := false } ∧
      s.fcu.claim = .pending .motion ∧ s.fcu.need = some { kind := .motion, since := 9990#32 } ∧
      s.fieldsOf (.indent item) = some fields ∧ s.cfg.slot fields.indenter = .indenter vickers ∧
      s.fieldsOf (.listed 7) = some fields ∧ s.cfg.slot fields.objective = .objective objective ∧
      (s.frc.state = .retracted ∧ s.frc.rawPrimary = some 0 ∧ s.frc.rawCheck = some 0) ∧
      (s.cfg.freeMin ≤ 0 ∧ 0 ≤ s.cfg.freeMax) ∧ s.mot.zHomed = false ∧
      (homed 2 5 0 9).zHomed = true ∧ (homed 2 5 0 9).turret = some 2 ∧ (homed 2 5 0 9).carriageHomed = true ∧
      (homed 2 5 0 9).x ≠ fields.x - vickers.offsetX ∧ (homed 1 0 5 9).y ≠ fields.y - objective.offsetY ∧
      ((homed 0 0 0 1000).x = fields.x - vickers.offsetX ∧ (homed 0 0 0 1000).y = fields.y - vickers.offsetY ∧
        (homed 0 0 0 1000).turret = some fields.indenter ∧ (homed 0 0 0 1000).z = vickers.standoff) ∧
      0 < s.cfg.settleTime ∧ s.mot.settleEnd = none ∧ (homed 0 0 0 1000).settleEnd = none ∧
      ({ s with cfg.settleTime := 0 } : State).cfg.settleTime = 0 := by decide

/-- The sequences of TO_SITE for slot 0 and of TO_VIEW for slot 1. -/
theorem witness_ClaimGranted_sequences :
    let s := claimingMotion (.indent item) .toSite station.mot
    (∃ r, s.cfg.slot fields.indenter = .indenter r ∧ 0 = fields.x - r.offsetX ∧ 0 = fields.y - r.offsetY ∧
      0 = fields.indenter ∧ 1000 = r.standoff) ∧
    (∃ o, s.cfg.slot fields.objective = .objective o ∧ 0 = fields.x - o.offsetX ∧ 0 = fields.y - o.offsetY ∧
      1 = fields.objective ∧ 200000 = o.focusStart) :=
  ⟨⟨vickers, by decide⟩, ⟨objective, by decide⟩⟩

/-- The interlock test passes on the station. -/
theorem witness_interlock : (claimingMotion (.indent item) .toSite station.mot).interlockPasses :=
  ⟨rfl, 0, 0, rfl, rfl, by decide, by decide, by decide, by decide⟩

/-- Each piece of TO_SITE is the first that does not stand for some axes; an index by 3 slots is a tie. -/
theorem witness_ClaimGranted_first_piece :
    let sequence := [.homeZ, .homeTurret, .homeCarriage, .carriageTo 0 0, .indexTo 0, .rapidTo 1000, Piece.settle]
    ∀ x ∈ [(station.mot, 0, Piece.homeZ), ({ station.mot with zHomed := true }, 1, .homeTurret),
        ({ station.mot with zHomed := true, turret := some 3 }, 2, .homeCarriage),
        (homed 3 5 0 9, 3, .carriageTo 0 0), (homed 3 0 0 9, 4, .indexTo 0), (homed 0 0 0 9, 5, .rapidTo 1000),
        (homed 0 0 0 1000, 6, .settle)],
      sequence[x.2.1]? = some x.2.2 ∧ (∀ q ∈ sequence.take x.2.1, x.1.standsAt q) ∧ ¬x.1.standsAt x.2.2 ∧
        x.1.mayIndex x.2.2 := by
  simp [Mot.standsAt, Mot.mayIndex, homed, station, State.reset]
  decide

/-- An IMAGE grant with both slots FREE, and with slot A computing. -/
theorem witness_ClaimGranted_image :
    let s : State := { claiming with
      cyc.current := some { work := .listed 7, phase := .image, step := .waiting }, sst.map := [entry], mot := homed 1 0 0 5 }
    let b : State := { s with mea.slotA := .filling 9 }
    s.fieldsOf (.listed 7) = some fields ∧ s.cfg.slot fields.objective = .objective objective ∧ 0 < objective.focusCount ∧
      s.mea.slotA = .free ∧ b.mea.slotA ≠ .free ∧ b.mea.slotB = .free ∧ s.mot.zHomed = true ∧ s.mot.zActivity = .idle ∧
      s.mot.stopping = false ∧
      (s.mot.z : Int) ≠ max 0 (min 500000 ((objective.focusStart : Int) + ((objective.focusCount - 1) / 2 : Nat)
        * objective.focusStep)) := by decide

/-- An own holdoff QUEUED behind the CLAIM, and an IMAGE grant with Z at the first height, for one position and for three. -/
theorem witness_ClaimGranted_holdoff_and_height :
    let s : State := { claiming with fcu.holdoff := .queued .quiet, fli.notices := [.holdoff .quiet] }
    let single : ObjectiveRecord := { objective with focusCount := 1 }
    let first := fun (o : ObjectiveRecord) =>
      (max 0 (min 500000 ((o.focusStart : Int) + ((o.focusCount - 1) / 2 : Nat) * o.focusStep))).toNat
    s.fcu.holdoff = .queued .quiet ∧ (s.holdoffOver.fcu.holdoff, s.holdoffOver.fli.notices) = (.none, []) ∧
      first objective = 200010 ∧ first single = 200000 ∧ (homed 1 0 0 200010).z = first objective ∧
      (homed 1 0 0 200000).z = first single ∧ single.focusSettle ≠ 0 ∧
      ({ single with focusSettle := 0 } : ObjectiveRecord).focusSettle = 0 := by decide

theorem witness_ClaimGranted_view : ∀ v ∈ claiming.fcu.view, ∀ m, v.claim = some m → m.kind = .quiet :=
  fun v h => (no_peer_opposes .quiet v h).1

theorem witness_ClaimCompletionWithoutGrant :
    let s := fun claim => ({ sending (.claim .motion) with fcu.claim := claim } : State)
    (s .none).resetHeld = false ∧ (s .none).fcu.state = .active ∧ (s .none).fcu.need = none ∧
      (s (.pending .motion)).fcu.claim = .pending .motion ∧ (s (.held .motion)).fcu.claim = .held .motion ∧
      (s .none).fcu.claim = .none := by decide

/-- A PENDING QUIET claim that completes with a need still set: in LISTEN_IN, in doubt, against a live MOTION claim of a peer
with the patience not passed and just passed, and with a need for MOTION that is unopposed, claimed against and held off. -/
theorem witness_ClaimCompletionWithoutGrant_need :
    let n := fun kind => ({ kind := kind, since := 7001#32 } : Need)
    let s := fun kind view => ({ sending (.claim .quiet) with
      fcu.claim := .pending .quiet, fcu.need := some (n kind), fcu.view := view } : State)
    (s .quiet [peer]).resetHeld = false ∧ (s .quiet [peer]).fcu.claim = .pending .quiet ∧
      (s .quiet [peer]).fcu.state = .active ∧ (s .quiet [peer]).fcu.doubtUntil = none ∧
      (s .quiet [peer]).fcu.holdoff = .none ∧
      ({ s .quiet [peer] with fcu.state := .listenIn } : State).fcu.state = .listenIn ∧
      ({ s .quiet [peer] with fcu.doubtUntil := some early } : State).fcu.doubtUntil ≠ none ∧
      ¬(config.patience ≤ (station.tbu.stationTime - 7001#32).toNat) ∧
      config.patience ≤ (station.tbu.stationTime - 7000#32).toNat ∧ (n .motion).kind ≠ .quiet ∧
      (∀ v ∈ (s .motion [peer]).fcu.view, v.claim = none ∧ v.holdoff = none) := by decide

theorem witness_ClaimCompletionWithoutGrant_opposed :
    (∃ v ∈ [{ peer with claim := some (peerMark .motion) }], ∃ m, v.claim = some m ∧ m.kind = ClaimKind.quiet.opposite) ∧
      (∃ v ∈ [{ peer with claim := some (peerMark .quiet) }], ∃ m, v.claim = some m ∧ m.kind = ClaimKind.motion.opposite) ∧
      ∃ v ∈ [{ peer with holdoff := some (peerMark .quiet) }], ∃ m, v.holdoff = some m ∧ m.kind = ClaimKind.motion.opposite :=
  ⟨⟨_, .head _, _, rfl, rfl⟩, ⟨_, .head _, _, rfl, rfl⟩, ⟨_, .head _, _, rfl, rfl⟩⟩

/-- R58, R55: a QUIET claim that completes for a need of MOTION is taken back, and MOTION is claimed behind its RELEASE. -/
theorem test_claim_of_another_need_is_taken_back :
    let s : State := { sending (.claim .quiet) with
      fcu.claim := .pending .quiet, fcu.need := some { kind := .motion, since := 9990#32 } }
    let t := after (exec .ownFrameCompleted s)
    (t.fcu.claim, t.fli.notices) = (.pending .motion, [.release .quiet, .claim .motion]) := by decide +kernel

/-- The refresh that a release found on the line, and marked stale. -/
theorem witness_ClaimCompletionWithoutGrant_stale :
    let s : State := { station with
      fli.transmitter := some { frame := .notice (.claim .quiet), stale := true, unreported := false } }
    s.resetHeld = false ∧ s.fcu.state = .active ∧ s.fcu.claim = .none := by decide

theorem witness_OwnFrameErrorBeginsDoubt :
    let r : QueuedMessage := { message := .reply 0#8 0x14#8 .accepted, restart := false }
    let s : State := { station with fli.transmitter := some { frame := .message r, stale := false, unreported := false } }
    let q : State := { sending (.release .quiet) with
      fcu.claim := .pending .motion, fcu.need := some { kind := .motion, since := 9990#32 }, fli.notices := [.claim .motion] }
    let h : State := { sending (.claim .quiet) with fcu.claim := .held .quiet }
    let w : State := { sending (.holdoff .quiet) with fcu.holdoff := .queued .quiet, fcu.need := needy.fcu.need }
    s.resetHeld = false ∧ s.fcu.state = .active ∧ s.fcu.holdoff = .none ∧ r.restart = false ∧ s.fcu.claim = .none ∧
      q.fcu.claim = .pending .motion ∧ (∃ n ∈ q.fli.notices, n.isClaim = true) ∧ q.fcu.holdoff = .none ∧
      claiming.fcu.claim = .pending .quiet ∧ claiming.fcu.need = some { kind := .quiet, since := 9990#32 } ∧
      claiming.fcu.holdoff = .none ∧ (∀ n ∈ claiming.fli.notices, n.isClaim = false) ∧ h.fcu.claim = .held .quiet ∧
      h.fcu.state = .active ∧ w.fcu.claim = .none ∧ w.fcu.need ≠ none ∧ ∀ n ∈ w.fli.notices, n.isHoldoff = false := by
  decide

theorem witness_peer_notices :
    let s := receiving
    s.live ∧ (2 ≤ 7 ∧ 7 ≤ 7) ∧ 2 ≠ s.fli.rank ∧ (∃ v ∈ s.fcu.view, v.rank = 2) ∧
      (∃ v ∈ ({ s with fcu.view := [ViewEntry.cleared 7] } : State).fcu.view, v.rank = 7) ∧
      (s.fcu.state = .listenIn ∨ s.fcu.state = .active) ∧ s.fli.engine = .receiving ∧ s.fli.transmitter = none ∧
      s.fcu.claim = .none ∧ s.fcu.holdoff = .none := by decide

/-- A HOLDOFF(MOTION) meets an own holdoff for QUIET, QUEUED or SENT. -/
theorem witness_PeerClaimAndHoldoff_opposed :
    let q : State := { receiving with fcu.holdoff := .queued .quiet, fli.notices := [.holdoff .quiet] }
    let t : State := { receiving with fcu.holdoff := .sent .quiet }
    q.fcu.holdoff = .queued (ClaimKind.opposite .motion) ∧ (∃ n ∈ q.fli.notices, n.isHoldoff = true) ∧
      t.fcu.holdoff = .sent (ClaimKind.opposite .motion) ∧
      ∀ k, receiving.fcu.holdoff ≠ .queued (ClaimKind.opposite k) ∧ receiving.fcu.holdoff ≠ .sent (ClaimKind.opposite k) :=
  ⟨by decide, by decide, by decide, fun _ => ⟨nofun, nofun⟩⟩

/-- A PENDING claim for QUIET with its CLAIM queued, which MOTION of the peer opposes, before its patience has passed and after. -/
theorem witness_PeerClaimAndHoldoff_pending :
    let s := fun (since : Time) => ({ receiving with
      fcu.claim := .pending .quiet, fcu.need := some { kind := .quiet, since := since }
      fli.notices := [.claim .quiet] } : State)
    (s 7000#32).live ∧ (s 7000#32).fcu.state = .active ∧ (s 7000#32).fcu.doubtUntil = none ∧
      (s 7000#32).fcu.claim = .pending (ClaimKind.opposite .motion) ∧
      (s 7000#32).fcu.need = some { kind := .quiet, since := 7000#32 } ∧ .quiet = ClaimKind.opposite .motion ∧
      (∃ q ∈ (s 7000#32).fli.notices, q.isClaim = true) ∧ (s 7000#32).fcu.holdoff = .none ∧
      (s 7000#32).cfg.patience ≤ ((s 7000#32).tbu.stationTime - 7000#32).toNat ∧
      ¬(s 7001#32).cfg.patience ≤ ((s 7001#32).tbu.stationTime - 7001#32).toNat ∧
      ∀ q ∈ ({ s 7000#32 with fli.notices := [.hello .resume] } : State).fli.notices, q.isClaim = false := by decide

theorem witness_CollisionIsRecorded :
    let s : State := { at_ (.indent item) .indent .working (.held .quiet) with fli.engine := .receiving }
    s.live ∧ (∃ v ∈ s.fcu.view, v.rank = 2) ∧ s.fcu.state = .active ∧ s.fli.engine = .receiving ∧
      s.fli.transmitter = none ∧ s.fcu.claim = .held (ClaimKind.opposite .motion) ∧
      s.cyc.current = some { work := .indent item, phase := .indent, step := .working } ∧ 2 ∉ s.fcu.collided := by decide

/-- Destination 8 and 14 are stray; a check of 0 is wrong for a frame of zeros; the run lengths at the bounds. -/
theorem witness_LineErrorsCounted :
    receiving.live ∧ receiving.fli.engine = .receiving ∧ receiving.fli.transmitter = none ∧
      ({ arbitration := 0#8, kind := 0#8, payload := [], check := 0#16 } : LinkFrame).checkGood = false ∧
      (LinkFrame.sealed 0x08#8 0#8 []).checkGood = true ∧ 8 ≤ (LinkFrame.sealed 0x08#8 0#8 []).dest.toNat ∧
      (LinkFrame.sealed 0x0E#8 0#8 []).dest.toNat ≤ 14 ∧ 32 < (33#8).toNat ∧ (9 ≤ 9 ∧ 16 ≤ 16) ∧
      (17 ≤ 17 ∧ 49 ≤ 49) ∧ (151 ≤ 151 ∧ 499 ≤ 499) ∧ 500 ≤ 500 := by decide +kernel

/-- Frames that are not recorded: to rank 3, a message of rank 2, a notice of the own rank, of rank 3 (which the view lacks), to
the own rank alone, and four that cannot be decoded. -/
theorem witness_LineErrorsCounted_unrecorded :
    let f := fun a k (p : List Byte) => LinkFrame.sealed a k p
    (∀ g ∈ [f 0x23#8 2#8 [0#8], f 0xA1#8 0x14#8 [0#8], f 0x1F#8 2#8 [0#8], f 0x3F#8 2#8 [0#8], f 0x21#8 2#8 [0#8],
        f 0x2F#8 0#8 [0#8], f 0x2F#8 5#8 [0#8], f 0x2F#8 1#8 [3#8], f 0x2F#8 4#8 [2#8], f 0x2F#8 1#8 []],
      g.payload.length ≤ 32 ∧ g.checkGood = true) ∧
      (f 0x23#8 2#8 [0#8]).dest.toNat = 3 ∧ ¬receiving.own (f 0x23#8 2#8 [0#8]).dest ∧
      ((f 0xA1#8 0x14#8 [0#8]).isMessage = true ∧ (f 0xA1#8 0x14#8 [0#8]).sender = 2 ∧
        receiving.own (f 0xA1#8 0x14#8 [0#8]).dest) ∧
      ((f 0x1F#8 2#8 [0#8]).isMessage = false ∧ (f 0x1F#8 2#8 [0#8]).sender = receiving.fli.rank ∧
        (f 0x1F#8 2#8 [0#8]).dest = 15#4) ∧
      (f 0x3F#8 2#8 [0#8]).sender = 3 ∧ (∀ v ∈ receiving.fcu.view, v.rank ≠ 3) ∧ (∃ v ∈ receiving.fcu.view, v.rank = 2) ∧
      (f 0x21#8 2#8 [0#8]).dest ≠ 15#4 ∧ receiving.fcu.state = .active ∧
      ({ receiving with fcu.state := .halted } : State).fcu.claim = .none := by decide +kernel

theorem witness_ClearPulseBeginsDoubt :
    let l : State := { needy with fcu.state := .listenIn }
    station.live ∧ (50 ≤ 50 ∧ 150 ≤ 150) ∧ station.fcu.quietState ∧
      (station.fcu.state = .listenIn ∨ station.fcu.state = .active) ∧
      (l.fcu.state = .listenIn ∧ l.fcu.need ≠ none ∧ l.fcu.claim = .none ∧ l.fcu.holdoff = .none) ∧
      (({ station with fcu.state := .halted } : State).fcu.state = .inactive ∨
        ({ station with fcu.state := .halted } : State).fcu.state = .halted) := by decide

theorem witness_HaltStopsEverything :
    station.resetHeld = false ∧ station.fli.transmitter = none ∧ station.cyc.current = none ∧
      (stationIn .start).cyc.mode = .start ∧ station.fcu.state ≠ .inactive ∧ station.mot.stopping = false ∧
      loading.resetHeld = false ∧ loading.fli.transmitter = none ∧ loading.frc.state = .load ∧
      ({ loading with frc.state := .tare } : State).frc.state = .tare ∧ station.frc.state = .retracted ∧
      ({ station with img.state := .capture } : State).img.state ≠ .idle := by decide

/-- A current item in each phase, and one in ENDING; slot B computing beside a FILLING slot A. -/
theorem witness_HaltStopsEverything_item :
    let c := fun (p : Phase) (k : CycStep) => ({ work := .indent item, phase := p, step := k } : Current)
    let v : State := { at_ (.listed 7) .toView .waiting .none with sst.map := [entry] }
    let r : State := { at_ (.remeasure 7) .image .waiting .none with sst.map := [measured] }
    let i : State := { v with
      cyc.current := some { work := .listed 7, phase := .image, step := .working }
      img := { station.img with state := .capture, reserved := some .a }
      mea := { slotA := .filling 7, slotB := .filling 8 } }
    (at_ (.indent item) .toSite .waiting .none).cyc.current = some (c .toSite .waiting) ∧
      (at_ (.indent item) .indent .waiting .none).cyc.current = some (c .indent .waiting) ∧
      (at_ (.indent item) .indent .waiting .none).cyc.contactMark = none ∧ station.frc.state ≠ .hold ∧
      loading.cyc.current = some (c .indent .working) ∧ loading.cyc.contactMark = some .internal ∧
      loading.sst.entry? item.fields.site = some entry ∧
      (at_ (.indent item) .indent .ending (.held .quiet)).cyc.current = some (c .indent .ending) ∧
      v.cyc.current = some { work := .listed 7, phase := .toView, step := .waiting } ∧
      v.sst.entry? 7 = some entry ∧ r.sst.entry? 7 = some measured ∧
      r.cyc.current = some { work := .remeasure 7, phase := .image, step := .waiting } ∧
      v.hasMessageRoom 1 ∧ i.img.state.working = true ∧ i.img.reserved = some .a ∧ i.mea.get .a = .filling 7 ∧
      i.resetHeld = false ∧ i.fli.transmitter = none := by decide

/-- A HALT that finds an own notice, an own reply and the reply of a RESTART in the transmitter. -/
theorem witness_HaltStopsEverything_own_frame :
    let reply : QueuedMessage := { message := .reply 0#8 0x18#8 .accepted, restart := true }
    let sent := fun m => ({ frame := .message m, stale := false, unreported := false } : Transmission)
    (sending (.claim .quiet)).resetHeld = false ∧ (sending (.claim .quiet)).fli.transmitter ≠ none ∧
      ({ station with fli.transmitter := some (sent reply) } : State).fli.transmitter = some (sent reply) ∧
      reply.restart = true ∧ (sent { reply with restart := false }).frame ≠ .message reply := by decide

/-- Levels of both kinds, as a frame's are. -/
theorem witness_LineAndStopDrive_levels : true ∈ [false, true] ∧ false ∈ [false, true] := by decide

theorem witness_LineAndStopDrive_own_frame :
    let s := fun d => ({ sending (.claim .quiet) with fli.stopDrive := d } : State)
    (s .notDriving).live ∧ (s .notDriving).fli.stopDrive ≠ .driving ∧ (s .waiting).fli.stopDrive = .waiting ∧
      (s .waiting).fli.transmitter ≠ none := by decide

theorem witness_LineAndStopDrive :
    let s := fun d => ({ station with fli.stopDrive := d, fli.engine := .ready } : State)
    (s .driving).live ∧ (s .driving).fli.stopDrive = .driving ∧ (s .waiting).fli.stopDrive = .waiting ∧
      (s .waiting).fli.stopDrive ≠ .driving ∧ (s .notDriving).fli.stopDrive ≠ .driving ∧
      (s .notDriving).fli.transmitter = none ∧ (s .driving).fli.engine = .ready ∧ receiving.fli.engine ≠ .ready ∧
      receiving.fli.engine = .receiving := by decide

/-- R78: after the start bit, a loss at the first arbitration bit makes a run of 2; a recessive bit between begins a new run. -/
theorem test_loss_run_length :
    let s : State := { sending (.claim .quiet) with fli.idleCount := 0, fli.runLength := 1, fli.engine := .receiving }
    (s.fli.lost []).runLength = 2 ∧ (s.fli.lost [false]).runLength = 3 ∧ (s.fli.lost [false, true]).runLength = 1 ∧
      (s.ownMismatched [false, true, false]).fli.runLength = 2 ∧ (s.ownMismatched []).fli.engine = .sync := by decide

/-- R85: the first bit of a STOP pulse is a start bit to a READY engine, not to one in SYNC. -/
theorem test_stop_pulse_is_a_start_bit :
    let s := fun e => ({ station with fli.engine := e, fli.idleCount := 11, fli.runLength := 0 } : State)
    ((s .ready).stopAsserted false []).fli.engine = .receiving ∧ ((s .sync).stopAsserted false []).fli.engine = .sync ∧
      ((s .sync).stopAsserted false [true]).fli.engine = .receiving ∧ ((s .ready).stopAsserted true []).fli.runLength = 1 ∧
      ((s .ready).stopAsserted true [false, false]).fli.runLength = 3 := by decide

theorem witness_TickAdvances :
    station.live ∧ station.fcu.need = none ∧ (at_ (.indent item) .indent .working (.held .quiet)).fcu.claim = .held .quiet ∧
      needy.fcu.need = some { kind := .quiet, since := 7001#32 } ∧ ∀ k, needy.fcu.claim ≠ .held k := by
  refine ⟨by decide, by decide, by decide, by decide, nofun⟩

theorem witness_deadlines :
    reached.interval ≤ (station.tbu.stationTime - reached.setAt).toNat ∧
      (station.tbu.stationTime - early.setAt).toNat < early.interval ∧
      reached.interval = (station.tbu.stationTime - reached.setAt).toNat ∧
      (station.tbu.stationTime - early.setAt).toNat + 1 = early.interval := by decide

theorem witness_ListenInAndDoubtEnd :
    let s : State := { station with fcu.state := .listenIn, fcu.listenEnd := some reached }
    s.live ∧ s.fcu.state = .listenIn ∧ s.fcu.listenEnd = some reached ∧
      ({ station with fcu.doubtUntil := some early } : State).fcu.doubtUntil = some early := by decide

theorem witness_ClaimRefreshQueued :
    let s : State := { sending (.claim .quiet) with fcu.claim := .held .quiet, fcu.claimRefresh := some reached }
    s.live ∧ s.fcu.claim = .held .quiet ∧ s.fcu.claimRefresh = some reached ∧ s.fcu.state = .active ∧
      s.fli.transmitter = some { frame := .notice (.claim .quiet), stale := false, unreported := false } ∧
      ({ s with fli.notices := [.hello .resume, .claim .motion, .release .quiet] } : State).fli.notices
        = [.hello .resume] ++ .claim .motion :: [.release .quiet] ∧
      (∀ q ∈ [Notice.hello .resume], q.isClaim = false) ∧ (∀ q ∈ [Notice.release .quiet], q.isClaim = false) ∧
      ∀ q ∈ s.fli.notices, q.isClaim = false := by decide

theorem witness_HoldoffQueuedAndRefreshed :
    let n : Need := { kind := .quiet, since := 7000#32 }
    let s : State := { station with fcu.need := some n }
    station.live ∧ station.fcu.need = none ∧
    s.live ∧ s.fcu.need = some n ∧ s.fcu.claim = .none ∧ s.fcu.holdoff = .none ∧ s.fcu.state = .active ∧
      s.fcu.doubtUntil = none ∧ s.cfg.patience ≤ (s.tbu.stationTime - n.since).toNat ∧
      (needy.tbu.stationTime - 7001#32).toNat < needy.cfg.patience ∧
      ({ s with fcu.claim := .pending .quiet } : State).fcu.claim ≠ .none ∧
      ({ s with fcu.holdoff := .queued .quiet } : State).fcu.holdoff = .queued n.kind ∧
      (sending (.holdoff .quiet)).fli.transmitter
        = some { frame := .notice (.holdoff n.kind), stale := false, unreported := false } ∧
      ({ s with fcu.holdoff := .sent .quiet, fcu.holdoffRefresh := some reached } : State).fcu.holdoffRefresh
        = some reached := by decide

/-- No holdoff of the view opposes the need, and one does. -/
theorem witness_HoldoffQueuedAndRefreshed_view :
    (∀ v ∈ station.fcu.view, ∀ m, v.holdoff = some m → m.kind = .quiet) ∧
      ∃ v ∈ [{ peer with holdoff := some (peerMark .motion) }], ∃ m, v.holdoff = some m ∧ m.kind ≠ .quiet :=
  ⟨fun v h => (no_peer_opposes .quiet v h).2, _, .head _, _, rfl, by decide⟩

theorem witness_ViewExpiryLapses :
    let m : PeerMark := { kind := .quiet, expiry := reached }
    let s : State := { station with fcu.view := [{ peer with claim := some m }] }
    let h : State := { station with fcu.view := [{ peer with holdoff := some m }] }
    let w : State := { s with fcu.need := some { kind := .motion, since := 9990#32 } }
    s.live ∧ s.fcu.need = none ∧ m.expiry.interval ≤ (s.tbu.stationTime - m.expiry.setAt).toNat ∧
      s.fcu.view = [{ peer with claim := some m }] ∧ ({ peer with claim := some m } : ViewEntry).holdoff = none ∧
      h.fcu.view = [{ peer with holdoff := some m }] ∧ ({ peer with holdoff := some m } : ViewEntry).claim = none ∧
      (∀ v ∈ station.fcu.view, v.claim = none ∧ v.holdoff = none) ∧
      w.live ∧ w.fcu.need = some { kind := .motion, since := 9990#32 } ∧ w.fcu.claim = .none ∧ w.fcu.state = .active ∧
      w.fcu.doubtUntil = none ∧ w.fcu.view = [{ peer with claim := some m }] := by decide

/-- A view of three entries: a claim that lapses, a claim and a holdoff that lapse together, and a claim that stays; with a
counter one short of its bound and one at it. -/
def lapsing : State :=
  let m : PeerMark := { kind := .quiet, expiry := reached }
  { station with
    fcu.view :=
      [{ peer with claim := some m }, { ViewEntry.cleared 3 with claim := some m, holdoff := some m },
        { ViewEntry.cleared 4 with claim := some (peerMark .quiet) }]
    evc :=
      [{ kind := .expiry, mask := 3#20, value := 0 }, { kind := .expiry, mask := 1#20, value := 4294967294 },
        { kind := .expiry, mask := 2#20, value := 4294967295 }, { kind := .block, mask := 3#20, value := 5 }] }

theorem witness_ViewExpiryLapses_counts :
    lapsing.live ∧ lapsing.fcu.need = none ∧ (∀ c ∈ lapsing.evc, c.value ≤ 4294967295) ∧
      reached.interval ≤ (lapsing.tbu.stationTime - reached.setAt).toNat := by decide

/-- R68, R174: three lapses, two of claims and one of a holdoff, at four counters. -/
theorem test_view_expiry_counts :
    let t := after (exec .viewExpiry lapsing)
    (t.evc.map Counter.value, t.fcu.view.map fun v => (v.claim.isSome, v.holdoff.isSome)) =
      ([3, 4294967295, 4294967295, 5], [(false, false), (false, false), (true, false)]) := by decide +kernel

/-! #### Motion -/

/-- Each drive under way, before a rest of the sequence. -/
theorem witness_MotionPiecesComplete :
    let s := fun p => ({ station with mot.sequence := some [p, .indexTo 2, .settle] } : State)
    (s .homeTurret).live ∧ (s .homeTurret).mot.sequence = some (.homeTurret :: [.indexTo 2, .settle]) ∧
      (s .homeTurret).mot.stopping = false ∧ 0 < (s .homeTurret).cfg.settleTime ∧
      ({ s .homeTurret with mot.turretActivity := .homing } : State).mot.turretActivity = .homing ∧ (1 ≠ 3) ∧
      ({ s (.indexTo 2) with mot.turretActivity := .indexing 2 3 true } : State).mot.turretActivity = .indexing 2 3 true ∧
      ({ s .homeCarriage with mot.carriageActivity := .homing true false } : State).mot.carriageActivity
        = .homing true false ∧
      ({ s .homeCarriage with mot.carriageActivity := .homing false true } : State).mot.carriageActivity
        = .homing false true ∧
      ({ s .homeCarriage with mot.carriageActivity := .homing false false } : State).mot.carriageActivity
        = .homing false false ∧
      ({ s (.carriageTo 5 6) with mot.carriageActivity := .moving 5 6 } : State).mot.carriageActivity = .moving 5 6 ∧
      ({ s .homeZ with mot.zActivity := .homing } : State).mot.zActivity = .homing ∧
      ({ s (.rapidTo 1000) with mot.zActivity := .rapid 1000 } : State).mot.zActivity = .rapid 1000 := by decide

/-- The next piece once a drive has ended: a turret or a carriage homing after a Z homing, a carriage move and an index after a
homing, a rapid move past an index that stands, and settle. -/
theorem witness_MotionPiecesComplete_next :
    ∀ x ∈ [({ station.mot with zHomed := true }, [.homeTurret, .homeCarriage, .settle], 0, Piece.homeTurret),
        ({ station.mot with zHomed := true, turret := some 0 }, [.homeTurret, .homeCarriage, .settle], 1, .homeCarriage),
        (homed 0 5 6 9, [.carriageTo 0 0, .indexTo 2, .settle], 0, .carriageTo 0 0),
        (homed 0 5 6 9, [.indexTo 4, .rapidTo 1000, .settle], 0, .indexTo 4),
        (homed 2 5 6 9, [.indexTo 2, .rapidTo 1000, .settle], 1, .rapidTo 1000),
        (homed 2 5 6 1000, [.indexTo 2, .rapidTo 1000, .settle], 2, .settle)],
      x.2.1[x.2.2.1]? = some x.2.2.2 ∧ (∀ r ∈ x.2.1.take x.2.2.1, x.1.standsAt r) ∧ ¬x.1.standsAt x.2.2.2 ∧
        x.1.mayIndex x.2.2.2 ∧ (x.2.2.2 = .settle → x.2.1.drop (x.2.2.1 + 1) = []) := by
  simp [Mot.standsAt, Mot.mayIndex, homed, station, State.reset]
  decide

/-- The free window holds at both of its ends. -/
theorem witness_MotionPiecesComplete_interlock :
    ∃ a b, ({ station with frc.rawPrimary := some (-400000), frc.rawCheck := some 400000 } : State).frc.rawPrimary = some a ∧
      ({ station with frc.rawPrimary := some (-400000), frc.rawCheck := some 400000 } : State).frc.rawCheck = some b ∧
      station.cfg.freeMin ≤ a ∧ a ≤ station.cfg.freeMax ∧ station.cfg.freeMin ≤ b ∧ b ≤ station.cfg.freeMax :=
  ⟨-400000, 400000, rfl, rfl, by decide, by decide, by decide, by decide⟩

/-- The station homing its turret for an INDENT item, with a deadline just reached. -/
def moving : State :=
  { at_ (.indent item) .toSite .working (.held .motion) with
    mot.sequence := some [.homeTurret, .rapidTo 1000, .settle]
    mot.turretActivity := .homing
    mot.moveDeadline := some reached }

theorem witness_MotionFaultsStation :
    let s := moving
    s.live ∧ s.hasMessageRoom 1 ∧ s.cyc.mode = .running ∧
      s.cyc.current = some { work := .indent item, phase := .toSite, step := .working } ∧
      s.fcu.claim = .held .motion ∧ s.fcu.need = none ∧ s.fcu.holdoff = .none ∧ s.fcu.block = none ∧
      s.frc.state = .retracted ∧ s.img.state = .idle ∧ s.mot.stopping = false ∧ s.mot.moveDeadline = some reached ∧
      s.mot.turretActivity = .homing ∧ s.mot.carriageActivity = .idle ∧ s.mot.zActivity = .idle ∧
      ({ s with mot.turretActivity := .idle, mot.zActivity := .homing } : State).mot.zActivity = .homing ∧
      ({ s with mot.turretActivity := .idle, mot.carriageActivity := .moving 5 6 } : State).mot.carriageActivity
        = .moving 5 6 ∧
      ({ s with mot.moveDeadline := some early } : State).mot.moveDeadline = some early ∧
      s.mot.sequence = some (.homeTurret :: .rapidTo 1000 :: [.settle]) ∧ s.mot.z ≠ 1000 ∧
      ({ s with frc.rawPrimary := some 400001 } : State).frc.rawPrimary = some 400001 ∧ s.cfg.freeMax < 400001 ∧
      (-400001 : Int) < s.cfg.freeMin := by decide

/-- The end of settle in TO_SITE, and of a fine step for an objective with and without a focus settle. -/
theorem witness_SettleStepAndRest :
    let s : State := { at_ (.indent item) .toSite .working (.held .motion) with
      mot.sequence := some [.settle], mot.settleEnd := some reached }
    let f : State := { station with mot.zActivity := .fine 200010, img.state := .step, img.objective := some 1 }
    s.live ∧ s.mot.settleEnd = some reached ∧
      s.cyc.current = some { work := .indent item, phase := .toSite, step := .working } ∧ s.cyc.workMode = .perSite ∧
      s.sst.measureList = [] ∧ s.fcu.claim = .held .motion ∧ s.fcu.need = none ∧ s.fcu.state = .active ∧
      s.fcu.doubtUntil = none ∧ (∀ v ∈ s.fcu.view, v.claim = none ∧ v.holdoff = none) ∧ s.frc.state = .retracted ∧
      s.mot.stopping = false ∧ s.img.state = .idle ∧
      ({ s with mot.settleEnd := some early } : State).mot.settleEnd = some early ∧
      f.mot.zActivity = .fine 200010 ∧ f.mot.stopping = false ∧ f.img.state = .step ∧ f.img.objective = some 1 ∧
      f.cfg.slot 1 = .objective objective ∧ objective.focusSettle ≠ 0 ∧
      ({ f with cfg.slots := [.empty, .objective { objective with focusSettle := 0 }] } : State).cfg.slot 1
        = .objective { objective with focusSettle := 0 } := by decide

/-- One axis at a time comes to rest, from each of its activities. -/
theorem witness_SettleStepAndRest_rest :
    let s : State := { station with mot.stopping := true }
    let m := s.mot
    s.live ∧ m.stopping = true ∧ s.cyc.current = none ∧ m.turretActivity = .idle ∧ m.carriageActivity = .idle ∧
      m.zActivity = .idle ∧ ({ m with turretActivity := .homing } : Mot).turretActivity = .homing ∧
      ({ m with turretActivity := .indexing 2 1 true } : Mot).turretActivity = .indexing 2 1 true ∧
      ({ m with carriageActivity := .homing true false } : Mot).carriageActivity = .homing true false ∧
      ({ m with carriageActivity := .moving 5 6 } : Mot).carriageActivity = .moving 5 6 ∧
      ({ m with zActivity := .homing } : Mot).zActivity = .homing ∧
      ({ m with zActivity := .rapid 1000 } : Mot).zActivity = .rapid 1000 ∧
      ({ m with zActivity := .fine 1000 } : Mot).zActivity = .fine 1000 ∧ station.mot.stopping = false := by decide

/-- An item in ENDING of a motion phase and of IMAGE as its axes come to rest, in RUNNING and in PAUSING, with nothing left and
with an undelivered entry; one at work, one that waits, and the Force Unit not yet RETRACTED. -/
theorem witness_SettleStepAndRest_ending :
    let stop := fun (u : State) => ({ u with mot.stopping := true, mot.zActivity := .rapid 1000 } : State)
    let s := stop (at_ (.indent item) .toSite .ending (.held .motion))
    let i : State := { stop (at_ (.listed 7) .image .ending (.held .quiet)) with
      img.state := .ending, mot.zActivity := .fine 1000, sst.map := [entry] }
    let w := stop (at_ (.indent item) .toView .waiting .none)
    s.live ∧ s.mot.stopping = true ∧ s.mot.turretActivity = .idle ∧ s.mot.carriageActivity = .idle ∧
      s.mot.zActivity = .rapid 1000 ∧ s.cyc.current = some { work := .indent item, phase := .toSite, step := .ending } ∧
      s.fcu.claim = .held .motion ∧ s.fcu.need = none ∧ s.cyc.mode = .running ∧ s.cyc.batch = none ∧ s.sst.queue = [] ∧
      s.sst.map = [] ∧ ({ s with cyc.mode := .pausing } : State).cyc.mode = .pausing ∧ s.frc.state = .retracted ∧
      ({ s with frc.state := .fastUnload } : State).frc.state ≠ .retracted ∧
      (s.img.state = .idle ∨ s.img.state = .ending) ∧ (i.img.state = .idle ∨ i.img.state = .ending) ∧
      i.fcu.claim = .held .quiet ∧ i.sst.measureList.find? (fun id => !i.cyc.delivered.contains id) = some 7 ∧
      i.fcu.state = .active ∧ i.fcu.doubtUntil = none ∧ i.fcu.view = station.fcu.view ∧
      w.cyc.current = some { work := .indent item, phase := .toView, step := .waiting } ∧ w.fcu.need = none ∧
      w.fcu.claim = .none ∧ w.cyc.cue = .none ∧ w.sst.measureList = [] ∧ w.mea.slotA = .free := by decide

/-- R44, R61, R105: at rest the item in ENDING ends, MOTION is released, and with nothing left the cue is PLAN. -/
theorem test_axes_at_rest_end_the_item :
    let s : State := { at_ (.indent item) .toView .ending (.held .motion) with
      mot.stopping := true, mot.zActivity := .rapid 1000 }
    let t := after (exec (.axesStopped 0 0 777) s)
    (t.cyc.current, t.cyc.cue, t.fcu.claim, t.fli.notices, t.mot.z) =
      (none, .plan, .none, [.release .motion], 777) := by decide +kernel

/-- R99: after the turret homing, an index to slot 4 goes 2 slots the negative way, with 3,000 ms. -/
theorem test_index_goes_the_shorter_way :
    let s : State := { moving with mot.sequence := some [.homeTurret, .indexTo 4, .settle] }
    let t := (after (exec .turretHomeFound s)).mot
    (t.turret, t.turretActivity, t.moveDeadline) =
      (none, .indexing 4 2 false, some { setAt := 10000#32, interval := 3000 }) := by decide +kernel

/-- R85: a frame whose length byte ends in 12 recessive bits on an idle line leaves the engine READY. -/
theorem test_length_FF_leaves_ready :
    let t := (after (exec (.lengthAbove32 0xFF#8 0x10#8 0xFF#8) receiving)).fli
    (t.engine, t.idleCount) = (.ready, 12) := by decide +kernel

/-- R68: with no expiry reached a waiting need starts no holdoff and no claim. -/
theorem test_view_expiry_not_due :
    let s : State := { station with
      fcu.view := [{ peer with claim := some (peerMark .quiet) }], fcu.need := some { kind := .motion, since := 7000#32 } }
    after (exec .viewExpiry s) = s := by decide +kernel

/-! #### Force and the timebase -/

/-- The station in a force state of the loading cycle. -/
def forcing (state : ForceState) (pairs : Nat) : State := { loading with frc.state := state, frc.pairs := pairs }

/-- A shift of 20,000 lies in the open-wire window and one of 19,999 does not. -/
theorem witness_ForceCycleBegins :
    let s := forcing .wireTest 31
    let inWindow := fun (sum zero : Int) => s.cfg.owMin ≤ (sum + 16) / 32 - zero ∧ (sum + 16) / 32 - zero ≤ s.cfg.owMax
    let low := fun (n : Int) => ({ s with frc.sumPrimary := n, frc.sumCheck := n } : State)
    s.live ∧ (forcing .tare 63).frc.state = .tare ∧ (forcing .tare 63).frc.pairs = 63 ∧ s.frc.state = .wireTest ∧
      s.frc.tare = some (0, 0) ∧ s.frc.pairs = 31 ∧ (forcing .wireTest 39).frc.pairs = 39 ∧ s.cyc.mode ≠ .faulted ∧
      inWindow ((low 639984).frc.sumPrimary + (0#24 : RawSample).toInt) 0 ∧
      inWindow ((low 6400015).frc.sumCheck + (0#24 : RawSample).toInt) 0 ∧
      ¬inWindow ((low 639983).frc.sumPrimary + (0#24 : RawSample).toInt) 0 := by decide

/-- The other pairs of TARE, and of the open-wire test on both sides of its 32nd and before its 40th. -/
theorem witness_ForceCycleBegins_pairs :
    (∀ n ∈ [0, 62, 64], (forcing .tare n).live ∧ (forcing .tare n).frc.state = .tare ∧ (forcing .tare n).frc.pairs ≠ 63) ∧
      (∀ n ∈ [0, 30], (forcing .wireTest n).frc.state = .wireTest ∧ (forcing .wireTest n).frc.pairs < 31) ∧
      ∀ n ∈ [32, 38], 31 < (forcing .wireTest n).frc.pairs ∧ (forcing .wireTest n).frc.pairs < 39 := by decide

/-- The item of a failed open-wire test, working before contact and ending. -/
theorem witness_ForceCycleBegins_item :
    let s : State := { forcing .wireTest 31 with cyc.contactMark := none, frc.contact := false, sst.map := [] }
    let e : State := { s with cyc.current := some { work := .indent item, phase := .indent, step := .ending } }
    s.live ∧ s.cyc.mode ≠ .faulted ∧ s.fcu.claim = .held .quiet ∧ s.hasMessageRoom 1 ∧
      s.cyc.current = some { work := .indent item, phase := .indent, step := .working } ∧ s.cyc.contactMark = none ∧
      e.cyc.current = some { work := .indent item, phase := .indent, step := .ending } := by decide

/-- Around the thresholds at a zero of 0: 1,560 reads 98 mN and 1,559 reads 97, 82,376 reads 5,149 and 82,375 reads 5,148,
776 reads 49 and 775 reads 48. -/
theorem witness_ContactRampAndDwell_boundaries :
    let k := config.forceCycle 4903 10000 (some 4000)
    let reading := fun (raw : RawSample) =>
      max (-200000) (min 200000 (((raw.toInt - 0) * (config.primaryGain : Int) + 32768) / 65536))
    (k.contactAt : Int) ≤ reading 1560#24 ∧ reading 1559#24 < k.contactAt ∧ (k.overloadAt : Int) < reading 82376#24 ∧
      ¬(k.overloadAt : Int) < reading 82375#24 ∧ 2 * reading 775#24 < k.contactAt ∧ ¬2 * reading 776#24 < k.contactAt := by
  decide

/-- States for the clauses of a sample pair: the stroke on its way and at its end, a pair within the dwell, a lost contact, the
unload and its last pair, and the withdrawals by contact. -/
theorem witness_ContactRampAndDwell_states :
    let bare : State := { forcing .approach 0 with
      cyc.contactMark := none, frc.contact := false, sst.map := [], cfg.strokeLength := 200 }
    let at' := fun z => ({ bare with frc.stroke := some z } : State)
    let h : State := { forcing .hold 0 with
      frc.holdTicks := 9998, frc.holdSamples := 9, frc.disagreement := 2
      frc.holdSource := some { opening := .internal, marks := [] } }
    (at' 199999).frc.stroke = some 199999 ∧ 199999 ≠ (at' 199999).cfg.strokeLength * 1000 ∧
      (at' 200000).frc.stroke = some 200000 ∧ 200000 = (at' 200000).cfg.strokeLength * 1000 ∧ bare.cyc.contactMark = none ∧
      bare.hasMessageRoom 1 ∧ bare.live ∧
      (∀ d ∈ bare.sst.map, d.fields.site ≠ item.fields.site) ∧
      (h.frc.state = .hold ∧ h.frc.holdTicks + 1 ≠ 10000 ∧ h.frc.holdSource = some { opening := .internal, marks := [] } ∧
        h.cyc.contactMark = some .internal ∧ h.sst.entry? item.fields.site = some entry ∧ h.hasMessageRoom 1) ∧
      (loading.frc.state = .load ∧ loading.frc.pairs + 1 ≠ 4000 ∧ loading.cyc.contactMark = some .internal ∧
        loading.sst.entry? item.fields.site = some entry ∧ loading.hasMessageRoom 1) ∧
      (forcing .unload 5999).frc.state = .unload ∧
      ({ forcing .unload 5999 with frc.stroke := some 0 } : State).frc.stroke = some 0 ∧
      ({ forcing .fastUnload 0 with frc.stroke := some 2000 } : State).frc.stroke = some 2000 := by decide

/-- The raw samples that read 98 mN, the contact threshold, and 5,148 mN, the overload threshold, at a zero of 0. -/
theorem witness_ContactRampAndDwell :
    let k := config.forceCycle 4903 10000 (some 4000)
    let reading := fun (raw : Int) (gain : Nat) => max (-200000) (min 200000 (((raw - 0) * (gain : Int) + 32768) / 65536))
    let s := forcing .approach 0
    let h : State := { forcing .hold 0 with
      frc.holdTicks := 9999, frc.holdSource := some { opening := .reference, marks := [.reference] } }
    s.live ∧ s.frc.cycle = some k ∧ s.frc.tare = some (0, 0) ∧
      s.cyc.current = some { work := .indent item, phase := .indent, step := .working } ∧ s.frc.state = .approach ∧
      reading (1568#24 : RawSample).toInt s.cfg.primaryGain = 98 ∧ (k.contactAt : Int) = 98 ∧
      reading (82368#24 : RawSample).toInt s.cfg.primaryGain = 5148 ∧ k.overloadAt = 5148 ∧
      (forcing .load 3999).frc.state = .load ∧ (forcing .load 3999).frc.pairs + 1 = k.loadTime ∧ k.contactAt ≤ k.force ∧
      h.frc.state = .hold ∧ h.frc.holdTicks + 1 = k.dwell ∧ ((98 : Int) - 0).natAbs ≤ k.crossLimit ∧
      k.crossLimit < ((98 : Int) - (-1)).natAbs ∧ h.tbu.tickMark = .internal ∧ h.frc.disagreement = 0 ∧
      ({ h with frc.disagreement := 2 } : State).frc.disagreement = 2 ∧
      h.frc.holdSource = some { opening := .reference, marks := [.reference] } := by decide

/-- R118, R134: the last pair of a dwell on an internal tick, the third of its disagreements in a row. -/
theorem test_dwell_ends_disagreeing_and_untraceable :
    let s : State := { forcing .hold 0 with
      frc.holdTicks := 9999, frc.disagreement := 2, frc.holdSource := some { opening := .reference, marks := [.reference] } }
    let t := after (execDwellEnd 78448#24 0#24 s)
    t.frc.state = .unload ∧ t.cyc.gatheredIndent.forceDisagree = true ∧ t.cyc.gatheredIndent.dwellUntraceable = true := by
  decide

theorem witness_WithdrawalsEnd :
    let s := fun state d => ({ forcing state 0 with frc.deadline := some d } : State)
    let r : State := { stationIn .start with
      frc.state := .retract, frc.drive := .freeTest, frc.pairs := 7, cyc.configReading := false }
    (s .unload reached).live ∧ (s .unload reached).frc.state = .unload ∧ (s .unload reached).frc.deadline = some reached ∧
      (s .fastUnload reached).frc.state = .fastUnload ∧ (s .retract reached).frc.state = .retract ∧
      (s .retract early).frc.deadline = some early ∧ (s .retract early).cyc.mode ≠ .faulted ∧
      ({ s .retract early with cyc.mode := .faulted } : State).cyc.mode = .faulted ∧
      (s .unload reached).fcu.claim = .held .quiet ∧
      r.live ∧ r.frc.state = .retract ∧ r.frc.tare = none ∧ r.frc.drive = .freeTest ∧ r.frc.pairs = 7 ∧
      r.cfg.freeMin ≤ (0#24 : RawSample).toInt ∧ (0#24 : RawSample).toInt ≤ r.cfg.freeMax ∧
      (400000#24 : RawSample).toInt ≤ r.cfg.freeMax ∧ r.cyc.current = none ∧ r.cyc.mode = .start ∧
      r.cyc.configReading = false ∧ r.cyc.imageHeld = true ∧ r.cyc.haltSeen = false ∧
      ({ r with cyc.mode := .halted } : State).cyc.mode ≠ .start ∧
      ({ r with frc.drive := .homeDrive, frc.pairs := 999 } : State).frc.drive = .homeDrive := by decide

/-- RETRACT under its running drive, above and at its last 2,000 nm. -/
theorem witness_WithdrawalsEnd_running :
    let s := fun z => ({ forcing .retract 0 with frc.drive := .running, frc.stroke := some z } : State)
    (s 2001).live ∧ (s 2001).frc.state = .retract ∧ (s 2001).frc.drive = .running ∧ (s 2001).frc.stroke = some 2001 ∧
      (s 2000).frc.stroke = some 2000 := by decide

/-- The other pairs of the home drive and of the free test, one with a sample just outside the window, and one with the drive
STOPPED. -/
theorem witness_WithdrawalsEnd_pairs :
    let s := fun drive n => ({ forcing .retract n with frc.drive := drive } : State)
    (∀ n ∈ [0, 998], (s .homeDrive n).live ∧ (s .homeDrive n).frc.state = .retract ∧ (s .homeDrive n).frc.pairs ≠ 999) ∧
      (∀ n ∈ [0, 6], (s .freeTest n).frc.drive = .freeTest ∧ (s .freeTest n).frc.pairs ≠ 7) ∧
      (s .stopped 0).frc.drive = .stopped ∧ (-400000 : Int) = (s .freeTest 0).cfg.freeMin ∧
      (400000#24 : RawSample).toInt ≤ (s .freeTest 7).cfg.freeMax ∧
      ¬(400001#24 : RawSample).toInt ≤ (s .freeTest 7).cfg.freeMax := by decide

/-- R124: the pair that is not free sets the run of the free test back to 0. -/
theorem test_free_run_begins_again :
    let s : State := { forcing .retract 7 with frc.drive := .freeTest }
    ((after (exec (.samplePair 0#24 400001#24) s)).frc.pairs, (after (exec (.freeTestPass 0#24 400001#24) s)).frc.pairs)
      = (0, 7) := by decide +kernel

/-- The item that a timeout finds: working after contact and before it, and ending. -/
theorem witness_WithdrawalsEnd_entry :
    let s : State := { forcing .unload 0 with frc.deadline := some reached }
    let e : State := { s with cyc.current := some { work := .indent item, phase := .indent, step := .ending } }
    s.live ∧ s.cyc.mode ≠ .faulted ∧ s.cyc.current = some { work := .indent item, phase := .indent, step := .working } ∧
      s.hasMessageRoom 1 ∧ s.cyc.contactMark = some .internal ∧ s.sst.entry? item.fields.site = some entry ∧
      ({ s with cyc.contactMark := none } : State).cyc.contactMark = none ∧
      e.cyc.current = some { work := .indent item, phase := .indent, step := .ending } := by decide

/-- RETRACTED at an item that waits for MOTION, and at one in ENDING, with its next item free of conflicts. -/
theorem witness_WithdrawalsEnd_waiting_and_ending :
    let w : State := { at_ (.indent item) .toSite .waiting .none with
      frc.state := .retract, frc.drive := .freeTest, frc.pairs := 7 }
    let e : State := { forcing .retract 7 with
      frc.drive := .freeTest, sst.map := [{ entry with outcome := .aborted }]
      cyc.current := some { work := .indent item, phase := .indent, step := .ending } }
    let far : IndentItem := { item with fields := { fields with site := 8, x := 240 } }
    w.live ∧ w.cyc.current = some { work := .indent item, phase := .toSite, step := .waiting } ∧ w.cyc.mode ≠ .start ∧
      w.fcu.claim = .none ∧ w.fcu.need = none ∧ w.fcu.state = .active ∧ w.fcu.doubtUntil = none ∧
      (∀ v ∈ w.fcu.view, v.claim = none ∧ v.holdoff = none) ∧ w.mot.stopping = false ∧ w.img.state = .idle ∧
      e.live ∧ e.fcu.claim = .held .quiet ∧ e.fcu.need = none ∧ e.cyc.batch = none ∧
      e.sst.measureList.find? (fun id => !e.cyc.delivered.contains id) = none ∧ e.cyc.mode = .running ∧
      ({ e with cyc.mode := .pausing } : State).cyc.mode = .pausing ∧ e.sst.queue = [] ∧ e.cyc.workMode = .perSite ∧
      e.sst.map.length < 256 ∧ (∀ d ∈ e.sst.map, e.cfg.conflicts far.fields d = false) ∧ e.fcu.state = .active ∧
      e.fcu.doubtUntil = none ∧ (∀ v ∈ e.fcu.view, v.claim = none ∧ v.holdoff = none) ∧ e.mot.stopping = false ∧
      e.img.state = .idle := by decide

/-- The 8th free pair of an INDENT item in hand. -/
theorem witness_WithdrawalsEnd_item :
    let s : State := { forcing .retract 7 with frc.drive := .freeTest }
    s.live ∧ s.frc.state = .retract ∧ s.frc.drive = .freeTest ∧ s.frc.pairs = 7 ∧
      s.cyc.current = some { work := .indent item, phase := .indent, step := .working } ∧
      s.cyc.contactMark = some .internal ∧ s.sst.entry? item.fields.site = some entry ∧
      entry.outcome = .awaitingMeasure ∧ s.cyc.mode = .running ∧ s.fcu.claim = .held .quiet ∧ s.fcu.need = none ∧
      s.fcu.state = .active ∧ s.fcu.doubtUntil = none ∧ (∀ v ∈ s.fcu.view, v.claim = none ∧ v.holdoff = none) ∧
      s.mot.stopping = false ∧ s.img.state = .idle ∧ s.cyc.workMode = .perSite := by decide

/-- The same in a batch of slot 0: each of R36's four conditions closes it, and an item of slot 0 far enough away goes on. -/
theorem witness_WithdrawalsEnd_batch :
    let far : IndentItem := { item with fields := { fields with site := 8, x := 240 } }
    let other : IndentItem := { far with fields := { far.fields with indenter := 2 } }
    let s := fun queue limit => ({ forcing .retract 7 with
      frc.drive := .freeTest, cyc.workMode := .batch, cyc.batch := some 0, cyc.batchLimit := limit
      sst := { queue := queue, deferral := none, map := [entry] } } : State)
    (s [] 2).cyc.workMode = .batch ∧ (s [] 2).cyc.batch = some 0 ∧
      (s [.indent far] 1).cyc.batchLimit ≤ (s [.indent far] 1).sst.measureList.length ∧ (s [] 2).sst.queue = [] ∧
      (s [.remeasure 9] 2).sst.queue = .remeasure 9 :: [] ∧
      ((s [.indent other] 2).sst.queue = .indent other :: [] ∧ other.fields.indenter ≠ 0) ∧
      (s [] 2).sst.measureList.find? (fun id => !(s [] 2).cyc.delivered.contains id) = some 7 ∧
      (s [.indent far] 2).sst.queue = .indent far :: [] ∧ far.fields.indenter = 0 ∧
      ¬(s [.indent far] 2).cyc.batchLimit ≤ (s [.indent far] 2).sst.measureList.length ∧
      (s [.indent far] 2).sst.map.length < 256 ∧
      ∀ d ∈ (s [.indent far] 2).sst.map, config.conflicts far.fields d = false := by decide

/-- Windows of 1,031 and 969 edges are good, those of 1,032, 968 and 0 are bad. -/
theorem witness_ReferenceMonitor :
    let s := fun m => ({ station with tbu.monitor := m } : State)
    let expected := station.cfg.referenceDivider / 10
    let good := fun (n : Nat) => ((n : Int) - expected).natAbs ≤ expected / 32
    (s .qualifying).live ∧ (s .qualifying).tbu.monitor = .qualifying ∧ (s .qualified).tbu.monitor = .qualified ∧
      (s .selected).tbu.monitor = .selected ∧ (s .lost).tbu.monitor = .lost ∧ good 1031 ∧ good 969 ∧ ¬good 1032 ∧
      ¬good 968 ∧ ¬good 0 ∧ (s .qualifying).tbu.goodRun < 63 ∧
      ({ s .qualifying with tbu.goodRun := 63 } : State).tbu.goodRun = 63 ∧ (s .selected).tbu.badRun = 0 ∧
      ({ s .selected with tbu.badRun := 1 } : State).tbu.badRun = 1 ∧ (s .qualified).frc.state ≠ .load ∧
      (s .qualified).frc.state ≠ .hold ∧ (s .qualified).frc.state ≠ .unload ∧ loading.frc.state = .load := by decide

/-! #### Images and measurement -/

/-- The station in a capture attempt of site 7's IMAGE work, with slot A reserved. -/
def capturing (stage : SearchStage) : State :=
  { at_ (.listed 7) .image .working (.held .quiet) with
    sst.map := [entry]
    mea := Mea.set { slotA := .free, slotB := .free } .a (.filling 7)
    mot.zHomed := true
    mot.z := 200010
    img := { Img.reset with
      state := .capture, stage := stage, objective := some 1, reserved := some .a
      positions := some objective.positions, reachedZ := 200010, illumination := 100 } }

/-- TO_VIEW waiting and moving for a REMEASURE, and IMAGE in capture and in a fine step. -/
theorem witness_AbortAfterContact_view :
    let v : State := { at_ (.remeasure 7) .toView .waiting .none with sst.map := [measured] }
    let m : State := { at_ (.remeasure 7) .toView .working (.held .motion) with
      sst.map := [measured], mot.carriageActivity := .moving 5 6 }
    let i := capturing .focus
    let f : State := { i with img.state := .step, mot.zActivity := .fine 200010 }
    v.live ∧ v.own 1#4 ∧ v.hasMessageRoom 2 ∧ v.mot.stopping = false ∧ v.fcu.claim = .none ∧
      ({ v with fcu.claim := .pending .motion, fli.notices := [.claim .motion] } : State).needCleared.fcu.claim = .none ∧
      v.cyc.current = some { work := .remeasure 7, phase := .toView, step := .waiting } ∧ v.sst.entry? 7 = some measured ∧
      v.cyc.mode = .running ∧ v.cyc.batch = none ∧ v.sst.queue = [] ∧ v.sst.measureList = [] ∧
      m.live ∧ m.fcu.need = none ∧ m.fcu.block = none ∧ m.fcu.claim = .held .motion ∧ m.mot.moving = true ∧
      i.live ∧ i.own 1#4 ∧ i.hasMessageRoom 2 ∧ i.fcu.holdoff = .none ∧ i.fcu.need = none ∧ i.fcu.block = none ∧
      i.cyc.current = some { work := .listed 7, phase := .image, step := .working } ∧ i.sst.entry? 7 = some entry ∧
      i.fcu.claim = .held .quiet ∧ i.img.reserved = some .a ∧ i.mea.get .a = .filling 7 ∧ i.img.state = .capture ∧
      i.mot.stopping = false ∧ ({ i with sst.map := [entry.unmeasured] } : State).sst.measureList = [] ∧
      ({ m with mot.carriageActivity := .idle } : State).mot.moving = false ∧ m.sst.measureList = [] ∧
      m.cyc.mode = .running ∧ m.cyc.batch = none ∧ m.sst.queue = [] ∧
      f.img.state = .step ∧ f.mot.zActivity = .fine 200010 := by decide

theorem witness_CaptureAttempts :
    let s := capturing .focus
    s.live ∧ ({ s with img.state := .settle, img.settleEnd := some reached } : State).img.settleEnd = some reached ∧
      s.img.state = .capture ∧ station.img.state ≠ .capture ∧ s.img.frameWaitEnd = none ∧
      ({ s with img.frameWaitEnd := some reached } : State).img.frameWaitEnd = some reached ∧
      (1 < s.cfg.captureRetries ∧ s.cfg.captureRetries ≤ 2) ∧
      s.cyc.current = some { work := .listed 7, phase := .image, step := .working } ∧ s.img.reserved = some .a ∧
      s.mea = Mea.set { slotA := .free, slotB := .free } .a (.filling 7) ∧ s.sst.map = [entry] ∧
      entry.fields.site = 7 ∧ entry.outcome = .awaitingMeasure ∧ s.sst.queue = [] ∧ s.fcu.claim = .held .quiet ∧
      s.fcu.need = none ∧ s.cyc.mode = .running ∧ s.cyc.batch = none ∧ s.cyc.cue = .none ∧ s.cyc.delivered = [] ∧
      s.hasMessageRoom 1 := by decide

/-- A delivery of site 7 without profiles. -/
def delivery : Delivery :=
  { site := 7, kind := .vickers, force := 4903, objective := 1, measureSet := .none, profiles := none }

/-- A sensor frame of 64 dark lines, as wide as the window. -/
def darkFrame : List (List Pixel) := List.replicate 64 (List.replicate 64 0)

theorem witness_WindowComplete_frame :
    (∀ r, r < objective.height → ∃ line, darkFrame[objective.originRow + r]? = some line ∧
      objective.originColumn + objective.width ≤ line.length) ∧
      darkFrame.tail[objective.originRow + 63]? = none := by
  refine ⟨fun r hr => ⟨List.replicate 64 0, ?_, by decide⟩, by decide⟩
  have h : r < 64 := hr
  change (List.replicate 64 (List.replicate 64 (0 : Pixel)))[0 + r]? = _
  rw [Nat.zero_add, List.getElem?_replicate, if_pos h]

/-- R138, R139, R145 by hand: a window of 3 by 3 from line 1 and pixel 1, its middle row and column, and two profiles' steps. -/
theorem test_window_profiles_and_sharpness :
    let o : ObjectiveRecord := { objective with width := 3, height := 3, originColumn := 1, originRow := 1 }
    let lines : List (List Pixel) := [[9, 9, 9, 9], [9, 1, 2, 3], [9, 4, 1023, 6], [9, 7, 8, 0, 9]]
    (o.window lines, horizontalProfile o 1 (o.window lines), verticalProfile o 1 (o.window lines),
      horizontalProfile o 2 (o.window lines), sharpness [4, 1023, 6] [2, 5]) =
      ([[1, 2, 3], [4, 1023, 6], [7, 8, 0]], [4, 1023, 6], [2, 1023, 8], [5, 1025, 9], 2039) := by decide

theorem witness_WindowComplete_bands : ∀ band ∈ [1, 16], band ≤ objective.height ∧ band ≤ objective.width := by decide

/-- R149: a final capture that ends together with a HALT leaves its slot READY, and R152: else it is COMPUTING. -/
theorem test_ending_due_with_a_halt :
    let slot := fun halt => ((after (exec (.windowComplete darkFrame halt) (capturing .final))).mea.get .a).code
    (slot true, slot false) = ((ProfileSlot.ready delivery).code, (ProfileSlot.computing delivery).code) := by
  decide +kernel

theorem witness_WindowComplete :
    let s := capturing .focus
    let f : State := { capturing .final with cyc.mode := .pausing }
    s.live ∧ s.img.state = .capture ∧ s.img.frameWaitEnd = none ∧ s.img.objective = some 1 ∧
      s.cfg.slot 1 = .objective objective ∧ s.img.stage = .focus ∧ s.img.index + 1 < objective.focusCount ∧
      s.img.positions = some [200010, 200000, 199990] ∧ [200010, 200000, 199990][s.img.index + 1]? = some 200000 ∧
      s.mot.zHomed = true ∧ s.mot.zActivity = .idle ∧ s.mot.stopping = false ∧
      (s.mot.z : Int) ≠ max 0 (min 500000 200000) ∧
      f.img.stage = .final ∧ f.cyc.current = some { work := .listed 7, phase := .image, step := .working } ∧
      f.img.reserved = some .a ∧ f.mea = Mea.set { slotA := .free, slotB := .free } .a (.filling 7) ∧
      f.sst.map = [entry] ∧ entry.fields.site = 7 ∧ f.cfg.indenterKind? entry.fields.indenter ≠ none ∧
      f.fcu.claim = .held .quiet ∧ f.fcu.need = none ∧ f.cyc.delivered = [] ∧ f.frc.state = .retracted ∧
      f.cyc.mode = .pausing := by decide

/-- The last focus position with its best height known, and with a best score below the minimum sharpness. -/
theorem witness_WindowComplete_last :
    let dull : ObjectiveRecord := { objective with minSharpness := 1 }
    let s : State := { capturing .focus with img.index := 2, img.best := some { index := 0, z := 200010, sharpness := 0 } }
    let d : State := { s with cfg.slots := [.indenter vickers, .objective dull] }
    objective.focusCount ≤ s.img.index + 1 ∧ objective.minSharpness ≤ 0 ∧
      s.img.best = some { index := 0, z := 200010, sharpness := 0 } ∧ s.mot.z = 200010 ∧
      sharpness (horizontalProfile objective s.cfg.band (objective.window darkFrame))
        (verticalProfile objective s.cfg.band (objective.window darkFrame)) = 0 ∧
      d.cfg.slot 1 = .objective dull ∧ (0 : Nat) < dull.minSharpness ∧
      d.cyc.mode = .running ∧ d.cyc.batch = none ∧ d.sst.queue = [] ∧ entry.outcome = .awaitingMeasure ∧
      d.hasMessageRoom 1 ∧ d.cyc.cue = .none := by decide +kernel

/-- The station at the end of the settle of a motion phase, with an entry that waits for its result. -/
def settled (w : Work) (p : Phase) : State :=
  { at_ w p .working (.held .motion) with
    mot.sequence := some [.settle], mot.settleEnd := some reached, sst.map := [entry] }

/-- The end of TO_SITE without room in PER_SITE, and in BATCH with room for limit 2 and without for 1. -/
theorem witness_SettleStepAndRest_room :
    let s := settled (.indent item) .toSite
    s.cyc.current = some { work := .indent item, phase := .toSite, step := .working } ∧
      s.cyc.workMode = .perSite ∧ s.sst.measureList = [7] ∧ s.mot.settleEnd = some reached ∧
      ({ s with cyc.workMode := .batch } : State).sst.measureList.length < 2 ∧ ¬s.sst.measureList.length < 1 := by decide

/-- The end of TO_VIEW with a FREE slot and with none. -/
theorem witness_SettleStepAndRest_view :
    let s := settled (.remeasure 7) .toView
    let full : State := { s with mea := { slotA := .computing delivery, slotB := .ready delivery } }
    s.cyc.current = some { work := .remeasure 7, phase := .toView, step := .working } ∧
      s.mot.settleEnd = some reached ∧ s.fcu.claim = .held .motion ∧ s.fcu.need = none ∧ s.mea.slotA = .free ∧
      full.mea.slotA ≠ .free ∧ full.mea.slotB ≠ .free := by decide

/-- A timeout in TO_VIEW, of each other activity, and one of a fine step in IMAGE. -/
theorem witness_MotionFaultsStation_phases :
    let v : State := { at_ (.remeasure 7) .toView .working (.held .motion) with
      sst.map := [measured], mot.zActivity := .rapid 1000, mot.moveDeadline := some reached }
    let f : State := { capturing .focus with
      img.state := .step, mot.zActivity := .fine 200010, mot.moveDeadline := some reached }
    v.live ∧ v.hasMessageRoom 1 ∧ v.cyc.mode = .running ∧ v.sst.entry? 7 = some measured ∧ v.img.state = .idle ∧
      v.cyc.current = some { work := .remeasure 7, phase := .toView, step := .working } ∧ v.fcu.claim = .held .motion ∧
      v.fcu.need = none ∧ v.fcu.holdoff = .none ∧ v.fcu.block = none ∧ v.frc.state = .retracted ∧ v.mot.stopping = false ∧
      v.mot.zActivity = .rapid 1000 ∧ v.mot.turretActivity = .idle ∧ v.mot.carriageActivity = .idle ∧
      ({ v with mot.zActivity := .idle, mot.turretActivity := .indexing 2 1 true } : State).mot.turretActivity
        = .indexing 2 1 true ∧
      ({ v with mot.zActivity := .idle, mot.carriageActivity := .homing true false } : State).mot.carriageActivity
        = .homing true false ∧
      f.cyc.current = some { work := .listed 7, phase := .image, step := .working } ∧ f.sst.entry? 7 = some entry ∧
      f.fcu.claim = .held .quiet ∧ f.img.reserved = some .a ∧ f.mea.get .a = .filling 7 ∧ f.img.state = .step ∧
      f.mot.zActivity = .fine 200010 ∧ f.mot.turretActivity = .idle ∧ f.mot.carriageActivity = .idle ∧
      f.mot.moveDeadline = some reached ∧ f.frc.state = .retracted ∧ f.fcu.need = none ∧ f.fcu.holdoff = .none := by decide

theorem witness_ComputeCompleteWrites :
    let s : State := { station with sst.map := [entry], mea.slotA := .computing delivery, cyc.delivered := [7] }
    s.live ∧ s.mea.get .a = .computing delivery ∧ s.sst.entry? delivery.site = some entry ∧
      entry.outcome = .awaitingMeasure ∧ s.hasMessageRoom 1 ∧ s.cyc.current = none ∧ s.cyc.cue ≠ .result ∧
      s.cyc.cue ≠ .room ∧ s.cyc.bufferFull = false ∧ s.mea.get .b = .free ∧ measured.outcome ≠ .awaitingMeasure ∧
      ({ s with sst.map := [measured] } : State).sst.entry? delivery.site = some measured ∧
      ({ s with cyc.cue := .result } : State).cyc.mode = .running := by decide

/-- A profile of 64 points, dark between points 20 and 43. -/
def darkCentre : List Nat := List.replicate 20 8000 ++ List.replicate 24 100 ++ List.replicate 20 8000

/-- The results of a REMEASURE attempt: without profiles it has a failure flag, with two good ones it has none. -/
theorem witness_ComputeCompleteWrites_results :
    let good : Delivery := { delivery with profiles := some { width := 64, height := 64, ph := darkCentre, pv := darkCentre } }
    let failed := fun (f : MeasureFlags) => f.lowContrast || f.noImpression || f.edgeNotFound || f.focusFailed || f.captureStall
    failed (config.resultOf good).flags = false ∧
      failed (config.resultOf { delivery with measureSet := { MeasureFlags.none with focusFailed := true } }).flags = true := by
  decide +kernel

/-- An INDENT that waits with cue ROOM, and an IMAGE in a buffer-full episode. -/
theorem witness_ComputeCompleteWrites_waits :
    let s : State := { station with sst.map := [entry], mea.slotA := .computing delivery, cyc.delivered := [7] }
    let r : State := { s with
      cyc.current := some { work := .indent { item with fields.site := 8 }, phase := .indent, step := .waiting }
      cyc.cue := .room }
    let b : State := { s with
      cyc.current := some { work := .listed 9, phase := .image, step := .waiting }, cyc.bufferFull := true }
    let q : State := { r with sst.map := [measured, { entry with fields := { fields with site := 8 } }] }
    let room := fun (u : State) (list : List Nat) =>
      (u.cyc.workMode = .perSite → list = []) ∧ (u.cyc.workMode = .batch → list.length < u.cyc.batchLimit)
    (r.cyc.cue = .room ∧ r.cyc.workMode = .perSite ∧ r.sst.measureList = [delivery.site]) ∧
      room r (r.sst.measureList.filter fun site => site != delivery.site) ∧
      q.sst.entry? 7 = some measured ∧ q.sst.measureList = [8] ∧ ¬room q [8] ∧
      room { q with cyc.workMode := .batch, cyc.batchLimit := 2 } [8] ∧
      ({ s with cyc.current := some { work := .listed 9, phase := .toView, step := .working } } : State).cyc.cue = .none ∧
      (b.cyc.cue = .none ∧ b.cyc.bufferFull = true) ∧ s.frc.state = .retracted ∧ s.mot.stopping = false ∧
      s.img.state = .idle ∧ s.fcu.state = .active ∧ s.fcu.doubtUntil = none ∧ s.fcu.need = none ∧ s.fcu.claim = .none ∧
      ∀ v ∈ s.fcu.view, v.claim = none ∧ v.holdoff = none := by decide

/-- A conflict at 24 micrometres for a bound of 80,000 nm and none at 240, where the squares are equal. -/
theorem witness_SpacingDecides :
    let s : State := { stationIn .ready with
      frc.state := .retract, cyc.delivered := [7], mea.slotA := .computing delivery
      sst := { queue := [.indent { item with fields := { fields with site := 8, x := 240 } }], deferral := none, map := [entry] } }
    let squares := fun (x : Int) =>
      (100000000 * ((x - entry.fields.x) * (x - entry.fields.x) + 0 * 0),
        ((s.cfg.spacingFactor * s.cfg.spacingFactor * (80000 * 80000) : Nat) : Int))
    s.live ∧ s.own 1#4 ∧ s.hasMessageRoom 2 ∧ s.cyc.mode = .ready ∧ s.cyc.workMode = .perSite ∧ s.cyc.current = none ∧
      s.cyc.batch = none ∧ s.mea = { slotA := .computing delivery, slotB := .free } ∧
      s.sst = { queue := [.indent { item with fields := { fields with site := 8, x := 240 } }], deferral := none, map := [entry] } ∧
      s.cyc.delivered = [entry.fields.site] ∧ s.fcu.state = .active ∧ s.fcu.claim = .none ∧ s.fcu.need = none ∧
      s.frc.state = .retract ∧ entry.outcome = .awaitingMeasure ∧ measured.outcome ≠ .awaitingMeasure ∧
      entry.made = true ∧ s.cfg.bound entry.fields.indenter = 80000 ∧ (squares 240).1 = (squares 240).2 ∧
      (squares 239).1 < (squares 239).2 := by decide

/-- A full map and one with room for the last entry. -/
theorem witness_SpacingDecides_map :
    256 ≤ (List.replicate 256 measured).length ∧ ¬256 ≤ (List.replicate 255 measured).length ∧
      (∀ e ∈ List.replicate 256 measured, e.outcome ≠ .awaitingMeasure) := by decide +kernel

/-- The stages over a profile of 64 points: its guard, levels and threshold, and its first points above the threshold. -/
theorem witness_HardnessArithmetic_profile :
    let m := guardOf 16 darkCentre.length
    let t := darkLevel darkCentre m + thresholdHeight .wide 10 (brightLevel darkCentre m - darkLevel darkCentre m)
    64 ≤ darkCentre.length ∧ 0 < 16 ∧ m = 16 ∧ brightLevel darkCentre m = 8000 ∧ darkLevel darkCentre m = 100 ∧ t = 3392 ∧
      darkLevel darkCentre m + objective.minContrast ≤ brightLevel darkCentre m ∧ darkCentre.getD 32 0 < t ∧
      (t ≤ darkCentre.getD 44 0 ∧ ∀ b ∈ List.range 44, 32 < b → darkCentre.getD b 0 < t) ∧
      (t ≤ darkCentre.getD 19 0 ∧ ∀ b ∈ List.range 32, 19 < b → darkCentre.getD b 0 < t) := by decide +kernel

/-- A flat profile has no contrast, one dark at both ends no edge, and one with a bright centre no impression. -/
theorem witness_HardnessArithmetic_failures :
    let bumped := List.replicate 24 8000 ++ List.replicate 4 100 ++ List.replicate 8 8000 ++ List.replicate 4 100
      ++ List.replicate 24 8000
    let open' := List.replicate 20 8000 ++ List.replicate 30 100 ++ List.replicate 14 8000
    profileLength objective 16 (List.replicate 64 0) = .error .lowContrast ∧
      profileLength objective 16 bumped = .error .noImpression ∧
      profileLength objective 16 open' = .error .edgeNotFound := by decide +kernel

/-- A delivery with its profiles, of each kind, and one without. -/
theorem witness_HardnessArithmetic_delivery :
    let p : Profiles := { height := 64, width := 64, ph := darkCentre, pv := darkCentre }
    let d : Delivery := { delivery with profiles := some p }
    d.profiles = some p ∧ config.slot d.objective = .objective objective ∧ d.kind = .vickers ∧
      ({ d with kind := .knoop } : Delivery).kind = .knoop ∧ delivery.profiles = none ∧
      (∀ k, profileLength objective config.guardPoints p.ph = .ok k →
        ∃ n, lengthDiagonal objective (profileLength objective config.guardPoints p.ph) = some n) :=
  ⟨rfl, rfl, rfl, rfl, rfl, fun k h => by rw [h]; exact ⟨_, rfl⟩⟩

/-- A diagonal of 1 nm is the least that has a hardness. -/
theorem witness_HardnessArithmetic : (0 : Nat) < 1 ∧ (hardnessOf .vickers 98067 1).1 = some 999999 := by decide

end Sys2Proof.Tests
end

section
/-!
PROOFS. Each command as its effect while RESET_N is released, one equation per command.
-/

-- One theorem after another: each one elaborated beside the others takes a thread with a stack of its own.
set_option Elab.async false

namespace Sys2Proof.Machine

theorem exec_configReadDone (s : State) (image : List Byte) :
    exec (.configReadDone image) s = s.act fun s => s.configRead image := rfl
theorem exec_planSite (s : State) (dest : BitVec 4) (payload : List Byte) :
    exec (.planSite dest payload) s = s.act fun s => s.takeRequest dest 0x10#8 payload := rfl
theorem exec_planRemeasure (s : State) (dest : BitVec 4) (payload : List Byte) :
    exec (.planRemeasure dest payload) s = s.act fun s => s.takeRequest dest 0x11#8 payload := rfl
theorem exec_planWithdraw (s : State) (dest : BitVec 4) (payload : List Byte) :
    exec (.planWithdraw dest payload) s = s.act fun s => s.takeRequest dest 0x12#8 payload := rfl
theorem exec_mapClear (s : State) (dest : BitVec 4) (payload : List Byte) :
    exec (.mapClear dest payload) s = s.act fun s => s.takeRequest dest 0x13#8 payload := rfl
theorem exec_start (s : State) (dest : BitVec 4) (payload : List Byte) :
    exec (.start dest payload) s = s.act fun s => s.takeRequest dest 0x14#8 payload := rfl
theorem exec_pause (s : State) (dest : BitVec 4) (payload : List Byte) :
    exec (.pause dest payload) s = s.act fun s => s.takeRequest dest 0x15#8 payload := rfl
theorem exec_resume (s : State) (dest : BitVec 4) (payload : List Byte) :
    exec (.resume dest payload) s = s.act fun s => s.takeRequest dest 0x16#8 payload := rfl
theorem exec_abortSite (s : State) (dest : BitVec 4) (payload : List Byte) :
    exec (.abortSite dest payload) s = s.act fun s => s.takeRequest dest 0x17#8 payload := rfl
theorem exec_restart (s : State) (dest : BitVec 4) (payload : List Byte) :
    exec (.restart dest payload) s = s.act fun s => s.takeRequest dest 0x18#8 payload := rfl
theorem exec_refReselect (s : State) (dest : BitVec 4) (payload : List Byte) :
    exec (.refReselect dest payload) s = s.act fun s => s.takeRequest dest 0x19#8 payload := rfl
theorem exec_setMode (s : State) (dest : BitVec 4) (payload : List Byte) :
    exec (.setMode dest payload) s = s.act fun s => s.takeRequest dest 0x1A#8 payload := rfl
theorem exec_queryStatus (s : State) (dest : BitVec 4) (payload : List Byte) :
    exec (.queryStatus dest payload) s = s.act fun s => s.takeRequest dest 0x1B#8 payload := rfl
theorem exec_queryEntry (s : State) (dest : BitVec 4) (payload : List Byte) :
    exec (.queryEntry dest payload) s = s.act fun s => s.takeRequest dest 0x1C#8 payload := rfl
theorem exec_queryCounters (s : State) (dest : BitVec 4) (payload : List Byte) :
    exec (.queryCounters dest payload) s = s.act fun s => s.takeRequest dest 0x1D#8 payload := rfl
theorem exec_setCounter (s : State) (dest : BitVec 4) (payload : List Byte) :
    exec (.setCounter dest payload) s = s.act fun s => s.takeRequest dest 0x1E#8 payload := rfl
theorem exec_unknownKind (s : State) (dest : BitVec 4) (kind : Byte) (payload : List Byte) :
    exec (.unknownKind dest kind payload) s = s.act fun s => s.takeRequest dest kind payload := rfl
theorem exec_transmitStart (s : State) (since : List Bool) :
    exec (.transmitStart since) s = s.act fun s => { s with fli := (s.fli.sees since).start } := rfl
theorem exec_arbitrationLoss (s : State) (since : List Bool) :
    exec (.arbitrationLoss since) s = s.act fun s => { s with fli := s.fli.lost since } := rfl
theorem exec_ownFrameCompleted (s : State) : exec .ownFrameCompleted s = s.act State.ownCompleted := rfl
theorem exec_ownFrameError (s : State) (since : List Bool) :
    exec (.ownFrameError since) s = s.act fun s => s.ownMismatched since := rfl
theorem exec_frameEnd (s : State) (line : List Bool) : exec (.frameEnd line) s = s.act fun s => s.frameEnd line := rfl
theorem exec_lengthAbove32 (s : State) (length : Byte) (arbitration : Byte) (kind : Byte) :
    exec (.lengthAbove32 length arbitration kind) s = s.act fun s => s.badLength arbitration kind length := rfl
theorem exec_dominantRunReaches9 (s : State) :
    exec .dominantRunReaches9 s = s.act fun s => { s with fli := s.fli.runOf9 } := rfl
theorem exec_dominantRunEnd (s : State) (length : Nat) :
    exec (.dominantRunEnd length) s = s.act fun s => s.runEnd length := rfl
theorem exec_haltPulse (s : State) : exec .haltPulse s = s.act State.haltPulse := rfl
theorem exec_lineIdle (s : State) : exec .lineIdle s = s.act fun s => { s with fli := s.fli.idle } := rfl
theorem exec_stopAsserted (s : State) (pastArbitration : Bool) (since : List Bool) :
    exec (.stopAsserted pastArbitration since) s = s.act fun s => s.stopAsserted pastArbitration since := rfl
theorem exec_stopPulseEnd (s : State) (stillAsserted : Bool) :
    exec (.stopPulseEnd stillAsserted) s = s.act fun s => { s with fli := s.fli.stopPulseEnd stillAsserted } := rfl
theorem exec_stopPulseRepeat (s : State) (pastArbitration : Bool) (since : List Bool) :
    exec (.stopPulseRepeat pastArbitration since) s = s.act fun s => s.stopPulseRepeat pastArbitration since := rfl
theorem exec_tick (s : State) : exec .tick s = s.act fun s => { s with tbu := s.tbu.tick }.countWait := rfl
theorem exec_listenInEnd (s : State) : exec .listenInEnd s = s.act State.listenInEnd := rfl
theorem exec_doubtEnd (s : State) : exec .doubtEnd s = s.act State.doubtEnd := rfl
theorem exec_claimRefreshDue (s : State) : exec .claimRefreshDue s = s.act State.claimRefresh := rfl
theorem exec_holdoffRefreshDue (s : State) : exec .holdoffRefreshDue s = s.act State.holdoffRefresh := rfl
theorem exec_viewExpiry (s : State) : exec .viewExpiry s = s.act State.viewExpiry := rfl
theorem exec_holdoffQueued (s : State) : exec .holdoffQueued s = s.act State.tryHoldoff := rfl
theorem exec_turretHomeFound (s : State) : exec .turretHomeFound s = s.act fun s => s.motion Mot.turretHome := rfl
theorem exec_indexComplete (s : State) (edges : Nat) :
    exec (.indexComplete edges) s = s.act fun s => s.motion fun m c i t => m.indexDone c i t edges := rfl
theorem exec_carriageAxisHome (s : State) (axis : Axis) :
    exec (.carriageAxisHome axis) s = s.act fun s => s.motion fun m c i t => m.axisHome c i t axis := rfl
theorem exec_carriageInPosition (s : State) : exec .carriageInPosition s = s.act fun s => s.motion Mot.carriageDone := rfl
theorem exec_zHomeFound (s : State) : exec .zHomeFound s = s.act fun s => s.motion Mot.zHome := rfl
theorem exec_zInPosition (s : State) : exec .zInPosition s = s.act fun s => s.motion Mot.rapidDone := rfl
theorem exec_fineStepComplete (s : State) : exec .fineStepComplete s = s.act State.fineStepDone := rfl
theorem exec_moveDeadline (s : State) :
    exec .moveDeadline s = s.act fun s => s.withMotion (s.mot.deadlineReached s.now) := rfl
theorem exec_settleEnd (s : State) : exec .settleEnd s = s.act fun s => s.withMotion (s.mot.settleDone s.now) := rfl
theorem exec_axesStopped (s : State) (x : Int) (y : Int) (z : Nat) :
    exec (.axesStopped x y z) s = s.act fun s => s.axesStopped x y z := rfl
theorem exec_samplePair (s : State) (primary : RawSample) (check : RawSample) :
    exec (.samplePair primary check) s = s.act fun s => s.samplePair primary check := rfl
theorem exec_tareDone (s : State) (primary : RawSample) (check : RawSample) :
    exec (.tareDone primary check) s = s.act fun s => s.namedPair s.frc.tareEnds primary check := rfl
theorem exec_wireTestDone (s : State) (primary : RawSample) (check : RawSample) :
    exec (.wireTestDone primary check) s = s.act fun s => s.namedPair s.frc.wireTestEnds primary check := rfl
theorem exec_wireTestRecovered (s : State) (primary : RawSample) (check : RawSample) :
    exec (.wireTestRecovered primary check) s = s.act fun s => s.namedPair s.frc.recoveryEnds primary check := rfl
theorem exec_loadRampEnd (s : State) (primary : RawSample) (check : RawSample) :
    exec (.loadRampEnd primary check) s = s.act fun s => s.namedPair s.frc.rampEnds primary check := rfl
theorem exec_dwellEnd (s : State) (primary : RawSample) (check : RawSample) :
    exec (.dwellEnd primary check) s = s.act fun s => s.namedPair s.frc.dwellEnds primary check := rfl
theorem exec_unloadTimeout (s : State) :
    exec .unloadTimeout s = s.act fun s => s.withForce (s.frc.unloadTimeout s.now) := rfl
theorem exec_fastUnloadTimeout (s : State) :
    exec .fastUnloadTimeout s = s.act fun s => s.withForce (s.frc.fastUnloadTimeout s.now) := rfl
theorem exec_homeDriveDone (s : State) (primary : RawSample) (check : RawSample) :
    exec (.homeDriveDone primary check) s = s.act fun s => s.namedPair s.frc.homeDriveEnds primary check := rfl
theorem exec_freeTestPass (s : State) (primary : RawSample) (check : RawSample) :
    exec (.freeTestPass primary check) s = s.act fun s => s.namedPair (s.frc.freeTestEnds s.cfg primary.toInt check.toInt) primary check := rfl
theorem exec_retractTimeout (s : State) :
    exec .retractTimeout s = s.act fun s => s.withForce (s.frc.retractTimeout s.now) := rfl
theorem exec_refWindowEnd (s : State) (edges : Nat) :
    exec (.refWindowEnd edges) s = s.act fun s => { s with tbu := s.tbu.windowEnd s.cfg.referenceDivider edges } := rfl
theorem exec_sourceSwitch (s : State) :
    exec .sourceSwitch s = s.act fun s => { s with tbu := s.tbu.switch s.frc.state } := rfl
theorem exec_focusSettleEnd (s : State) : exec .focusSettleEnd s = s.act State.focusSettleEnd := rfl
theorem exec_fvalRise (s : State) : exec .fvalRise s = s.act fun s => { s with img := s.img.frameStart } := rfl
theorem exec_windowComplete (s : State) (lines : List (List Pixel)) (haltDue : Bool) :
    exec (.windowComplete lines haltDue) s = s.act fun s => State.withImage (s.windowReceived lines) haltDue := rfl
theorem exec_pclkStall (s : State) (haltDue : Bool) :
    exec (.pclkStall haltDue) s = s.act fun s => s.frameFails haltDue := rfl
theorem exec_shortFrame (s : State) (haltDue : Bool) :
    exec (.shortFrame haltDue) s = s.act fun s => s.frameFails haltDue := rfl
theorem exec_frameWaitEnd (s : State) (haltDue : Bool) :
    exec (.frameWaitEnd haltDue) s = s.act fun s => s.noFrame haltDue := rfl
theorem exec_computeComplete (s : State) (slot : SlotName) :
    exec (.computeComplete slot) s = s.act fun s => s.computeDone slot := rfl
theorem exec_startBit (s : State) : exec .startBit s = s.act fun s => { s with fli := s.fli.startBit } := rfl

end Sys2Proof.Machine
end

section
/-!
PROOFS. The bounds of the collections and of the map (R3, R7, R56, R62, R173): what each shared operation keeps of them.
-/

-- One theorem after another: each one elaborated beside the others takes a thread with a stack of its own.
set_option Elab.async false

namespace Sys2Proof.Machine

/-! ### The bounds of the collections, operation by operation -/

/-- The bounds are those of the counters, the notice queue, the site queue, the view and the rank alone. -/
theorem State.Bounded.congr {s t : State} (h : s.Bounded) (he : t.evc = s.evc := by rfl)
    (hn : t.fli.notices = s.fli.notices := by rfl) (hq : t.sst.queue = s.sst.queue := by rfl)
    (hv : t.fcu.view = s.fcu.view := by rfl) (hr : t.fli.rank = s.fli.rank := by rfl) : t.Bounded where
  fourCounters := he ▸ h.fourCounters
  counterValues := he ▸ h.counterValues
  oneNoticeOfAKind := hn ▸ h.oneNoticeOfAKind
  queueLength := hq ▸ h.queueLength
  peersOnly := by rw [hv, hr]; exact h.peersOnly
  onePeerEach := hv ▸ h.onePeerEach

/-- A notice queue of distinct kinds in place of the present one. -/
theorem State.Bounded.withNotices {s : State} (h : s.Bounded) {q : List Notice} (hq : distinctNotices q) :
    ({ s with fli.notices := q } : State).Bounded :=
  { h with oneNoticeOfAKind := hq }

/-- A site queue of at most 32 items in place of the present one. -/
theorem State.Bounded.withQueue {s : State} (h : s.Bounded) {q : List Item} (hq : q.length ≤ 32) :
    ({ s with sst.queue := q } : State).Bounded :=
  { h with queueLength := hq }

/-- Four counters within 32 bits in place of the present ones. -/
theorem State.Bounded.withCounters {s : State} (h : s.Bounded) {cs : List Counter} (h4 : cs.length = 4)
    (hv : ∀ c ∈ cs, c.value ≤ 4294967295) : ({ s with evc := cs } : State).Bounded :=
  { h with fourCounters := h4, counterValues := hv }

/-- The view with its entries rewritten, each under its own rank. -/
theorem State.Bounded.mapView {s : State} (h : s.Bounded) {f : ViewEntry → ViewEntry} (hf : ∀ v, (f v).rank = v.rank) :
    ({ s with fcu.view := s.fcu.view.map f } : State).Bounded :=
  { h with
    peersOnly := by
      intro v hv
      obtain ⟨w, hw, rfl⟩ := List.mem_map.mp hv
      simpa only [hf] using h.peersOnly w hw
    onePeerEach := by
      refine List.pairwise_map.mpr (h.onePeerEach.imp ?_)
      intro a b hab
      simpa only [hf] using hab }

theorem Counter.count_le {c : Counter} (h : c.value ≤ 4294967295) (k : EventKind) (b : BitVec 20) :
    (c.count k b).value ≤ 4294967295 := by
  unfold Counter.count
  split
  · exact Nat.min_le_right _ _
  · exact h

theorem State.Bounded.signal {s : State} (h : s.Bounded) (k : EventKind) (b : BitVec 20) : (s.signal k b).Bounded := by
  refine State.Bounded.withCounters h (by simpa using h.fourCounters) ?_
  intro c hc
  obtain ⟨d, hd, rfl⟩ := List.mem_map.mp hc
  exact Counter.count_le (h.counterValues d hd) k b

theorem State.Bounded.queueMessage {s : State} (h : s.Bounded) (m : QueuedMessage) : (s.queueMessage m).Bounded := by
  unfold State.queueMessage
  split
  · exact State.Bounded.signal h.congr _ _
  · exact h.congr

theorem State.Bounded.send {s : State} (h : s.Bounded) (m : Message) : (s.send m).Bounded := h.queueMessage _

theorem State.Bounded.queueNotice {s : State} (h : s.Bounded) (n : Notice) : (s.queueNotice n).Bounded :=
  h.withNotices (placeNotice_distinct h.oneNoticeOfAKind)

theorem State.Bounded.filterNotices {s : State} (h : s.Bounded) (p : Notice → Bool) :
    ({ s with fli.notices := s.fli.notices.filter p } : State).Bounded :=
  h.withNotices (h.oneNoticeOfAKind.filter p)

theorem State.Bounded.markStale {s : State} (h : s.Bounded) (p : Notice → Bool) : (s.markStale p).Bounded := h.congr

theorem State.Bounded.withdrawClaim {s : State} (h : s.Bounded) : s.withdrawClaim.Bounded := by
  unfold State.withdrawClaim
  split
  · exact (h.filterNotices _).signal _ _
  · exact h

theorem State.Bounded.withdrawHoldoff {s : State} (h : s.Bounded) : s.withdrawHoldoff.Bounded := by
  unfold State.withdrawHoldoff
  split
  · exact (h.filterNotices _).signal _ _
  · exact h

/-! ### Frame Coordination -/

theorem State.Bounded.blockOn {s : State} (h : s.Bounded) (c : BlockCause) : (s.blockOn c).Bounded := by
  unfold State.blockOn
  split
  · exact h
  · exact State.Bounded.signal h.congr _ _

theorem State.Bounded.tryHoldoff {s : State} (h : s.Bounded) : s.tryHoldoff.Bounded := by
  unfold State.tryHoldoff
  split
  · split
    · exact State.Bounded.queueNotice h.congr _
    · exact h
  · exact h

theorem State.Bounded.permitTest {s : State} (h : s.Bounded) : s.permitTest.Bounded := by
  unfold State.permitTest
  split
  · split
    · split
      · exact State.Bounded.queueNotice h.congr _
      · exact (h.blockOn _).tryHoldoff
    · exact h
  · exact h

theorem State.Bounded.dropQueuedHoldoff {s : State} (h : s.Bounded) : s.dropQueuedHoldoff.Bounded := by
  unfold State.dropQueuedHoldoff
  split
  · exact (h.withdrawHoldoff.markStale Notice.isHoldoff).congr
  · exact h

theorem State.Bounded.endHoldoff {s : State} (h : s.Bounded) : s.endHoldoff.Bounded := by
  unfold State.endHoldoff
  split
  · exact h
  · exact (h.withdrawHoldoff.markStale Notice.isHoldoff).congr

theorem State.Bounded.setNeed {s : State} (h : s.Bounded) (k : ClaimKind) : (s.setNeed k).Bounded :=
  State.Bounded.permitTest h.congr

theorem State.Bounded.withdrawPending {s : State} (h : s.Bounded) : s.withdrawPending.Bounded := by
  unfold State.withdrawPending
  split
  · split
    · exact h.withdrawClaim.congr
    · exact h
  · exact h

theorem State.Bounded.clearNeed {s : State} (h : s.Bounded) : s.clearNeed.Bounded :=
  (State.Bounded.endHoldoff h.congr).withdrawPending

theorem State.Bounded.release {s : State} (h : s.Bounded) : s.release.Bounded := by
  unfold State.release
  split
  · refine State.Bounded.permitTest (State.Bounded.queueNotice ?_ _)
    exact ((h.filterNotices _).markStale Notice.isClaim).congr
  · exact h

theorem State.Bounded.recheckPending {s : State} (h : s.Bounded) : s.recheckPending.Bounded := by
  unfold State.recheckPending
  split
  · split
    · exact State.Bounded.permitTest h.withdrawClaim.congr
    · exact h
  · exact h

theorem State.Bounded.blockNeed {s : State} (h : s.Bounded) : s.blockNeed.Bounded := by
  unfold State.blockNeed
  split
  · exact h.blockOn _
  · exact h

theorem State.Bounded.beginDoubt {s : State} (h : s.Bounded) : s.beginDoubt.Bounded := by
  unfold State.beginDoubt
  split
  · refine State.Bounded.blockNeed (State.Bounded.dropQueuedHoldoff (State.Bounded.recheckPending ?_))
    exact h.congr
  · exact h

theorem State.Bounded.claimCompleted {s : State} (h : s.Bounded) (k : ClaimKind) : (s.claimCompleted k).1.Bounded := by
  unfold State.claimCompleted
  split
  · split
    · split
      · exact h.endHoldoff.congr
      · exact State.Bounded.permitTest (State.Bounded.queueNotice h.congr _)
    · exact h
  · split
    · exact h.congr
    · exact h
  · exact h

theorem State.Bounded.holdoffCompleted {s : State} (h : s.Bounded) : s.holdoffCompleted.Bounded := by
  unfold State.holdoffCompleted
  split
  · exact h.congr
  · exact h.congr
  · exact h

theorem State.Bounded.noticeCompleted {s : State} (h : s.Bounded) (n : Notice) (stale : Bool) :
    (s.noticeCompleted n stale).1.Bounded := by
  unfold State.noticeCompleted
  split
  · split
    · exact h.claimCompleted _
    · exact h.holdoffCompleted
    · exact h
  · exact h

theorem State.Bounded.claimFailed {s : State} (h : s.Bounded) : s.claimFailed.Bounded := by
  unfold State.claimFailed
  split
  · split
    · exact h
    · exact State.Bounded.permitTest h.congr
  · exact h.congr
  · exact h

theorem State.Bounded.noticeFailed {s : State} (h : s.Bounded) (n : Notice) : (s.noticeFailed n).Bounded := by
  unfold State.noticeFailed
  split
  · split
    · exact h.beginDoubt.claimFailed
    · exact h.beginDoubt.congr
    · exact h.beginDoubt
  · exact h

@[simp] theorem ViewEntry.take_rank (v : ViewEntry) (n : Notice) (now : Time) (e : Deadline) :
    (v.take n now e).rank = v.rank := by
  cases n <;> rfl

theorem State.Bounded.recordNotice {s : State} (h : s.Bounded) (r : Nat) (n : Notice) : (s.recordNotice r n).Bounded := by
  refine h.mapView fun v => ?_
  split <;> simp

theorem State.Bounded.meetHoldoff {s : State} (h : s.Bounded) (w : ClaimKind) : (s.meetHoldoff w).Bounded := by
  unfold State.meetHoldoff
  split
  · split
    · exact h.dropQueuedHoldoff
    · exact h
  · split
    · exact ((h.filterNotices _).markStale Notice.isHoldoff).congr
    · exact h
  · exact h

theorem State.Bounded.collide {s : State} (h : s.Bounded) (r : Nat) (k : ClaimKind) : (s.collide r k).Bounded := by
  have counted : ∀ u : State, u.Bounded → (if u.fcu.collided.contains r then u
      else { u with fcu.collided := u.fcu.collided ++ [r] }.signal .collision 0).Bounded := by
    intro u hu
    split
    · exact hu
    · exact State.Bounded.signal hu.congr _ _
  have hc := counted { s with fcu.claimCollision := true } h.congr
  unfold State.collide
  dsimp only
  split
  · exact hc.congr
  · exact hc

theorem State.Bounded.meetNotice {s : State} (h : s.Bounded) (r : Nat) (n : Notice) : (s.meetNotice r n).Bounded := by
  unfold State.meetNotice
  split
  · unfold State.meetClaim
    split
    · split
      · exact h.collide _ _
      · exact h
    · exact h
  · exact h.meetHoldoff _
  · exact h

theorem State.Bounded.noticeTaken {s : State} (h : s.Bounded) (f : LinkFrame) : (s.noticeTaken f).Bounded := by
  unfold State.noticeTaken
  split
  · split
    · exact State.Bounded.signal h.congr _ _
    · split
      · exact h.signal _ _
      · split
        · exact h.signal _ _
        · exact (((h.recordNotice _ _).meetNotice _ _).recheckPending).permitTest
  · exact h

theorem State.Bounded.enterListenIn {s : State} (h : s.Bounded) (cause : HelloCause) : (s.enterListenIn cause).Bounded :=
  State.Bounded.queueNotice h.congr _

theorem State.Bounded.expireView {s : State} (h : s.Bounded) : s.expireView.Bounded := by
  rw [State.expireView_counted h.counterValues]
  have swept := h.mapView (f := ViewEntry.expire s.now) fun v => rfl
  refine swept.withCounters (by simpa using h.fourCounters) ?_
  intro c hc
  obtain ⟨d, hd, rfl⟩ := List.mem_map.mp hc
  exact Counter.lapsesCounted_le _ _ (h.counterValues d hd)

end Sys2Proof.Machine
end

section
/-!
PROOFS. What every operation of the Cycle Controller, the Force, Motion, Image and Measurement Units keeps of the bounds: those of the
collections, and the map's with the entry that the current item has still to create (R7, R10, R11, R19).
-/

-- One theorem after another: each one elaborated beside the others takes a thread with a stack of its own.
set_option Elab.async false

namespace Sys2Proof.Machine

/-! ### Operations that keep both bounds -/

/-- What holds of the bounds before an operation holds after it: those of the collections and the map's. -/
structure Kept (s t : State) : Prop where
  bounds : s.Bounded → t.Bounded
  map : s.mapFits → t.mapFits

theorem Kept.same (s : State) : Kept s s := ⟨id, id⟩

theorem Kept.trans {s t u : State} (h : Kept s t) (g : Kept t u) : Kept s u :=
  ⟨g.bounds ∘ h.bounds, g.map ∘ h.map⟩

/-- The entries owed are those of the current item and the contact mark alone. -/
theorem State.entriesOwed_congr {s t : State} (hc : t.cyc.current = s.cyc.current)
    (hm : t.cyc.contactMark = s.cyc.contactMark) : t.entriesOwed = s.entriesOwed := by
  simp only [State.entriesOwed, hc, hm]

/-- An operation that leaves the current item, its contact mark and the number of entries keeps the map's bound. -/
theorem Kept.of_bounds {s t : State} (hb : s.Bounded → t.Bounded) (hl : t.sst.map.length = s.sst.map.length := by rfl)
    (hc : t.cyc.current = s.cyc.current := by rfl) (hm : t.cyc.contactMark = s.cyc.contactMark := by rfl) : Kept s t where
  bounds := hb
  map h := by simpa only [State.mapFits, hl, State.entriesOwed_congr hc hm] using h

/-- Frame Coordination touches neither the map nor the current item. -/
theorem OnlyCoordination.kept {s t : State} (h : OnlyCoordination s t) (hb : s.Bounded → t.Bounded) : Kept s t := by
  obtain ⟨_, _, _, _, rfl, _⟩ := h
  exact .of_bounds hb

theorem State.entriesOwed_none {s : State} (h : s.cyc.current = none) : s.entriesOwed = 0 := by
  simp only [State.entriesOwed, h]

theorem State.entriesOwed_ending {s : State} {c : Current} (h : s.cyc.current = some c) (hs : c.step = .ending) :
    s.entriesOwed = 0 := by
  simp only [State.entriesOwed, h, hs, if_true]

/-- An INDENT item on its way to its site owes its entry (R10, R11). -/
theorem State.entriesOwed_toSite {s : State} {c : Current} {i : IndentItem} (h : s.cyc.current = some c)
    (hs : c.step ≠ .ending) (hp : c.phase = .toSite) (hw : c.work = .indent i) : s.entriesOwed = 1 := by
  simp only [State.entriesOwed, h, hs, hp, hw, if_false]

/-- An INDENT item in INDENT owes its entry until its contact (R10, R11). -/
theorem State.entriesOwed_indent {s : State} {c : Current} {i : IndentItem} (h : s.cyc.current = some c)
    (hs : c.step ≠ .ending) (hp : c.phase = .indent) (hw : c.work = .indent i) :
    s.entriesOwed = if s.cyc.contactMark.isSome then 0 else 1 := by
  simp only [State.entriesOwed, h, hs, hp, hw, if_false]

/-- At most one entry is owed. -/
theorem State.entriesOwed_le (s : State) : s.entriesOwed ≤ 1 := by
  unfold State.entriesOwed
  repeat' split
  all_goals decide

theorem Kept.signal (s : State) (k : EventKind) (b : BitVec 20) : Kept s (s.signal k b) := .of_bounds (·.signal k b)

theorem Kept.send (s : State) (m : Message) : Kept s (s.send m) := by
  obtain ⟨_, _, _, hs⟩ : ∃ f g e, s.send m = { s with fli := { s.fli with messages := f, txOverflow := g }, evc := e } := by
    unfold State.send State.queueMessage
    split
    · exact ⟨_, true, _, rfl⟩
    · exact ⟨_, _, _, rfl⟩
  exact .of_bounds (·.send m) (by rw [hs]) (by rw [hs]) (by rw [hs])

theorem Kept.release (s : State) : Kept s s.release := (OnlyCoordination.release s).kept (·.release)

theorem Kept.clearNeed (s : State) : Kept s s.clearNeed := (OnlyCoordination.clearNeed s).kept (·.clearNeed)

theorem Kept.enterListenIn (s : State) (cause : HelloCause) : Kept s (s.enterListenIn cause) :=
  .of_bounds (·.enterListenIn cause)

/-! ### Entries -/

theorem Kept.rewrite (s : State) (site : Nat) (f : Entry → Entry) : Kept s (s.rewrite site f) :=
  .of_bounds (·.congr) (by simp [State.rewrite, Store.update])

theorem Kept.finish (s : State) (site : Nat) (f : Entry → Entry) : Kept s (s.finish site f) := by
  unfold State.finish
  split
  · exact (((Kept.rewrite s site f).trans (.signal _ _ _)).trans (.signal _ _ _)).trans (.send _ _)
  · exact .same s

theorem State.Bounded.createUnmade {s : State} (h : s.Bounded) (f : SiteFields) (o : SiteOutcome) (g : IndentFlags) :
    (s.createUnmade f o g).Bounded :=
  State.Bounded.send (State.Bounded.signal (State.Bounded.signal h.congr _ _) _ _) _

theorem State.createUnmade_map (s : State) (f : SiteFields) (o : SiteOutcome) (g : IndentFlags) :
    (s.createUnmade f o g).sst.map = s.sst.map ++ [Entry.unmade f o g s.now] := by
  simp only [State.createUnmade, State.handOver, State.send, State.queueMessage]
  split <;> rfl

theorem OnlyReports.cyc {s t : State} (h : OnlyReports s t) : t.cyc = s.cyc := by
  obtain ⟨_, _, _, _, rfl⟩ := h
  rfl

theorem Kept.abandonMeasurement (s : State) (w : Work) : Kept s (s.abandonMeasurement w) := by
  unfold State.abandonMeasurement
  split
  · unfold State.abandonRemeasure
    split
    · exact .send s _
    · exact .same s
  · exact .finish s _ _

theorem Kept.writeResult (s : State) (r : MeasureResult) : Kept s (s.writeResult r) := by
  unfold State.writeResult
  split
  · exact .same s
  · split
    · exact .finish s _ _
    · split
      · exact (((Kept.rewrite s _ _).trans (.signal _ _ _)).trans (.signal _ _ _)).trans (.send _ _)
      · exact .send s _

/-! ### Abandonment -/

theorem State.Bounded.writeAbandoned {s : State} (h : s.Bounded) : s.writeAbandoned.Bounded := by
  unfold State.writeAbandoned
  split
  · exact h
  · split
    · exact h
    · split
      · exact h.createUnmade _ _ _
      · unfold State.writeIndentAbandoned
        split
        · exact (Kept.finish s _ _).bounds h
        · exact h.createUnmade _ _ _
      · exact (Kept.abandonMeasurement s _).bounds h
      · exact (Kept.abandonMeasurement s _).bounds h
      · exact h

theorem State.finish_map_length (s : State) (site : Nat) (f : Entry → Entry) :
    (s.finish site f).sst.map.length = s.sst.map.length := by
  simp only [State.finish, State.handOver, State.send, State.queueMessage]
  repeat' split
  all_goals simp [State.rewrite, Store.update, State.signalOutcome, State.linkError]

theorem State.abandonMeasurement_map_length (s : State) (w : Work) :
    (s.abandonMeasurement w).sst.map.length = s.sst.map.length := by
  unfold State.abandonMeasurement
  split
  · unfold State.abandonRemeasure State.send State.queueMessage
    repeat' split
    all_goals rfl
  · exact s.finish_map_length _ _

/-- An abandonment writes at most the entry that the current item owes. -/
theorem State.writeAbandoned_map_length (s : State) :
    s.writeAbandoned.sst.map.length ≤ s.sst.map.length + s.entriesOwed := by
  unfold State.writeAbandoned
  split
  · exact Nat.le_add_right _ _
  · rename_i c hc
    split
    · exact Nat.le_add_right _ _
    · rename_i hs
      split
      · rename_i hp hw
        simp [State.createUnmade_map, State.entriesOwed_toSite hc hs hp hw]
      · rename_i hp hw
        unfold State.writeIndentAbandoned
        split
        · rw [State.finish_map_length]
          exact Nat.le_add_right _ _
        · rename_i hm
          simp [State.createUnmade_map, State.entriesOwed_indent hc hs hp hw, hm]
      · rw [State.abandonMeasurement_map_length]
        exact Nat.le_add_right _ _
      · rw [State.abandonMeasurement_map_length]
        exact Nat.le_add_right _ _
      · exact Nat.le_add_right _ _

/-- After an abandonment that leaves nothing owed, both bounds stand. -/
theorem Kept.abandoned {s t : State} (hb : s.writeAbandoned.Bounded → t.Bounded)
    (hm : t.sst.map = s.writeAbandoned.sst.map) (h0 : t.entriesOwed = 0) : Kept s t where
  bounds h := hb h.writeAbandoned
  map h := by
    have := s.writeAbandoned_map_length
    simp only [State.mapFits, hm, h0] at h ⊢
    omega

theorem Cyc.setStep_ending_owes {s : State} (c : Cyc) (h : s.cyc = c.setStep .ending) : s.entriesOwed = 0 := by
  cases hc : c.current with
  | none => exact State.entriesOwed_none (by simp [h, Cyc.setStep, hc])
  | some i => exact State.entriesOwed_ending (c := { i with step := .ending }) (by simp [h, Cyc.setStep, hc]) rfl

/-- The item is written by its phase and is ENDING. -/
theorem Kept.abandonedEnding {s t : State} (hb : s.writeAbandoned.Bounded → t.Bounded)
    (hm : t.sst.map = s.writeAbandoned.sst.map) (hc : t.cyc = s.cyc.setStep .ending) : Kept s t :=
  .abandoned hb hm (Cyc.setStep_ending_owes _ hc)

/-! ### Phases and choices -/

theorem State.Bounded.trySetNeed {s : State} (h : s.Bounded) : s.trySetNeed.Bounded := by
  unfold State.trySetNeed
  split
  · split
    · split
      · exact h.setNeed _
      · exact h
    · exact h
  · exact h

theorem OnlyCoordination.trySetNeed (s : State) : OnlyCoordination s s.trySetNeed := by
  unfold State.trySetNeed
  split
  · split
    · split
      · exact .setNeed s _
      · exact .same s
    · exact .same s
  · exact .same s

theorem Kept.trySetNeed (s : State) : Kept s s.trySetNeed := (OnlyCoordination.trySetNeed s).kept (·.trySetNeed)

/-- What a phase that begins leaves and sets: the Cycle Controller has it current, WAITING, its batch, contact mark and mode stand,
and what else changes is Frame Coordination's, the counters' and the flags, the cue and the buffer-full episode. -/
theorem State.enterPhase_frame (s : State) (w : Work) (p : Phase) :
    ∃ indent measure full cue evc,
      OnlyCoordination
        { s with
          cyc :=
            { s.cyc with
              current := some { work := w, phase := p, step := .waiting }, gatheredIndent := indent
              gatheredMeasure := measure, bufferFull := full, cue := cue }
          evc := evc } (s.enterPhase w p) := by
  have gathered : ∀ c : Cyc, ∃ indent measure, c.startGathering p =
      { c with gatheredIndent := indent, gatheredMeasure := measure } := by
    intro c
    unfold Cyc.startGathering
    split
    · exact ⟨_, _, rfl⟩
    · exact ⟨_, _, rfl⟩
    · exact ⟨_, _, rfl⟩
  have cued : ∀ u : State, ∃ cue, u.cueRoom p = { u with cyc.cue := cue } := by
    intro u
    unfold State.cueRoom
    split
    · exact ⟨_, rfl⟩
    · exact ⟨_, rfl⟩
  have opened : ∀ u : State, ∃ full evc, u.openBufferFull p = { u with cyc.bufferFull := full, evc := evc } := by
    intro u
    unfold State.openBufferFull
    split
    · exact ⟨_, _, rfl⟩
    · exact ⟨_, _, rfl⟩
  obtain ⟨indent, measure, hg⟩ := gathered s.cyc
  unfold State.enterPhase
  rw [hg]
  obtain ⟨cue, hc⟩ := cued { s with
    cyc :=
      { s.cyc with
        current := some { work := w, phase := p, step := .waiting }, gatheredIndent := indent
        gatheredMeasure := measure } }
  rw [hc]
  obtain ⟨full, evc, ho⟩ := opened { s with
    cyc :=
      { s.cyc with
        current := some { work := w, phase := p, step := .waiting }, gatheredIndent := indent
        gatheredMeasure := measure, cue := cue } }
  rw [ho]
  exact ⟨indent, measure, full, cue, evc, .trySetNeed _⟩

theorem State.Bounded.enterPhase {s : State} (h : s.Bounded) (w : Work) (p : Phase) : (s.enterPhase w p).Bounded := by
  unfold State.enterPhase
  refine State.Bounded.trySetNeed ?_
  have hc : ∀ u : State, u.Bounded → (u.cueRoom p).Bounded := by
    intro u hu
    unfold State.cueRoom
    split
    · exact hu.congr
    · exact hu
  have ho : ∀ u : State, u.Bounded → (u.openBufferFull p).Bounded := by
    intro u hu
    unfold State.openBufferFull
    split
    · exact State.Bounded.signal hu.congr _ _
    · exact hu
  exact ho _ (hc _ h.congr)

@[simp] theorem State.enterPhase_sst (s : State) (w : Work) (p : Phase) : (s.enterPhase w p).sst = s.sst := by
  obtain ⟨_, _, _, _, _, _, _, _, _, h, _⟩ := s.enterPhase_frame w p
  rw [h]

@[simp] theorem State.enterPhase_current (s : State) (w : Work) (p : Phase) :
    (s.enterPhase w p).cyc.current = some { work := w, phase := p, step := .waiting } := by
  obtain ⟨_, _, _, _, _, _, _, _, _, h, _⟩ := s.enterPhase_frame w p
  rw [h]

/-- A phase that begins owes no more than there was room for before. -/
theorem Kept.enterPhase {s : State} {w : Work} {p : Phase}
    (h : s.mapFits → s.sst.map.length + (s.enterPhase w p).entriesOwed ≤ 256) : Kept s (s.enterPhase w p) where
  bounds hb := hb.enterPhase w p
  map hm := by simpa only [State.mapFits, State.enterPhase_sst] using h hm

/-- TO_VIEW and IMAGE owe no entry. -/
theorem Kept.enterMeasuring (s : State) (w : Work) {p : Phase} (hp : p = .toView ∨ p = .image) :
    Kept s (s.enterPhase w p) := by
  refine .enterPhase fun h => ?_
  have : (s.enterPhase w p).entriesOwed = 0 := by
    rcases hp with rfl | rfl <;> simp [State.entriesOwed]
  simp only [State.mapFits] at h
  omega

/-- A spacing check that does not answer map-full found room in the map (R19). -/
theorem State.spacing_room {s : State} {f : SiteFields} (h : s.spacing f ≠ .wait .mapFull) : s.sst.map.length < 256 := by
  by_contra hl
  exact h (if_pos (Nat.le_of_not_lt hl))

/-- A wait leaves the current item and the store. -/
theorem Kept.waitFor (s : State) (cue : Cue) :
    Kept s (s.waitFor cue).1 ∧ (s.waitFor cue).1.cyc.current = s.cyc.current := by
  unfold State.waitFor
  split
  · exact ⟨.of_bounds (·.congr), rfl⟩
  · exact ⟨.of_bounds (·.congr), rfl⟩

theorem Kept.defer (s : State) (r : DeferralReason) : Kept s (s.defer r) ∧ (s.defer r).cyc = s.cyc := by
  unfold State.defer
  split
  · exact ⟨.same s, rfl⟩
  · exact ⟨.of_bounds fun h => State.Bounded.signal h.congr _ _, rfl⟩

theorem State.Bounded.takeHead {s : State} (h : s.Bounded) : s.takeHead.Bounded := by
  have hq : s.sst.queue.tail.length ≤ 32 := by
    rw [List.length_tail]
    exact Nat.le_trans (Nat.sub_le _ _) h.queueLength
  exact (h.withQueue hq).congr

theorem Kept.takeHead (s : State) : Kept s s.takeHead := .of_bounds (·.takeHead)

/-- What a selection keeps with nothing current: both bounds, and that nothing is current where it is to be made again. -/
theorem Kept.askSelection {s : State} (hc : s.cyc.current = none) :
    Kept s s.askSelection.1 ∧ (s.askSelection.2 = true → s.askSelection.1.cyc.current = none) := by
  have waits : ∀ (u : State) (cue : Cue), Kept s u → u.cyc.current = none →
      Kept s (u.waitFor cue).1 ∧ ((u.waitFor cue).2 = true → (u.waitFor cue).1.cyc.current = none) := by
    intro u cue hu hn
    exact ⟨hu.trans (Kept.waitFor u cue).1, fun _ => (Kept.waitFor u cue).2.trans hn⟩
  unfold State.askSelection State.select
  split
  rename_i answer t he
  split at he
  · obtain ⟨rfl, rfl⟩ := Prod.mk.inj he
    exact waits _ _ (.same _) hc
  · obtain ⟨rfl, rfl⟩ := Prod.mk.inj he
    exact ⟨(Kept.takeHead s).trans (.enterMeasuring _ _ (.inl rfl)), fun h => by cases h⟩
  · rename_i i _
    have room : s.spacing i.fields ≠ .wait .mapFull → s.sst.map.length < 256 := State.spacing_room
    split at he <;> obtain ⟨rfl, rfl⟩ := Prod.mk.inj he
    · rename_i hp
      have hl := room (by rw [hp]; simp)
      have batched : Kept s.takeHead { s.takeHead with cyc.batch := s.takeHead.cyc.batchFor i } := .of_bounds (·.congr)
      have entered : ∀ u : State, u.sst.map = s.sst.map → Kept u (u.enterPhase (.indent i) .toSite) := by
        intro u hu
        refine .enterPhase fun _ => Nat.le_trans (Nat.add_le_add_left (State.entriesOwed_le _) _) ?_
        rw [hu]
        exact hl
      exact ⟨((Kept.takeHead s).trans batched).trans (entered _ rfl), fun h => by cases h⟩
    · rename_i r _
      have hd := Kept.defer s r
      cases r
      · exact waits _ _ hd.1 (by rw [hd.2]; exact hc)
      · exact waits _ _ hd.1 (by rw [hd.2]; exact hc)
    · rename_i hr
      have hl := room (by rw [hr]; simp)
      have hcyc := (OnlyReports.createUnmade s.takeHead i.fields .rejectedSpacing .none).cyc
      refine ⟨⟨fun hb => hb.takeHead.createUnmade _ _ _, fun _ => ?_⟩, fun _ => ?_⟩
      · have h0 : (s.takeHead.createUnmade i.fields .rejectedSpacing .none).entriesOwed = 0 :=
          State.entriesOwed_none (by rw [hcyc]; exact hc)
        simp only [State.onSelection, State.mapFits, h0, State.createUnmade_map, List.length_append, List.length_singleton]
        exact hl
      · simp only [State.onSelection]
        rw [hcyc]
        exact hc

theorem Kept.chooseUnbatched {s : State} (hc : s.cyc.current = none) :
    Kept s s.chooseUnbatched.1 ∧ (s.chooseUnbatched.2 = true → s.chooseUnbatched.1.cyc.current = none) := by
  unfold State.chooseUnbatched
  split
  · exact ⟨.enterMeasuring _ _ (.inl rfl), fun h => by cases h⟩
  · split
    · unfold State.chooseInBatchMode
      split
      · split
        · exact Kept.askSelection hc
        · exact ⟨(Kept.waitFor s _).1, fun _ => (Kept.waitFor s _).2.trans hc⟩
      · exact Kept.askSelection hc
    · exact Kept.askSelection hc

theorem Kept.chooseOnce {s : State} (hc : s.cyc.current = none) :
    Kept s s.chooseOnce.1 ∧ (s.chooseOnce.2 = true → s.chooseOnce.1.cyc.current = none) := by
  have cleared : ∀ r : State × Bool, Kept ({ s with cyc.cue := .none } : State) r.1 ∧ (r.2 = true → r.1.cyc.current = none) →
      Kept s r.1 ∧ (r.2 = true → r.1.cyc.current = none) :=
    fun r h => ⟨Kept.trans (.of_bounds (·.congr)) h.1, h.2⟩
  unfold State.chooseOnce
  dsimp only
  split
  · split
    · exact ⟨.of_bounds (·.congr), fun _ => hc⟩
    · exact cleared _ (Kept.askSelection (s := { s with cyc.cue := .none }) hc)
  · exact cleared _ (Kept.chooseUnbatched (s := { s with cyc.cue := .none }) hc)

theorem Kept.chooseUpTo (n : Nat) {s : State} (hc : s.cyc.current = none) : Kept s (State.chooseUpTo n s) := by
  induction n generalizing s with
  | zero => exact .same s
  | succ n ih =>
    obtain ⟨hk, hn⟩ := Kept.chooseOnce hc
    unfold State.chooseUpTo
    split
    · rename_i t ht
      rw [ht] at hk hn
      exact hk.trans (ih (hn rfl))
    · rename_i t ht
      rw [ht] at hk
      exact hk

/-- A choice with nothing current keeps both bounds. -/
theorem Kept.choose {s : State} (hc : s.cyc.current = none) : Kept s s.choose := .chooseUpTo _ hc

theorem Cyc.waitsWith_current {c : Cyc} {q : Cue} (h : c.waitsWith q = true) : c.current = none := by
  simp only [Cyc.waitsWith, Bool.and_eq_true, Option.isNone_iff_eq_none] at h
  exact h.2

theorem Kept.wake (s : State) (q : Cue) : Kept s (s.wake q) := by
  unfold State.wake
  split
  · rename_i h
    exact .choose (Cyc.waitsWith_current h)
  · exact .same s

theorem Kept.checkPaused (s : State) : Kept s s.checkPaused := by
  unfold State.checkPaused
  split
  · exact .of_bounds (·.congr)
  · exact .same s

theorem Kept.continueWork (s : State) : Kept s s.continueWork := by
  unfold State.continueWork
  split
  · exact .choose (by assumption)
  · unfold State.pausingNext
    split
    · exact .enterMeasuring _ _ (.inl rfl)
    · exact .checkPaused s
  · exact .same s

/-- An item that is no longer current owes nothing. -/
theorem Kept.dropCurrent {s t : State} (hb : s.Bounded → t.Bounded) (hm : t.sst.map = s.sst.map)
    (hc : t.cyc.current = none) : Kept s t where
  bounds := hb
  map h := by
    simp only [State.mapFits, hm, State.entriesOwed_none hc] at h ⊢
    omega

theorem Kept.endItem (s : State) : Kept s s.endItem :=
  (Kept.dropCurrent (s := s) (t := { s with cyc := s.cyc.dropCurrent }) (·.congr) rfl rfl).trans (.continueWork _)

/-! ### Results and computations -/

theorem Kept.afterWrite (s : State) : Kept s s.afterWrite := by
  unfold State.afterWrite
  dsimp only
  have woken : Kept s
      ({ s with
        cyc := { s.cyc.afterWrite s.hasRoom with bufferFull := s.cyc.bufferFull && s.mea.freeSlot?.isNone } } : State).trySetNeed := by
    refine Kept.trans ?_ (.trySetNeed _)
    unfold Cyc.afterWrite
    split
    · exact .of_bounds (·.congr)
    · exact .of_bounds (·.congr)
  split
  · rename_i h
    exact woken.trans (.choose (Cyc.waitsWith_current h))
  · exact woken

theorem Kept.completeSlot (s : State) (name : SlotName) (d : Delivery) : Kept s (s.completeSlot name d) :=
  Kept.trans (.of_bounds (·.congr)) (.writeResult _ _)

theorem Kept.startSlot (s : State) (name : SlotName) : Kept s (s.startSlot name).1 := by
  unfold State.startSlot
  split
  · split
    · split
      · exact .of_bounds (·.congr)
      · exact .completeSlot s _ _
    · exact .same s
  · exact .same s

theorem Kept.startComputations (s : State) : Kept s s.startComputations := by
  have both := (Kept.startSlot s .a).trans (.startSlot _ .b)
  unfold State.startComputations
  dsimp only
  split
  · exact both.trans (.afterWrite _)
  · exact both

theorem Kept.computeDone (s : State) (name : SlotName) : Kept s (s.computeDone name) := by
  unfold State.computeDone
  split
  · exact (Kept.completeSlot s _ _).trans (.afterWrite _)
  · exact .same s

/-! ### Faults and start-up -/

theorem Kept.abandonImage (s : State) : Kept s s.abandonImage := by
  unfold State.abandonImage State.freeReserved
  split
  · exact .same s
  · split
    · split
      · exact .of_bounds (·.congr)
      · exact .of_bounds (·.congr)
    · exact .of_bounds (·.congr)

theorem Kept.withForceStop (s : State) (r : Frc × List ForceReport) : Kept s (s.withForceStop r) := .of_bounds (·.congr)

theorem Kept.stationFault (s : State) (cause : FaultCause) : Kept s (s.stationFault cause) := by
  unfold State.stationFault
  split
  · exact .same s
  · have dropped : ∀ (u : State) (c : Cyc), c.current = none → Kept u { u.writeAbandoned with cyc := c } :=
      fun u c hc => .abandoned (·.congr) rfl (State.entriesOwed_none hc)
    have withdrawn : ∀ u : State, Kept u { u.clearNeed.release.abandonImage with mot := u.clearNeed.release.abandonImage.mot.stop.1 } :=
      fun u => (((Kept.clearNeed u).trans (.release _)).trans (.abandonImage _)).trans (.of_bounds (·.congr))
    exact ((Kept.withForceStop s _).trans (dropped _ _ rfl)).trans (withdrawn _)

theorem Kept.tryEndStart (s : State) : Kept s s.tryEndStart := by
  unfold State.tryEndStart
  split
  · split
    · exact .of_bounds (·.congr)
    · split
      · refine .of_bounds fun h => ?_
        exact (h.mapView (f := fun v => .cleared v.rank) fun v => rfl).congr
      · exact Kept.trans (.of_bounds (·.congr)) (.enterListenIn _ _)
  · exact .same s

end Sys2Proof.Machine
end

section
/-!
PROOFS. Every command keeps the bounds, and from a lawful state the map's (O4); the state after reset meets the invariants (O6).
-/

-- One theorem after another: each one elaborated beside the others takes a thread with a stack of its own.
set_option Elab.async false

namespace Sys2Proof.Machine

/-! ### Reports of the Force Unit -/

theorem Kept.retractedAtItem (s : State) : Kept s s.retractedAtItem := by
  unfold State.retractedAtItem
  split
  · exact (Kept.release s).trans (.endItem _)
  · unfold State.indentCompleted
    split
    · have after : ∀ (u : State) (w : Work), Kept u (u.afterIndent w) := by
        intro u w
        unfold State.afterIndent
        split
        · exact .enterMeasuring _ _ (.inl rfl)
        · exact .endItem _
      exact ((Kept.rewrite s _ _).trans (.release _)).trans (after _ _)
    · exact (Kept.release s).trans (.endItem _)
  · exact .trySetNeed s

theorem Kept.onRetracted (s : State) : Kept s s.onRetracted :=
  ((Kept.tryEndStart s).trans (.retractedAtItem _)).trans (.checkPaused _)

/-- Whether a report creates an entry for the item in INDENT: contact, and the end of the stroke (R10, R11). -/
def ForceReport.creates : ForceReport → Bool
  | .contact | .strokeExhausted => true
  | _ => false

/-- A report that creates no entry keeps both bounds. -/
theorem Kept.onForceReport {r : ForceReport} (h : r.creates = false) (s : State) : Kept s (s.onForceReport r) := by
  have gathered : Kept s { s with cyc.gatheredIndent := s.cyc.gatheredIndent.gather r } := .of_bounds (·.congr)
  refine gathered.trans ?_
  cases r with
  | contact => cases h
  | strokeExhausted => cases h
  | overload _ => exact .abandonedEnding (·.congr) rfl rfl
  | forceDisagree => exact .same _
  | lostContact => exact .same _
  | holdResults _ _ => exact .same _
  | sensorOpen => exact .stationFault _ _
  | unloadTimeout => exact .stationFault _ _
  | retractTimeout => exact .stationFault _ _
  | retracted => exact .onRetracted _

/-- No report of a list creates an entry. -/
def createsNothing (reports : List ForceReport) : Prop := ∀ r ∈ reports, r.creates = false

@[simp] theorem createsNothing_nil : createsNothing [] := by simp [createsNothing]

@[simp] theorem createsNothing_cons (r : ForceReport) (rest : List ForceReport) :
    createsNothing (r :: rest) ↔ r.creates = false ∧ createsNothing rest := by
  simp [createsNothing]

@[simp] theorem createsNothing_append (a b : List ForceReport) :
    createsNothing (a ++ b) ↔ createsNothing a ∧ createsNothing b := by
  simp only [createsNothing, List.mem_append]
  exact ⟨fun h => ⟨fun r hr => h r (.inl hr), fun r hr => h r (.inr hr)⟩, fun h r hr => hr.elim (h.1 r) (h.2 r)⟩

theorem Kept.forceReports {reports : List ForceReport} (h : createsNothing reports) (s : State) :
    Kept s (reports.foldl State.onForceReport s) := by
  induction reports generalizing s with
  | nil => exact .same s
  | cons r rest ih =>
    exact (Kept.onForceReport (h r List.mem_cons_self) s).trans (ih (fun q hq => h q (List.mem_cons_of_mem _ hq)) _)

theorem Kept.withForce (s : State) {r : Frc × List ForceReport} (h : createsNothing r.2) :
    Kept s (s.withForce r) :=
  Kept.trans (t := { s with frc := r.1 }) (.of_bounds (·.congr)) (.forceReports h _)

/-- The item before its contact in a WORKING INDENT, as a force state before contact has it (R112, R134). -/
def State.beforeContact (s : State) : Prop :=
  s.cyc.contactMark = none ∧ ∃ c, s.cyc.current = some c ∧ c.phase = .indent ∧ c.step = .working

/-- A report that creates the entry of the item in INDENT before its contact pays for the one owed. -/
theorem State.mapFits.onCreating {s : State} (hm : s.mapFits) (hb : s.beforeContact) {r : ForceReport}
    (hr : r.creates = true) : (s.onForceReport r).mapFits := by
  obtain ⟨hmark, ⟨work, phase, step⟩, hc, rfl, rfl⟩ := hb
  cases work with
  | indent i =>
    have ho : s.entriesOwed = 1 := by
      rw [State.entriesOwed_indent hc (by simp) rfl rfl]
      simp [hmark]
    simp only [State.mapFits, ho] at hm
    cases r <;> simp only [ForceReport.creates, reduceCtorEq] at hr
    · simp [State.onForceReport, State.onContact, hc, State.mapFits, State.createMade, State.entriesOwed]
      omega
    · simp only [State.onForceReport, State.onStrokeExhausted, Cyc.indentFields, hc, State.mapFits, State.createUnmade_map,
        List.length_append, List.length_singleton]
      rw [State.entriesOwed_ending (c := { work := .indent i, phase := .indent, step := .ending })
        (by simp [Cyc.setStep]) rfl]
      omega
  | remeasure _ =>
    cases r <;> simp only [ForceReport.creates, reduceCtorEq] at hr
    · simpa [State.onForceReport, State.onContact, hc, State.mapFits, State.entriesOwed] using hm
    · simpa [State.onForceReport, State.onStrokeExhausted, Cyc.indentFields, hc, State.mapFits, State.entriesOwed] using hm
  | listed _ =>
    cases r <;> simp only [ForceReport.creates, reduceCtorEq] at hr
    · simpa [State.onForceReport, State.onContact, hc, State.mapFits, State.entriesOwed] using hm
    · simpa [State.onForceReport, State.onStrokeExhausted, Cyc.indentFields, hc, State.mapFits, State.entriesOwed] using hm

theorem State.Bounded.onForceReport {s : State} (h : s.Bounded) (r : ForceReport) : (s.onForceReport r).Bounded := by
  by_cases hr : r.creates = false
  · exact (Kept.onForceReport hr s).bounds h
  · have hg : ({ s with cyc.gatheredIndent := s.cyc.gatheredIndent.gather r } : State).Bounded := h.congr
    cases r <;> simp only [ForceReport.creates, reduceCtorEq, not_true_eq_false] at hr
    · unfold State.onForceReport State.onContact
      dsimp only
      split
      · exact hg.congr
      · exact hg
    · unfold State.onForceReport State.onStrokeExhausted
      dsimp only
      split
      · exact (hg.createUnmade _ _ _).congr
      · exact hg

theorem State.Bounded.withForce {s : State} (h : s.Bounded) (r : Frc × List ForceReport) : (s.withForce r).Bounded := by
  have reports : ∀ (rs : List ForceReport) (u : State), u.Bounded → (rs.foldl State.onForceReport u).Bounded := by
    intro rs
    induction rs with
    | nil => exact fun u hu => hu
    | cons q rest ih => exact fun u hu => ih _ (hu.onForceReport q)
  exact reports _ _ h.congr

theorem Frc.cutHold_creates (f : Frc) (c : ConfigImage) : createsNothing (f.cutHold c) := by
  unfold Frc.cutHold
  split <;> simp [Frc.holdReport, ForceReport.creates]

theorem Frc.overload_creates (f : Frc) (c : ConfigImage) (now : Time) : createsNothing (f.overload c now).2 := by
  simp [Frc.overload, f.cutHold_creates c, ForceReport.creates]

theorem Frc.wirePair_creates (f : Frc) (c : ConfigImage) (p q : Int) (now : Time) :
    createsNothing (f.wirePair c p q now).2 := by
  simp only [Frc.wirePair]
  repeat' split
  all_goals simp [ForceReport.creates]

theorem Frc.loadPair_creates (f : Frc) (c : ConfigImage) (k : ForceCycle) (mark : TickSource) (now : Time) :
    createsNothing (f.loadPair c k mark now).2 := by
  simp only [Frc.loadPair]
  split
  · exact Frc.overload_creates _ c now
  · split <;> simp

theorem Frc.crossCheck_creates (f : Frc) (k : ForceCycle) : createsNothing (f.crossCheck k).2 := by
  unfold Frc.crossCheck
  split
  · dsimp only
    split <;> simp [ForceReport.creates]
  · split <;> simp

theorem Frc.holdPair_creates (f : Frc) (c : ConfigImage) (k : ForceCycle) (mark : TickSource) (now : Time) :
    createsNothing (f.holdPair c k mark now).2 := by
  simp only [Frc.holdPair]
  split
  · exact Frc.overload_creates _ c now
  · split
    · simp [Frc.holdReport, ForceReport.creates]
    · have := Frc.crossCheck_creates (f.countHold mark).accumulate k
      split <;> simp [this, Frc.holdReport, ForceReport.creates]

theorem Frc.unloadPair_creates (f : Frc) (c : ConfigImage) (k : ForceCycle) (now : Time) :
    createsNothing (f.unloadPair c k now).2 := by
  simp only [Frc.unloadPair]
  split
  · exact Frc.overload_creates _ c now
  · split <;> simp

theorem Frc.retractPair_creates (f : Frc) (c : ConfigImage) (p q : Int) : createsNothing (f.retractPair c p q).2 := by
  unfold Frc.retractPair Frc.freePair
  repeat' split
  all_goals simp [ForceReport.creates]

/-- A pair of the approach creates an entry with its first report at most. -/
theorem Frc.approachPair_creates (f : Frc) (c : ConfigImage) (k : ForceCycle) (now : Time) :
    createsNothing (f.approachPair c k now).2.tail := by
  simp only [Frc.approachPair]
  split
  · split
    · exact Frc.overload_creates _ c now
    · simp
  · split
    · have := Frc.overload_creates f c now
      exact fun r hr => this r (List.mem_of_mem_tail hr)
    · split <;> simp

/-- A sample pair creates an entry with its first report at most, and with that only in APPROACH. -/
theorem Frc.takePair_creates (f : Frc) (c : ConfigImage) (p q : Int) (mark : TickSource) (now : Time) :
    createsNothing (f.takePair c p q mark now).2 ∨
      f.state = .approach ∧ createsNothing (f.takePair c p q mark now).2.tail := by
  have hs : (f.record c p q).state = f.state := rfl
  unfold Frc.takePair Frc.testPair Frc.cyclePair
  rw [hs]
  split
  · simp
  · split
    · simp
    · simp
    · exact .inl (Frc.wirePair_creates _ c p q now)
    · exact .inl (Frc.retractPair_creates _ c p q)
    · simp
    · split
      · rename_i k _
        dsimp only
        split
        · rename_i ha
          exact .inr ⟨ha, Frc.approachPair_creates _ c k now⟩
        · exact .inl (Frc.loadPair_creates _ c k mark now)
        · exact .inl (Frc.holdPair_creates _ c k mark now)
        · exact .inl (Frc.unloadPair_creates _ c k now)
        · simp
        · simp
      · simp

theorem Frc.timeouts_create (f : Frc) (now : Time) :
    createsNothing (f.unloadTimeout now).2 ∧ createsNothing (f.fastUnloadTimeout now).2 ∧
      createsNothing (f.retractTimeout now).2 := by
  unfold Frc.unloadTimeout Frc.fastUnloadTimeout Frc.retractTimeout
  refine ⟨?_, ?_, ?_⟩
  all_goals split <;> simp [ForceReport.creates]

/-- In a state before contact a lawful station has the item in INDENT before its contact. -/
theorem State.Lawful.beforeContact {s : State} (h : s.Lawful) (hf : s.frc.state.beforeContact = true) :
    s.beforeContact := by
  have hcycle : s.frc.state.inCycle = true := by
    revert hf
    cases s.frc.state <;> simp [ForceState.beforeContact, ForceState.inCycle]
  obtain ⟨_, hin⟩ := h.forceUnderQuiet hcycle
  refine ⟨h.contactToCome hf, ?_⟩
  unfold State.currentIn at hin
  split at hin
  · rename_i c hc
    exact ⟨c, hc, by simpa using hin⟩
  · cases hin

/-- A sample pair of a lawful station keeps the map's bound (R10, R11). -/
theorem State.mapFits.samplePair {s : State} (hm : s.mapFits) (hl : s.Lawful) (p q : RawSample) :
    (s.samplePair p q).mapFits := by
  rcases s.frc.takePair_creates s.cfg p.toInt q.toInt s.tbu.tickMark s.now with h | ⟨ha, h⟩
  · exact (Kept.withForce s h).map hm
  · unfold State.samplePair State.withForce
    cases hr : (s.frc.takePair s.cfg p.toInt q.toInt s.tbu.tickMark s.now).2 with
    | nil => exact hm
    | cons r rest =>
      rw [hr] at h
      have hb : s.beforeContact := hl.beforeContact (by rw [ha]; rfl)
      refine (Kept.forceReports h _).map ?_
      by_cases hcr : r.creates = true
      · refine State.mapFits.onCreating ?_ ?_ hcr
        · exact hm
        · exact hb
      · refine (Kept.onForceReport (by simpa using hcr) _).map ?_
        exact hm

/-! ### Reports of the Motion Unit -/

/-- A sequence done at an item that is not ENDING keeps the map's bound: INDENT owes what TO_SITE owed (R10, R38). -/
theorem State.mapFits.onSequenceDone {s : State} (hm : s.mapFits)
    (hs : ∀ c, s.cyc.current = some c → c.step ≠ .ending) : s.onSequenceDone.mapFits := by
  obtain ⟨_, _, _, _, hr, _⟩ := OnlyCoordination.release s
  unfold State.onSequenceDone
  split
  · rename_i work step hc
    refine (Kept.enterPhase fun h => ?_).map ((Kept.release s).map hm)
    have ho : s.release.entriesOwed = s.entriesOwed := State.entriesOwed_congr (by rw [hr]) (by rw [hr])
    simp only [State.mapFits, ho] at h
    cases work with
    | indent i =>
      rw [State.entriesOwed_toSite hc (hs _ hc) rfl rfl] at h
      exact Nat.le_trans (Nat.add_le_add_left (State.entriesOwed_le _) _) h
    | remeasure _ =>
      simp only [State.entriesOwed, State.enterPhase_current, reduceCtorEq, if_false]
      omega
    | listed _ =>
      simp only [State.entriesOwed, State.enterPhase_current, reduceCtorEq, if_false]
      omega
  · exact ((Kept.release s).trans (.enterMeasuring _ _ (.inr rfl))).map hm
  · exact hm

theorem State.Bounded.withMotion {s : State} (h : s.Bounded) (r : Mot × List MotionReport) : (s.withMotion r).Bounded := by
  have one : ∀ (u : State) (q : MotionReport), u.Bounded → (u.onMotionReport q).Bounded := by
    intro u q hu
    cases q with
    | failed cause => exact (Kept.stationFault u cause).bounds hu
    | sequenceDone =>
      simp only [State.onMotionReport, State.onSequenceDone]
      split
      · exact hu.release.enterPhase _ _
      · exact hu.release.enterPhase _ _
      · exact hu
  have reports : ∀ (rs : List MotionReport) (u : State), u.Bounded → (rs.foldl State.onMotionReport u).Bounded := by
    intro rs
    induction rs with
    | nil => exact fun u hu => hu
    | cons q rest ih => exact fun u hu => ih _ (one u q hu)
  exact reports _ _ h.congr

/-- What an answer of the Motion Unit reports: nothing, a failure, or a sequence done. -/
def oneReport (reports : List MotionReport) : Prop :=
  reports = [] ∨ (∃ cause, reports = [.failed cause]) ∨ reports = [.sequenceDone]

theorem Mot.runPieces_reports (m : Mot) (c : ConfigImage) (i : Bool) (now : Time) (pieces : List Piece) :
    oneReport (m.runPieces c i now pieces).2 := by
  fun_induction Mot.runPieces m c i now pieces with
  | case1 => exact .inr (.inr rfl)
  | case2 =>
    unfold Mot.startSettle
    split
    · exact .inr (.inr rfl)
    · exact .inl rfl
  | case3 p rest _ _ ih => exact ih
  | case4 p rest _ _ =>
    unfold Mot.startPiece
    split
    · exact .inl rfl
    · exact .inr (.inl ⟨_, rfl⟩)

/-- An answer of the Motion Unit keeps the map's bound where it reports a sequence done only for an item that is not ENDING. -/
theorem State.mapFits.withMotion {s : State} (hm : s.mapFits) {r : Mot × List MotionReport} (hr : oneReport r.2)
    (hs : r.2 = [.sequenceDone] → ∀ c, s.cyc.current = some c → c.step ≠ .ending) : (s.withMotion r).mapFits := by
  unfold State.withMotion
  rcases hr with h | ⟨cause, h⟩ | h
  · rw [h]
    exact hm
  · rw [h]
    refine (Kept.stationFault _ cause).map ?_
    exact hm
  · rw [h]
    refine State.mapFits.onSequenceDone ?_ (hs h)
    exact hm

/-- Whether an answer reports at most a failure, unless a sequence is in hand. -/
def Mot.answersInSequence (m : Mot) (r : Mot × List MotionReport) : Prop :=
  oneReport r.2 ∧ (r.2 = [.sequenceDone] → m.sequence.isSome)

theorem Mot.answers_nothing (m n : Mot) : m.answersInSequence (n, []) := ⟨.inl rfl, fun h => by cases h⟩

theorem Mot.nextPiece_answers {m n : Mot} (h : n.sequence = m.sequence) (c : ConfigImage) (i : Bool) (now : Time) :
    m.answersInSequence (n.nextPiece c i now) := by
  unfold Mot.nextPiece
  split
  · rename_i hs
    exact ⟨Mot.runPieces_reports _ c i now _, fun _ => by rw [← h, hs]; rfl⟩
  · exact m.answers_nothing _

theorem Mot.turretHome_answers (m : Mot) (c : ConfigImage) (i : Bool) (now : Time) :
    m.answersInSequence (m.turretHome c i now) := by
  unfold Mot.turretHome
  split
  · exact Mot.nextPiece_answers rfl c i now
  · exact m.answers_nothing _

theorem Mot.indexDone_answers (m : Mot) (c : ConfigImage) (i : Bool) (now : Time) (edges : Nat) :
    m.answersInSequence (m.indexDone c i now edges) := by
  unfold Mot.indexDone
  split
  · split
    · exact Mot.nextPiece_answers rfl c i now
    · exact m.answers_nothing _
  · exact m.answers_nothing _

theorem Mot.axisHome_answers (m : Mot) (c : ConfigImage) (i : Bool) (now : Time) (a : Axis) :
    m.answersInSequence (m.axisHome c i now a) := by
  unfold Mot.axisHome Mot.carriageHome
  split
  · split
    · exact m.answers_nothing _
    · split
      · exact Mot.nextPiece_answers rfl c i now
      · exact m.answers_nothing _
  · split
    · exact m.answers_nothing _
    · split
      · exact Mot.nextPiece_answers rfl c i now
      · exact m.answers_nothing _
  · exact m.answers_nothing _

theorem Mot.carriageDone_answers (m : Mot) (c : ConfigImage) (i : Bool) (now : Time) :
    m.answersInSequence (m.carriageDone c i now) := by
  unfold Mot.carriageDone
  split
  · split
    · exact m.answers_nothing _
    · exact Mot.nextPiece_answers rfl c i now
  · exact m.answers_nothing _

theorem Mot.zHome_answers (m : Mot) (c : ConfigImage) (i : Bool) (now : Time) :
    m.answersInSequence (m.zHome c i now) := by
  unfold Mot.zHome
  split
  · exact Mot.nextPiece_answers rfl c i now
  · exact m.answers_nothing _

theorem Mot.rapidDone_answers (m : Mot) (c : ConfigImage) (i : Bool) (now : Time) :
    m.answersInSequence (m.rapidDone c i now) := by
  unfold Mot.rapidDone
  split
  · split
    · exact m.answers_nothing _
    · exact Mot.nextPiece_answers rfl c i now
  · exact m.answers_nothing _

/-- A lawful station settles only within a sequence. -/
theorem Mot.settleDone_answers {m : Mot} (h : m.settleEnd.isSome → m.sequence.isSome) (now : Time) :
    m.answersInSequence (m.settleDone now) := by
  unfold Mot.settleDone
  split
  · rename_i hd
    refine ⟨.inr (.inr rfl), fun _ => h ?_⟩
    cases hm : m.settleEnd <;> simp [hm, due] at hd ⊢
  · exact m.answers_nothing _

theorem Mot.deadlineReached_answers (m : Mot) (now : Time) : m.answersInSequence (m.deadlineReached now) := by
  unfold Mot.deadlineReached
  split
  · exact ⟨.inr (.inl ⟨_, rfl⟩), fun h => by simp at h⟩
  · exact m.answers_nothing _

/-- With a sequence in hand a lawful station's item is WORKING. -/
theorem State.Lawful.inSequence {s : State} (h : s.Lawful) (hs : s.mot.sequence.isSome) :
    ∀ c, s.cyc.current = some c → c.step ≠ .ending := by
  intro c hc
  obtain ⟨_, hin, _⟩ := h.motionUnderMotion hs
  simp only [State.currentIn, hc, Bool.and_eq_true, beq_iff_eq] at hin
  rw [hin.2]
  decide

/-- An answer of the Motion Unit at a lawful station keeps the map's bound. -/
theorem State.mapFits.motionAnswered {s : State} (hm : s.mapFits) (hl : s.Lawful) {r : Mot × List MotionReport}
    (hr : s.mot.answersInSequence r) : (s.withMotion r).mapFits :=
  hm.withMotion hr.1 fun h => hl.inSequence (hr.2 h)

/-! ### Grants -/

/-- A reported fine step changes the image record alone (R145). -/
theorem State.stepReported_frame (s : State) (z : Nat) : ∃ img, s.stepReported z = { s with img := img } := by
  unfold State.stepReported State.beginAttempt
  dsimp only
  repeat' split
  all_goals exact ⟨_, rfl⟩

/-- A fine step asked for changes the motion and image records alone (R103, R145). -/
theorem State.askStep_frame (s : State) (target : Int) : ∃ mot img, s.askStep target = { s with mot := mot, img := img } := by
  unfold State.askStep
  split
  · rename_i m z _
    obtain ⟨img, h⟩ := ({ s with mot := m, img.state := .step } : State).stepReported_frame z
    exact ⟨m, img, h⟩
  · exact ⟨_, _, rfl⟩

theorem Kept.askStep (s : State) (target : Int) : Kept s (s.askStep target) := by
  obtain ⟨_, _, h⟩ := s.askStep_frame target
  rw [h]
  exact .of_bounds (·.congr)

theorem Kept.takePosition (s : State) (i : Nat) : Kept s (s.takePosition i) :=
  Kept.trans (.of_bounds (·.congr)) (.askStep _ _)

theorem Kept.beginImage (s : State) (site slot : Nat) : Kept s (s.beginImage site slot) := by
  unfold State.beginImage
  split
  · exact Kept.trans (.of_bounds (·.congr)) (.takePosition _ _)
  · exact .same s

/-- A step that is WORKING after it was WAITING owes what was owed. -/
theorem State.mapFits.setWorking {s : State} (hm : s.mapFits) {c : Current} (hc : s.cyc.current = some c)
    (hs : c.step = .waiting) : ({ s with cyc := s.cyc.setStep .working } : State).mapFits := by
  have : ({ s with cyc := s.cyc.setStep .working } : State).entriesOwed = s.entriesOwed := by
    simp [State.entriesOwed, Cyc.setStep, hc, hs]
  simpa only [State.mapFits, this] using hm

theorem Kept.handOut {s : State} (hs : ∀ c, s.cyc.current = some c → c.step ≠ .ending) (c : Current) :
    Kept s (s.handOut c) := by
  have sequence : ∀ pieces, Kept s (s.handSequence pieces) := fun pieces =>
    ⟨(·.withMotion _), fun hm => hm.withMotion (Mot.runPieces_reports _ _ _ _ _) fun _ => hs⟩
  unfold State.handOut
  split
  · exact sequence _
  · exact sequence _
  · exact .of_bounds (·.congr)
  · exact .beginImage s _ _
  · exact .same s

theorem Kept.onGrant (s : State) : Kept s s.onGrant := by
  unfold State.onGrant
  split
  · rename_i c hc
    split
    · rename_i hs
      have working : Kept s { s with cyc := s.cyc.setStep .working } := ⟨(·.congr), fun hm => hm.setWorking hc hs⟩
      refine working.trans (.handOut ?_ c)
      intro d hd
      simp only [Cyc.setStep, hc, Option.map_some, Option.some.injEq] at hd
      rw [← hd]
      simp
    · exact .same s
  · exact .same s

/-! ### The Image Unit's work -/

theorem Kept.imageEnded (s : State) (e : ImageEnding) (haltDue : Bool) : Kept s (s.imageEnded e haltDue) := by
  have computed : ∀ u : State, Kept u (u.computeDelivered haltDue) := by
    intro u
    unfold State.computeDelivered
    split
    · exact .same u
    · exact .startComputations u
  have dropped : ∀ u : State, Kept u { u with cyc := u.cyc.dropCurrent } := fun u => .dropCurrent (·.congr) rfl rfl
  unfold State.imageEnded
  split
  · split
    · exact ((((Kept.of_bounds (·.congr)).trans (.release _)).trans (dropped _)).trans (computed _)).trans
        (.continueWork _)
    · exact .same s
  · exact .same s

theorem Kept.withImage {s : State} {r : State × Option ImageEnding} (h : Kept s r.1) (haltDue : Bool) :
    Kept s (State.withImage r haltDue) := by
  unfold State.withImage
  split
  · exact h.trans (.imageEnded _ _ _)
  · exact h

theorem Kept.attemptFailed (s : State) : Kept s s.attemptFailed.1 := by
  unfold State.attemptFailed
  split
  · exact .of_bounds fun h => (State.Bounded.signal (s := { s with img.attempt := s.img.attempt + 1 }) h.congr _ _).congr
  · exact .same s

theorem Kept.windowReceived (s : State) (lines : List (List Pixel)) : Kept s (s.windowReceived lines).1 := by
  have ended : ∀ (u : State) (o : ObjectiveRecord), Kept u (u.searchEnd o).1 := by
    intro u o
    unfold State.searchEnd
    split
    · split
      · exact .same u
      · exact Kept.trans (.of_bounds (·.congr)) (.askStep _ _)
    · exact .same u
  have scored : ∀ (u : State) (o : ObjectiveRecord) (n : Nat), Kept u (u.positionScored o n).1 := by
    intro u o n
    unfold State.positionScored
    dsimp only
    split
    · exact Kept.trans (.of_bounds (·.congr)) (.takePosition _ _)
    · exact Kept.trans (.of_bounds (·.congr)) (ended _ _)
  unfold State.windowReceived
  split
  · split
    · unfold State.attemptDone
      dsimp only
      split
      · exact Kept.trans (.of_bounds (·.congr)) (scored _ _ _)
      · exact .of_bounds (·.congr)
      · exact .of_bounds (·.congr)
    · exact .same s
  · exact .same s

end Sys2Proof.Machine
end

section
/-!
PROOFS. Requests, the frame link and the resets keep the bounds; every command does (O4), and the state after reset meets the invariants
(O6).
-/

-- One theorem after another: each one elaborated beside the others takes a thread with a stack of its own.
set_option Elab.async false

namespace Sys2Proof.Machine

/-! ### Requests -/

theorem Kept.pushItem {s : State} {i : Item} (h : s.sst.queue.length < 32) : Kept s (s.pushItem i) :=
  .of_bounds fun hb => hb.withQueue (by simpa using h)

/-- An accepted PLAN_SITE finds room in the queue (R4). -/
theorem State.planSiteCode_room {s : State} {r : PlanRecord} (h : s.planSiteCode r = .accepted) :
    s.sst.queue.length < 32 := by
  by_contra hl
  unfold State.planSiteCode at h
  rw [if_pos (Nat.le_of_not_lt hl)] at h
  repeat' split at h
  all_goals cases h

/-- An accepted PLAN_REMEASURE finds room in the queue (R5). -/
theorem State.planRemeasureCode_room {s : State} {site : Nat} (h : s.planRemeasureCode site = .accepted) :
    s.sst.queue.length < 32 := by
  by_contra hl
  unfold State.planRemeasureCode at h
  rw [if_pos (Nat.le_of_not_lt hl)] at h
  repeat' split at h
  all_goals cases h

theorem Kept.withdrawItem (s : State) (site : Nat) : Kept s (s.withdrawItem site) := by
  refine .of_bounds fun h => ?_
  have hq := Nat.le_trans (List.length_filter_le (fun i : Item => i.site != site) s.sst.queue) h.queueLength
  exact (h.withQueue hq).congr

theorem Kept.planWithdraw (s : State) (site : Nat) : Kept s (s.planWithdraw site) := by
  unfold State.planWithdraw
  split
  · exact (Kept.withdrawItem s site).trans (.wake _ _)
  · exact (Kept.withdrawItem s site).trans (.wake _ _)

theorem Kept.clearMap (s : State) : Kept s s.clearMap where
  bounds h := h.congr
  map _ := Nat.le_trans (Nat.add_le_add_left (State.entriesOwed_le _) _) (by simp [State.clearMap])

theorem OnlyCoordination.cyc {s t : State} (h : OnlyCoordination s t) : t.cyc = s.cyc := by
  obtain ⟨_, _, _, _, rfl, _⟩ := h
  rfl

theorem OnlyCoordination.sst {s t : State} (h : OnlyCoordination s t) : t.sst = s.sst := by
  obtain ⟨_, _, _, _, rfl, _⟩ := h
  rfl

/-- The Image Unit's abandonment changes the slots and the image record alone (R148). -/
theorem State.abandonImage_frame (s : State) : ∃ mea img, s.abandonImage = { s with mea := mea, img := img } := by
  unfold State.abandonImage State.freeReserved
  repeat' split
  all_goals exact ⟨_, _, rfl⟩

/-- The item is written by its phase and ends. -/
theorem Kept.abandonedEnded {s t : State} (hb : s.writeAbandoned.Bounded → t.Bounded)
    (hm : t.sst = s.writeAbandoned.sst) : Kept s t.endItem := by
  have dropped : Kept s { t with cyc := t.cyc.dropCurrent } :=
    .abandoned (fun h => (hb h).congr) (by rw [← hm]) (State.entriesOwed_none rfl)
  exact dropped.trans (.continueWork _)

theorem Kept.abortMotion (s : State) : Kept s s.writeAbandoned.abortMotion := by
  unfold State.abortMotion
  split
  · rename_i m _
    exact .abandonedEnded (fun h => State.Bounded.release h.congr) (OnlyCoordination.release _).sst
  · exact .abandonedEnding (·.congr) rfl (by rw [(OnlyReports.writeAbandoned s).cyc])

theorem Kept.abortImage (s : State) : Kept s s.writeAbandoned.abortImage := by
  obtain ⟨mea, img, h⟩ := s.writeAbandoned.abandonImage_frame
  unfold State.abortImage State.endImageAbort
  rw [h]
  split
  · exact .abandonedEnded (fun h => State.Bounded.release h.congr) (OnlyCoordination.release _).sst
  · exact .abandonedEnding (·.congr) rfl (by rw [(OnlyReports.writeAbandoned s).cyc])

theorem Kept.abortIndent (s : State) (r : Frc × List ForceReport) :
    Kept s { (s.withForceStop r).writeAbandoned with cyc := (s.withForceStop r).writeAbandoned.cyc.setStep .ending } :=
  (Kept.withForceStop s r).trans (.abandonedEnding (·.congr) rfl (by rw [(OnlyReports.writeAbandoned _).cyc]))

theorem Kept.abortItem (s : State) : Kept s s.abortItem := by
  unfold State.abortItem
  split
  · exact .same s
  · rename_i c _
    split
    · exact .same s
    · exact (Kept.clearNeed s).trans (.abandonedEnded id rfl)
    · refine (Kept.clearNeed s).trans ?_
      unfold State.abortWorking
      split
      · exact .abortMotion _
      · exact .abortMotion _
      · exact .abortIndent _ _
      · exact .abortImage _
      · exact .same _
      · exact .same _

theorem Kept.answerThen (s : State) (tag kind : Byte) {code : ReplyCode} {effect : State → State}
    (h : code = .accepted → Kept (s.reply tag kind code) (effect (s.reply tag kind code))) :
    Kept s (s.answerThen tag kind code effect) := by
  unfold State.answerThen
  split
  · exact (Kept.send s _).trans (h (by assumption))
  · exact .send s _

/-- A reply leaves the store. -/
@[simp] theorem State.send_sst (s : State) (m : Message) : (s.send m).sst = s.sst := by
  obtain ⟨_, _, _, _, h⟩ : ∃ f g e, ∃ _ : True, s.send m = { s with fli := { s.fli with messages := f, txOverflow := g }, evc := e } := by
    unfold State.send State.queueMessage
    split
    · exact ⟨_, true, _, trivial, rfl⟩
    · exact ⟨_, _, _, trivial, rfl⟩
  rw [h]

theorem counterReset_bounded : countersReset.length = 4 ∧ ∀ c ∈ countersReset, c.value ≤ 4294967295 := by decide

theorem Kept.takeRestart (s : State) : Kept s s.takeRestart where
  bounds h :=
    { fourCounters := counterReset_bounded.1
      counterValues := counterReset_bounded.2
      oneNoticeOfAKind := List.Pairwise.nil
      queueLength := Nat.zero_le _
      peersOnly := (h.mapView (f := fun v => .cleared v.rank) fun v => rfl).peersOnly
      onePeerEach := (h.mapView (f := fun v => .cleared v.rank) fun v => rfl).onePeerEach }
  map _ := Nat.le_trans (Nat.add_le_add_left (State.entriesOwed_le _) _) (by decide : 0 + 1 ≤ 256)

theorem Kept.queueMessage (s : State) (m : QueuedMessage) : Kept s (s.queueMessage m) := by
  refine .of_bounds (·.queueMessage m) ?_ ?_ ?_
  all_goals
    unfold State.queueMessage
    split <;> rfl

theorem Kept.answerRestart (s : State) (tag kind : Byte) : Kept s (s.answerRestart tag kind) := by
  unfold State.answerRestart State.acceptRestart
  split
  · split
    · exact .send s _
    · split
      · exact (Kept.send s _).trans (.takeRestart _)
      · exact Kept.trans (.of_bounds (·.congr)) (.queueMessage _ _)
  · exact .send s _

theorem Kept.answerSetCounter (s : State) (tag kind : Byte) (index k mask : Nat) :
    Kept s (s.answerSetCounter tag kind index k mask) := by
  have set : Kept s (s.setCounter index k mask) := .of_bounds fun h => by
    refine h.withCounters (by simpa using h.fourCounters) ?_
    intro c hc
    rcases List.mem_or_eq_of_mem_set hc with hc | rfl
    · exact h.counterValues c hc
    · exact Nat.zero_le _
  unfold State.answerSetCounter
  split
  · exact set.trans (.send _ _)
  · exact .send s _

theorem Kept.answer (s : State) (tag kind : Byte) (r : Request) : Kept s (s.answer tag kind r) := by
  cases r with
  | planSite r =>
    unfold State.answer
    refine .answerThen s tag kind ?_
    intro h
    refine Kept.trans (.pushItem ?_) (.wake _ _)
    simpa only [State.reply, State.send_sst] using State.planSiteCode_room h
  | planRemeasure site =>
    unfold State.answer
    refine .answerThen s tag kind ?_
    intro h
    refine Kept.trans (.pushItem ?_) (.wake _ _)
    simpa only [State.reply, State.send_sst] using State.planRemeasureCode_room h
  | planWithdraw site =>
    unfold State.answer
    refine .answerThen s tag kind ?_
    exact fun _ => .planWithdraw _ _
  | mapClear =>
    refine .answerThen s tag kind ?_
    exact fun _ => (Kept.clearMap _).trans (.wake _ _)
  | start =>
    refine .answerThen s tag kind ?_
    exact fun _ => (Kept.trans (.of_bounds (·.congr)) (.startComputations _)).trans (.continueWork _)
  | pause =>
    refine .answerThen s tag kind ?_
    exact fun _ => Kept.trans (.of_bounds (·.congr)) (.continueWork _)
  | resume =>
    refine .answerThen s tag kind ?_
    exact fun _ => Kept.trans (.of_bounds (·.congr)) (.enterListenIn _ _)
  | abortSite =>
    refine .answerThen s tag kind ?_
    exact fun _ => .abortItem _
  | restart => exact .answerRestart s tag kind
  | refReselect =>
    unfold State.answer
    refine .answerThen s tag kind ?_
    exact fun _ => .of_bounds (·.congr)
  | setMode m limit =>
    unfold State.answer
    refine .answerThen s tag kind ?_
    exact fun _ => .of_bounds (·.congr)
  | queryStatus page => exact Kept.trans (.of_bounds (·.congr)) (.send _ _)
  | queryEntry site =>
    simp only [State.answer, State.answerEntry]
    split
    · exact .send s _
    · exact .send s _
  | queryCounters => exact .send s _
  | setCounter index k mask => exact .answerSetCounter s tag kind index k mask

theorem Kept.handleRequest (s : State) (dest : BitVec 4) (kind : Byte) (payload : List Byte) :
    Kept s (s.handleRequest dest kind payload) := by
  unfold State.handleRequest State.direct
  split
  · exact .send s _
  · split
    · exact .send s _
    · exact .answer s _ _ _

theorem Kept.takeRequest (s : State) (dest : BitVec 4) (kind : Byte) (payload : List Byte) :
    Kept s (s.takeRequest dest kind payload) := by
  unfold State.takeRequest
  split
  · exact .signal s _ _
  · split
    · exact .handleRequest s _ _ _
    · exact .same s

/-! ### The frame link -/

/-- An interface state with the rank that stood, and notices of distinct kinds where they were, in place of the present one. -/
theorem Kept.withFli {s : State} {f : Fli} (hr : f.rank = s.fli.rank)
    (hn : distinctNotices s.fli.notices → distinctNotices f.notices) : Kept s { s with fli := f } :=
  .of_bounds fun h => (h.withNotices (hn h.oneNoticeOfAKind)).congr rfl rfl rfl rfl hr

theorem Kept.sameNotices {s : State} {f : Fli} (hr : f.rank = s.fli.rank := by rfl)
    (hn : f.notices = s.fli.notices := by rfl) : Kept s { s with fli := f } :=
  .withFli hr (by rw [hn]; exact id)

/-- A frame back at the head of its queue stands beside none of its kind (R81). -/
theorem Fli.returned_kept (f : Fli) :
    f.returned.rank = f.rank ∧ (distinctNotices f.notices → distinctNotices f.returned.notices) := by
  unfold Fli.returned
  split
  · exact ⟨rfl, id⟩
  · split
    · exact ⟨rfl, id⟩
    · split
      · split
        · exact ⟨rfl, id⟩
        · rename_i n _ hno
          refine ⟨rfl, fun h => List.Pairwise.cons ?_ h⟩
          simpa using hno
      · exact ⟨rfl, id⟩

theorem Fli.sees_kept (f : Fli) (levels : List Bool) :
    (f.sees levels).rank = f.rank ∧ (f.sees levels).notices = f.notices := by
  obtain ⟨_, _, _, h⟩ := f.sees_rest levels
  rw [h]
  exact ⟨rfl, rfl⟩

theorem Fli.dominantAfter_rank (f : Fli) (since : List Bool) : (f.dominantAfter since).rank = f.rank := by
  rw [Fli.dominantAfter_eq]

theorem Fli.lost_kept (f : Fli) (since : List Bool) :
    (f.lost since).rank = f.rank ∧ (distinctNotices f.notices → distinctNotices (f.lost since).notices) := by
  unfold Fli.lost
  split
  · rw [Fli.dominantAfter_rank, Fli.dominantAfter_notices]
    exact f.returned_kept
  · exact ⟨rfl, id⟩

theorem Fli.start_kept (f : Fli) :
    f.start.rank = f.rank ∧ (distinctNotices f.notices → distinctNotices f.start.notices) := by
  have dequeued : f.dequeued.rank = f.rank ∧ (distinctNotices f.notices → distinctNotices f.dequeued.notices) := by
    unfold Fli.dequeued
    split
    · rename_i h
      exact ⟨rfl, fun hd => by rw [h] at hd; exact hd.tail⟩
    · exact ⟨rfl, id⟩
    · exact ⟨rfl, id⟩
  unfold Fli.start
  split
  · split
    · exact dequeued
    · exact ⟨rfl, id⟩
  · exact ⟨rfl, id⟩

theorem Kept.beginDoubt (s : State) : Kept s s.beginDoubt := (OnlyCoordination.beginDoubt s).kept (·.beginDoubt)

theorem Kept.permitTest (s : State) : Kept s s.permitTest := (OnlyCoordination.permitTest s).kept (·.permitTest)

theorem Kept.recheckPending (s : State) : Kept s s.recheckPending :=
  (OnlyCoordination.recheckPending s).kept (·.recheckPending)

theorem OnlyCoordination.claimCompleted (s : State) (k : ClaimKind) : OnlyCoordination s (s.claimCompleted k).1 := by
  unfold State.claimCompleted
  split
  · split
    · split
      · exact (OnlyCoordination.endHoldoff s).trans (.of_fcu _ _)
      · exact ((OnlyCoordination.of_fcu s _).trans (.queueNotice _ _)).trans (.permitTest _)
    · exact .same s
  · split
    · exact .of_fcu s _
    · exact .same s
  · exact .same s

theorem OnlyCoordination.noticeCompleted (s : State) (n : Notice) (stale : Bool) :
    OnlyCoordination s (s.noticeCompleted n stale).1 := by
  unfold State.noticeCompleted
  split
  · split
    · exact .claimCompleted s _
    · unfold State.holdoffCompleted
      split
      · exact .of_fcu s _
      · exact .of_fcu s _
      · exact .same s
    · exact .same s
  · exact .same s

theorem OnlyCoordination.noticeFailed (s : State) (n : Notice) : OnlyCoordination s (s.noticeFailed n) := by
  unfold State.noticeFailed
  split
  · split
    · refine (OnlyCoordination.beginDoubt s).trans ?_
      unfold State.claimFailed
      split
      · split
        · exact .same _
        · exact (OnlyCoordination.of_fcu _ _).trans (.permitTest _)
      · exact .of_fcu _ _
      · exact .same _
    · exact (OnlyCoordination.beginDoubt s).trans (.of_fcu _ _)
    · exact .beginDoubt s
  · exact .same s

theorem Kept.reportCompleted (s : State) (t : Transmission) : Kept s (s.reportCompleted t) := by
  unfold State.reportCompleted
  split
  · exact .same s
  · split
    · rename_i n _
      have completed : Kept s (s.noticeCompleted n t.stale).1 :=
        (OnlyCoordination.noticeCompleted s n _).kept (·.noticeCompleted n _)
      unfold State.reportGrant
      split
      · exact completed.trans (.onGrant _)
      · exact completed
    · split
      · exact .takeRestart s
      · exact .same s

theorem Kept.ownCompleted (s : State) : Kept s s.ownCompleted := by
  unfold State.ownCompleted
  split
  · exact Kept.trans .sameNotices (.reportCompleted _ _)
  · exact .same s

theorem Kept.ownFailed (s : State) : Kept s s.ownFailed := by
  have reported : ∀ (u : State) (t : Transmission), Kept u (u.reportFailed t) := by
    intro u t
    unfold State.reportFailed
    split
    · exact .same u
    · split
      · exact (OnlyCoordination.noticeFailed u _).kept (·.noticeFailed _)
      · split
        · exact (Kept.beginDoubt u).trans (.takeRestart _)
        · exact .beginDoubt u
  unfold State.ownFailed
  split
  · exact Kept.trans .sameNotices (reported _ _)
  · exact .same s

theorem Kept.ownMismatched (s : State) (since : List Bool) : Kept s (s.ownMismatched since) := by
  unfold State.ownMismatched
  split
  · exact Kept.trans (.sameNotices (Fli.dominantAfter_rank _ _) (Fli.dominantAfter_notices _ _)) (.ownFailed _)
  · exact .same s

theorem Kept.collide (s : State) (r : Nat) (k : ClaimKind) : Kept s (s.collide r k) := by
  refine .of_bounds (·.collide r k) ?_ ?_ ?_
  all_goals
    unfold State.collide Cyc.disturbed
    dsimp only
    repeat' split
  all_goals rfl

theorem OnlyCoordination.meetHoldoff (s : State) (w : ClaimKind) : OnlyCoordination s (s.meetHoldoff w) := by
  unfold State.meetHoldoff
  split
  · split
    · exact .dropQueuedHoldoff s
    · exact .same s
  · split
    · exact ((OnlyCoordination.removeHoldoff s).trans (.markStale _ _)).trans (.of_fcu _ _)
    · exact .same s
  · exact .same s

theorem Kept.meetNotice (s : State) (r : Nat) (n : Notice) : Kept s (s.meetNotice r n) := by
  unfold State.meetNotice
  split
  · unfold State.meetClaim
    split
    · split
      · exact .collide s _ _
      · exact .same s
    · exact .same s
  · exact (OnlyCoordination.meetHoldoff s _).kept (·.meetHoldoff _)
  · exact .same s

theorem Kept.noticeTaken (s : State) (f : LinkFrame) : Kept s (s.noticeTaken f) := by
  unfold State.noticeTaken
  split
  · split
    · exact Kept.trans (.of_bounds (·.congr)) (.signal _ _ _)
    · split
      · exact .signal s _ _
      · split
        · exact .signal s _ _
        · exact (((Kept.of_bounds (·.recordNotice _ _)).trans (.meetNotice _ _ _)).trans (.recheckPending _)).trans
            (.permitTest _)
  · exact .same s

theorem Kept.judgeDestination (s : State) (f : LinkFrame) : Kept s (s.judgeDestination f) := by
  have handed : Kept s (s.handOn f) := by
    unfold State.handOn
    split
    · exact .noticeTaken s f
    · split
      · exact .handleRequest s _ _ _
      · exact .signal s _ _
  unfold State.judgeDestination
  split
  · exact .signal s _ _
  · split
    · exact handed.trans (.recheckPending _)
    · exact .same s

theorem Kept.frameEnd (s : State) (line : List Bool) : Kept s (s.frameEnd line) := by
  have judged : ∀ (u : State) (f : LinkFrame), Kept u (u.judgeOther f) := by
    intro u f
    unfold State.judgeOther
    split
    · exact (Kept.signal u _ _).trans (.beginDoubt _)
    · exact .judgeDestination u f
  unfold State.frameEnd State.judgeFrame
  split
  · split
    · split
      · split
        · exact .ownCompleted s
        · exact .same s
      · exact Kept.trans .sameNotices (judged _ _)
    · exact .same s
  · exact .same s

theorem Kept.badLength (s : State) (arbitration kind length : Byte) : Kept s (s.badLength arbitration kind length) := by
  unfold State.badLength
  split
  · exact (Kept.trans .sameNotices (.signal _ _ _)).trans (.beginDoubt _)
  · exact .same s

theorem Kept.runEnd (s : State) (length : Nat) : Kept s (s.runEnd length) := by
  have counted : ∀ u : State, Kept u (u.countRun length) := by
    intro u
    have disturbed : ∀ q, Kept u (u.linkError q).beginDoubt := fun q => (Kept.signal u _ _).trans (.beginDoubt _)
    unfold State.countRun
    repeat' split
    · exact .same u
    · exact disturbed _
    · exact disturbed _
    · exact .beginDoubt u
    · exact disturbed _
    · exact .same u
  unfold State.runEnd
  split
  · exact Kept.trans .sameNotices (counted _)
  · exact .same s

/-- A HALT writes the item by its phase and drops it (R47). -/
theorem Kept.halt (s : State) : Kept s s.halt := by
  have image : ∀ u : State, ∃ mea img, u.haltImage = { u with mea := mea, img := img } := by
    intro u
    obtain ⟨mea, img, h⟩ := u.abandonImage_frame
    unfold State.haltImage
    rw [h]
    split
    · exact ⟨_, _, rfl⟩
    · exact ⟨_, _, rfl⟩
  have dropped : ∀ c : Cyc, c.onHalt.current = none := by
    intro c
    unfold Cyc.onHalt Cyc.haltMode
    split <;> rfl
  have view : ∀ f : Fcu, f.onHalt.view = f.view ∨ f.onHalt.view = f.view.map fun v => .cleared v.rank := by
    intro f
    unfold Fcu.onHalt
    split
    · exact .inl rfl
    · exact .inr rfl
  have silenced : ∀ u : State, Kept u
      { u.writeAbandoned.haltImage with
        cyc := u.writeAbandoned.haltImage.cyc.onHalt
        fcu := u.writeAbandoned.haltImage.fcu.onHalt
        mot := u.writeAbandoned.haltImage.mot.stop.1
        fli.notices := [] } := by
    intro u
    obtain ⟨_, _, h⟩ := image u.writeAbandoned
    rw [h]
    refine .abandoned (fun hb => ?_) rfl (State.entriesOwed_none (dropped _))
    have silent := hb.withNotices (q := []) List.Pairwise.nil
    rcases view u.writeAbandoned.fcu with hv | hv
    · exact silent.congr rfl rfl rfl hv rfl
    · exact (silent.mapView (f := fun v => .cleared v.rank) fun v => rfl).congr rfl rfl rfl hv rfl
  exact (Kept.withForceStop s (s.frc.halt s.cfg s.now)).trans (silenced _)

theorem Kept.drivePulse (s : State) (past : Bool) (since : List Bool) : Kept s (s.drivePulse past since) := by
  have overridden : ∀ u : State, Kept u (u.overridden past) := by
    intro u
    unfold State.overridden
    split
    · exact .ownFailed u
    · exact .withFli u.fli.returned_kept.1 u.fli.returned_kept.2
  have seen : Kept s { s with fli := s.fli.dominantAfter since } :=
    .sameNotices (Fli.dominantAfter_rank _ _) (Fli.dominantAfter_notices _ _)
  exact (seen.trans (overridden _)).trans .sameNotices

/-! ### Resets and the configuration image -/

/-- An emptied view has one entry for each configured peer other than the own rank (R62). -/
theorem emptyView_bounded {peers : List Nat} (hp : ∀ r ∈ peers, 1 ≤ r ∧ r ≤ 7) (hd : peers.Nodup) (rank : Nat) :
    (∀ v ∈ emptyView peers rank, v.rank ≠ rank ∧ 1 ≤ v.rank ∧ v.rank ≤ 7) ∧
      (emptyView peers rank).Pairwise fun a b => a.rank ≠ b.rank := by
  refine ⟨?_, ?_⟩
  · intro v hv
    obtain ⟨r, hr, rfl⟩ := List.mem_map.mp hv
    obtain ⟨hr, hne⟩ := List.mem_filter.mp hr
    exact ⟨by simpa [ViewEntry.cleared] using hne, hp r hr⟩
  · exact List.pairwise_map.mpr (hd.filter _)

theorem readPeerSet_ranks (b : Byte) : (∀ r ∈ readPeerSet b, 1 ≤ r ∧ r ≤ 7) ∧ (readPeerSet b).Nodup := by
  refine ⟨fun r hr => ?_, List.Nodup.filter _ (by decide)⟩
  have : ∀ n ∈ [1, 2, 3, 4, 5, 6, 7], 1 ≤ n ∧ n ≤ 7 := by decide
  exact this r (List.mem_of_mem_filter hr)

theorem State.deviceReset_bounded (rank : Nat) (x y : Int) (z free : Nat) (pending : List Instr) :
    (State.deviceReset rank x y z free pending).Bounded where
  fourCounters := counterReset_bounded.1
  counterValues := counterReset_bounded.2
  oneNoticeOfAKind := List.Pairwise.nil
  queueLength := Nat.zero_le _
  peersOnly := (emptyView_bounded (by decide) (by decide) rank).1
  onePeerEach := (emptyView_bounded (by decide) (by decide) rank).2

theorem State.deviceReset_mapFits (rank : Nat) (x y : Int) (z free : Nat) (pending : List Instr) :
    (State.deviceReset rank x y z free pending).mapFits := by
  simp [State.mapFits, State.deviceReset, Store.empty, State.entriesOwed, Cyc.reset]

theorem Kept.configRead (s : State) (image : List Byte) : Kept s (s.configRead image) := by
  unfold State.configRead
  split
  · split
    · refine Kept.trans ?_ (.tryEndStart _)
      refine .of_bounds fun h => ?_
      have ranks := readPeerSet_ranks (memByte image 9)
      have hv := emptyView_bounded ranks.1 ranks.2 s.fli.rank
      exact { fourCounters := h.fourCounters, counterValues := h.counterValues, oneNoticeOfAKind := h.oneNoticeOfAKind
              queueLength := h.queueLength, peersOnly := hv.1, onePeerEach := hv.2 }
    · exact Kept.trans (.of_bounds (·.congr)) (.stationFault _ _)
  · exact .same s

end Sys2Proof.Machine
end

section
/-!
PROOFS. Every command and every step keeps the bounds (O4); the state after reset meets the invariants (O6).
-/

-- One theorem after another: each one elaborated beside the others takes a thread with a stack of its own.
set_option Elab.async false

namespace Sys2Proof.Machine

/-- The bounds of the collections are kept, and at a lawful station the map's. -/
def KeptLawfully (s t : State) : Prop := (s.Bounded → t.Bounded) ∧ (s.Lawful → s.mapFits → t.mapFits)

theorem Kept.lawfully {s t : State} (h : Kept s t) : KeptLawfully s t := ⟨h.bounds, fun _ => h.map⟩

/-- A command that is held back by RESET_N keeps everything. -/
theorem KeptLawfully.act {c : Instr} {s t : State} {f : State → State} (he : exec c s = s.act f) (h : exec c s = .next t)
    (hk : KeptLawfully s (f s)) : KeptLawfully s t := by
  rw [he] at h
  unfold State.act at h
  obtain rfl := Host.Outcome.next.inj h
  split
  · exact ⟨id, fun _ => id⟩
  · exact hk

theorem KeptLawfully.samplePair (s : State) (p q : RawSample) : KeptLawfully s (s.samplePair p q) :=
  ⟨(·.withForce _), fun hl hm => hm.samplePair hl p q⟩

theorem KeptLawfully.namedPair (s : State) (named : Bool) (p q : RawSample) : KeptLawfully s (s.namedPair named p q) := by
  unfold State.namedPair
  split
  · exact .samplePair s p q
  · exact (Kept.same s).lawfully

theorem KeptLawfully.withMotion {s : State} {r : Mot × List MotionReport} (h : s.Lawful → s.mot.answersInSequence r) :
    KeptLawfully s (s.withMotion r) :=
  ⟨(·.withMotion _), fun hl hm => hm.motionAnswered hl (h hl)⟩

theorem Kept.claimRefresh (s : State) : Kept s s.claimRefresh := by
  unfold State.claimRefresh
  split
  · split
    · exact .of_bounds fun h => State.Bounded.queueNotice h.congr _
    · exact .same s
  · exact .same s

theorem Kept.holdoffRefresh (s : State) : Kept s s.holdoffRefresh := by
  unfold State.holdoffRefresh
  split
  · split
    · exact .of_bounds fun h => State.Bounded.queueNotice h.congr _
    · exact .same s
  · exact .same s

theorem Kept.countWait (s : State) : Kept s s.countWait := by
  unfold State.countWait
  split
  · split
    · exact .signal s _ _
    · exact .same s
  · exact .same s

theorem State.expireView_frame (s : State) : ∃ evc view, s.expireView = { s with evc := evc, fcu.view := view } := by
  have lapses : ∀ (view : List ViewEntry) (u : State), ∃ evc,
      view.foldl (fun acc v => acc.signalLapses s.now v) u = { u with evc := evc } := by
    intro view
    induction view with
    | nil => exact fun u => ⟨_, rfl⟩
    | cons v rest ih =>
      intro u
      have one : ∃ evc, u.signalLapses s.now v = { u with evc := evc } := by
        unfold State.signalLapses
        dsimp only
        split <;> split <;> exact ⟨_, rfl⟩
      obtain ⟨_, h⟩ := one
      obtain ⟨evc, h'⟩ := ih { u with evc := _ }
      rw [List.foldl_cons, h]
      exact ⟨evc, h'⟩
  obtain ⟨evc, h⟩ := lapses s.fcu.view s
  unfold State.expireView
  rw [h]
  exact ⟨_, _, rfl⟩

theorem Kept.viewExpiry (s : State) : Kept s s.viewExpiry := by
  obtain ⟨_, _, h⟩ := s.expireView_frame
  have swept : Kept s s.expireView := .of_bounds (·.expireView) (by rw [h]) (by rw [h]) (by rw [h])
  unfold State.viewExpiry
  split
  · exact swept.trans (.permitTest _)
  · exact .same s

theorem Kept.axesStopped (s : State) (x y : Int) (z : Nat) : Kept s (s.axesStopped x y z) := by
  have stopped : ∀ u : State, Kept u u.onStopped := by
    intro u
    unfold State.onStopped
    split
    · exact .same u
    · exact (Kept.release u).trans (.endItem _)
    · exact .trySetNeed u
  unfold State.axesStopped
  split
  · exact Kept.trans (.of_bounds (·.congr)) (stopped _)
  · exact .same s

theorem Kept.fineStepDone (s : State) : Kept s s.fineStepDone := by
  unfold State.fineStepDone
  split
  · rename_i m z _
    split
    · obtain ⟨_, h⟩ := ({ s with mot := m } : State).stepReported_frame z
      rw [h]
      exact .of_bounds (·.congr)
    · exact .of_bounds (·.congr)
  · exact .of_bounds (·.congr)

/-- Every command keeps the bounds of the collections, and at a lawful station the map's. -/
theorem exec_keeps {c : Instr} {s t : State} (h : exec c s = .next t) : KeptLawfully s t := by
  have request : ∀ (dest : BitVec 4) (kind : Byte) (payload : List Byte),
      exec c s = s.act (fun s => s.takeRequest dest kind payload) → KeptLawfully s t :=
    fun _ _ _ he => .act he h (Kept.takeRequest s _ _ _).lawfully
  cases c with
  | deviceReset straps =>
    obtain rfl := Host.Outcome.next.inj h
    exact ⟨fun _ => State.deviceReset_bounded _ _ _ _ _ _, fun _ _ => State.deviceReset_mapFits _ _ _ _ _ _⟩
  | resetNRelease =>
    obtain rfl := Host.Outcome.next.inj h
    split
    · exact (Kept.of_bounds (·.congr)).lawfully
    · exact (Kept.same s).lawfully
  | configReadDone image => exact .act (exec_configReadDone s image) h (Kept.configRead s image).lawfully
  | planSite dest payload => exact request _ _ _ (exec_planSite s dest payload)
  | planRemeasure dest payload => exact request _ _ _ (exec_planRemeasure s dest payload)
  | planWithdraw dest payload => exact request _ _ _ (exec_planWithdraw s dest payload)
  | mapClear dest payload => exact request _ _ _ (exec_mapClear s dest payload)
  | start dest payload => exact request _ _ _ (exec_start s dest payload)
  | pause dest payload => exact request _ _ _ (exec_pause s dest payload)
  | resume dest payload => exact request _ _ _ (exec_resume s dest payload)
  | abortSite dest payload => exact request _ _ _ (exec_abortSite s dest payload)
  | restart dest payload => exact request _ _ _ (exec_restart s dest payload)
  | refReselect dest payload => exact request _ _ _ (exec_refReselect s dest payload)
  | setMode dest payload => exact request _ _ _ (exec_setMode s dest payload)
  | queryStatus dest payload => exact request _ _ _ (exec_queryStatus s dest payload)
  | queryEntry dest payload => exact request _ _ _ (exec_queryEntry s dest payload)
  | queryCounters dest payload => exact request _ _ _ (exec_queryCounters s dest payload)
  | setCounter dest payload => exact request _ _ _ (exec_setCounter s dest payload)
  | unknownKind dest kind payload => exact request _ _ _ (exec_unknownKind s dest kind payload)
  | transmitStart since =>
    refine .act (exec_transmitStart s since) h (Kept.withFli ?_ ?_).lawfully
    · exact (s.fli.sees since).start_kept.1.trans (s.fli.sees_kept since).1
    · rw [← (s.fli.sees_kept since).2]
      exact (s.fli.sees since).start_kept.2
  | arbitrationLoss since => exact .act (exec_arbitrationLoss s since) h (Kept.withFli (s.fli.lost_kept since).1 (s.fli.lost_kept since).2).lawfully
  | ownFrameCompleted => exact .act (exec_ownFrameCompleted s) h (Kept.ownCompleted s).lawfully
  | ownFrameError since => exact .act (exec_ownFrameError s since) h (Kept.ownMismatched s since).lawfully
  | frameEnd line => exact .act (exec_frameEnd s line) h (Kept.frameEnd s line).lawfully
  | lengthAbove32 length arbitration kind => exact .act (exec_lengthAbove32 s length arbitration kind) h (Kept.badLength s _ _ _).lawfully
  | dominantRunReaches9 => exact .act (exec_dominantRunReaches9 s) h (Kept.sameNotices).lawfully
  | dominantRunEnd length => exact .act (exec_dominantRunEnd s length) h (Kept.runEnd s length).lawfully
  | haltPulse => exact .act (exec_haltPulse s) h ((Kept.trans .sameNotices (.ownFailed _)).trans (.halt _)).lawfully
  | lineIdle =>
    have idle : s.fli.idle.rank = s.fli.rank ∧ s.fli.idle.notices = s.fli.notices := by
      unfold Fli.idle
      split <;> exact ⟨rfl, rfl⟩
    exact .act (exec_lineIdle s) h (Kept.sameNotices idle.1 idle.2).lawfully
  | stopAsserted past since =>
    refine .act (exec_stopAsserted s past since) h ?_
    unfold State.stopAsserted
    split
    · exact (Kept.same s).lawfully
    · exact (Kept.drivePulse s past since).lawfully
  | stopPulseEnd still =>
    have ended : (s.fli.stopPulseEnd still).rank = s.fli.rank ∧ (s.fli.stopPulseEnd still).notices = s.fli.notices := by
      unfold Fli.stopPulseEnd
      split <;> exact ⟨rfl, rfl⟩
    exact .act (exec_stopPulseEnd s still) h (Kept.sameNotices ended.1 ended.2).lawfully
  | stopPulseRepeat past since =>
    refine .act (exec_stopPulseRepeat s past since) h ?_
    unfold State.stopPulseRepeat
    split
    · exact (Kept.drivePulse s past since).lawfully
    · exact (Kept.same s).lawfully
  | tick => exact .act (exec_tick s) h (Kept.trans (.of_bounds (·.congr)) (.countWait _)).lawfully
  | listenInEnd =>
    refine .act (exec_listenInEnd s) h ?_
    unfold State.listenInEnd
    split
    · exact (Kept.trans (.of_bounds (·.congr)) (.permitTest _)).lawfully
    · exact (Kept.same s).lawfully
  | doubtEnd =>
    refine .act (exec_doubtEnd s) h ?_
    unfold State.doubtEnd
    split
    · exact (Kept.trans (.of_bounds (·.congr)) (.permitTest _)).lawfully
    · exact (Kept.same s).lawfully
  | claimRefreshDue => exact .act (exec_claimRefreshDue s) h (Kept.claimRefresh s).lawfully
  | holdoffRefreshDue => exact .act (exec_holdoffRefreshDue s) h (Kept.holdoffRefresh s).lawfully
  | viewExpiry => exact .act (exec_viewExpiry s) h (Kept.viewExpiry s).lawfully
  | holdoffQueued => exact .act (exec_holdoffQueued s) h ((OnlyCoordination.tryHoldoff s).kept (·.tryHoldoff)).lawfully
  | turretHomeFound => exact .act (exec_turretHomeFound s) h (.withMotion fun _ => Mot.turretHome_answers _ _ _ _)
  | indexComplete edges => exact .act (exec_indexComplete s edges) h (.withMotion fun _ => Mot.indexDone_answers _ _ _ _ _)
  | carriageAxisHome axis => exact .act (exec_carriageAxisHome s axis) h (.withMotion fun _ => Mot.axisHome_answers _ _ _ _ _)
  | carriageInPosition => exact .act (exec_carriageInPosition s) h (.withMotion fun _ => Mot.carriageDone_answers _ _ _ _)
  | zHomeFound => exact .act (exec_zHomeFound s) h (.withMotion fun _ => Mot.zHome_answers _ _ _ _)
  | zInPosition => exact .act (exec_zInPosition s) h (.withMotion fun _ => Mot.rapidDone_answers _ _ _ _)
  | fineStepComplete => exact .act (exec_fineStepComplete s) h (Kept.fineStepDone s).lawfully
  | moveDeadline => exact .act (exec_moveDeadline s) h (.withMotion fun _ => Mot.deadlineReached_answers _ _)
  | settleEnd => exact .act (exec_settleEnd s) h (.withMotion fun hl => Mot.settleDone_answers hl.settleInSequence _)
  | axesStopped x y z => exact .act (exec_axesStopped s x y z) h (Kept.axesStopped s x y z).lawfully
  | samplePair p q => exact .act (exec_samplePair s p q) h (.samplePair s p q)
  | tareDone p q => exact .act (exec_tareDone s p q) h (.namedPair s _ p q)
  | wireTestDone p q => exact .act (exec_wireTestDone s p q) h (.namedPair s _ p q)
  | wireTestRecovered p q => exact .act (exec_wireTestRecovered s p q) h (.namedPair s _ p q)
  | loadRampEnd p q => exact .act (exec_loadRampEnd s p q) h (.namedPair s _ p q)
  | dwellEnd p q => exact .act (exec_dwellEnd s p q) h (.namedPair s _ p q)
  | unloadTimeout => exact .act (exec_unloadTimeout s) h (Kept.withForce s (s.frc.timeouts_create s.now).1).lawfully
  | fastUnloadTimeout => exact .act (exec_fastUnloadTimeout s) h (Kept.withForce s (s.frc.timeouts_create s.now).2.1).lawfully
  | homeDriveDone p q => exact .act (exec_homeDriveDone s p q) h (.namedPair s _ p q)
  | freeTestPass p q => exact .act (exec_freeTestPass s p q) h (.namedPair s _ p q)
  | retractTimeout => exact .act (exec_retractTimeout s) h (Kept.withForce s (s.frc.timeouts_create s.now).2.2).lawfully
  | refWindowEnd edges => exact .act (exec_refWindowEnd s edges) h (Kept.of_bounds (·.congr)).lawfully
  | sourceSwitch => exact .act (exec_sourceSwitch s) h (Kept.of_bounds (·.congr)).lawfully
  | focusSettleEnd =>
    refine .act (exec_focusSettleEnd s) h ?_
    unfold State.focusSettleEnd
    split
    · exact (Kept.of_bounds (·.congr)).lawfully
    · exact (Kept.same s).lawfully
  | fvalRise => exact .act (exec_fvalRise s) h (Kept.of_bounds (·.congr)).lawfully
  | windowComplete lines haltDue => exact .act (exec_windowComplete s lines haltDue) h ((Kept.windowReceived s lines).withImage haltDue).lawfully
  | pclkStall haltDue =>
    refine .act (exec_pclkStall s haltDue) h ?_
    unfold State.frameFails
    split
    · exact ((Kept.attemptFailed s).withImage haltDue).lawfully
    · exact (Kept.same s).lawfully
  | shortFrame haltDue =>
    refine .act (exec_shortFrame s haltDue) h ?_
    unfold State.frameFails
    split
    · exact ((Kept.attemptFailed s).withImage haltDue).lawfully
    · exact (Kept.same s).lawfully
  | frameWaitEnd haltDue =>
    refine .act (exec_frameWaitEnd s haltDue) h ?_
    unfold State.noFrame
    split
    · exact ((Kept.attemptFailed s).withImage haltDue).lawfully
    · exact (Kept.same s).lawfully
  | computeComplete slot => exact .act (exec_computeComplete s slot) h (Kept.computeDone s slot).lawfully
  | startBit => exact .act (exec_startBit s) h (Kept.sameNotices).lawfully

/-- A step keeps the bounds: it runs the front command with the queue's rest, or idles. -/
theorem step_keeps {s t : State} (h : step s = .next t) : KeptLawfully s t := by
  unfold step at h
  split at h
  · obtain rfl := Host.Outcome.next.inj h
    exact (Kept.same s).lawfully
  · rename_i c rest _
    obtain ⟨hb, hm⟩ := exec_keeps h
    exact ⟨fun b => hb b.congr, fun hl => hm { hl with }⟩

/-- Settles O4, by what every operation keeps: the one that adds an entry or an item does so within the bound. -/
theorem stepKeepsBounds : Obligations.StepKeepsBounds :=
  ⟨fun _ _ hb h => (step_keeps h).1 hb, fun _ _ hl hm h => (step_keeps h).2 hl hm⟩

/-- Settles O6, field by field of the state after reset. -/
theorem resetMeetsInvariants : Obligations.ResetMeetsInvariants := by
  refine ⟨(State.deviceReset_bounded 1 0 0 0 0 []).congr, State.deviceReset_mapFits 1 0 0 0 0 [], ?_⟩
  constructor <;> decide

end Sys2Proof.Machine
end

section
/-!
PROOFS. The device reset and its release (O12).
-/

-- One theorem after another: each one elaborated beside the others takes a thread with a stack of its own.
set_option Elab.async false

namespace Sys2Proof.Machine

/-- The straps latch rank 0 where none of them is set. -/
theorem straps_toNat_eq_zero (straps : BitVec 3) : straps.toNat = 0 ↔ straps = 0#3 := by
  rw [← BitVec.toNat_inj]
  rfl

theorem emptyView_cleared (peers : List Nat) (rank : Nat) :
    ∀ v ∈ emptyView peers rank, v.claim = none ∧ v.holdoff = none := by
  intro v hv
  obtain ⟨r, _, rfl⟩ := List.mem_map.mp hv
  exact ⟨rfl, rfl⟩

theorem Cyc.reset_mode (straps : BitVec 3) :
    (Cyc.reset straps.toNat).mode = (if straps = 0#3 then .faulted else .start) := by
  simp only [Cyc.reset, straps_toNat_eq_zero]

theorem Cyc.reset_fault (straps : BitVec 3) :
    (Cyc.reset straps.toNat).fault = (if straps = 0#3 then .noRank else .none) := by
  simp only [Cyc.reset, straps_toNat_eq_zero]

/-- The release of RESET_N begins the reset retract. -/
theorem exec_resetNRelease_held {s : State} (h : s.resetHeld = true) : exec .resetNRelease s = .next s.released := by
  have he : exec .resetNRelease s = .next (if s.resetHeld then s.released else s) := rfl
  rw [he, if_pos h]

/-- Settles O12: the reset values of each block's record, and the record the release leaves. -/
theorem deviceResetAndRelease : Obligations.DeviceResetAndRelease := by
  unfold Obligations.DeviceResetAndRelease
  refine ⟨fun straps s => ⟨_, rfl, rfl, rfl, Cyc.reset_mode straps, Cyc.reset_fault straps, ?_⟩, fun s h => ?_⟩
  · have hview := emptyView_cleared ConfigImage.defaults.peerSet straps.toNat
    refine ⟨rfl, rfl, rfl, rfl, rfl, rfl, rfl, rfl, rfl, rfl, rfl, rfl, rfl, rfl, rfl, rfl, rfl, rfl, rfl, rfl, rfl, rfl,
      rfl, hview, rfl, ?_⟩
    repeat' constructor
  · rw [exec_resetNRelease_held h]
    rfl

end Sys2Proof.Machine
end

section
/-!
PROOFS. The rules the requests' proofs use: a request at its owner, the answer, the store's tests and the choices of the Cycle
Controller.
-/

-- One theorem after another: each one elaborated beside the others takes a thread with a stack of its own.
set_option Elab.async false

namespace Sys2Proof.Machine

/-! ### A request at its owner -/

/-- A request to the station's own rank meets its owner's tests (R86, R166). -/
theorem State.takeRequest_own {s : State} {d : BitVec 4} {k : Byte} {p : List Byte} {r : Request} (hl : s.live)
    (ho : s.own d) (hd : decodeRequest k p = .request r) : s.takeRequest d k p = s.answer (requestTag p) k r := by
  rw [State.takeRequest_taken hl (.inl ho), State.handleRequest_decoded hd, State.direct_own hl ho]

/-- A request of a broadcast kind, to the station or to all, meets its owner's tests (R167). -/
theorem State.takeRequest_broadcast {s : State} {d : BitVec 4} {k : Byte} {p : List Byte} {r : Request} (hl : s.live)
    (ho : s.own d ∨ d = 15#4) (hb : r.broadcast = true) (hd : decodeRequest k p = .request r) :
    s.takeRequest d k p = s.answer (requestTag p) k r := by
  rw [State.takeRequest_taken hl ho, State.handleRequest_decoded hd, State.direct_broadcast _ _ hb]

/-- A refusal is a reply and nothing else (R166). -/
theorem State.answerThen_refused {s : State} {tag kind : Byte} {code : ReplyCode} {effect : State → State}
    (hr : s.hasMessageRoom 1) (h : code ≠ .accepted) : s.answerThen tag kind code effect = s.replied tag kind code := by
  rw [State.answerThen, if_neg h, State.reply_room hr]

/-- An acceptance is a reply and then the effect (R166). -/
theorem State.answerThen_accepted {s : State} {tag kind : Byte} {code : ReplyCode} {effect : State → State}
    (hr : s.hasMessageRoom 1) (h : code = .accepted) :
    s.answerThen tag kind code effect = effect (s.replied tag kind .accepted) := by
  rw [State.answerThen, if_pos h, State.reply_room hr, h]

/-! ### The site queue and the map -/

theorem State.currentIs_iff {s : State} {site : Nat} :
    s.currentIs site = true ↔ ∃ c, s.cyc.current = some c ∧ c.work.site = site := by
  unfold State.currentIs
  cases s.cyc.current <;> simp

theorem Store.entry?_isSome_iff {st : Store} {site : Nat} :
    (st.entry? site).isSome = true ↔ ∃ e ∈ st.map, e.fields.site = site := by
  simp [Store.entry?, List.find?_isSome]

theorem Store.entry?_none {st : Store} {site : Nat} (h : ∀ e ∈ st.map, e.fields.site ≠ site) : st.entry? site = none := by
  simpa [Store.entry?] using h

/-- An item of the queue that is an INDENT item of a site id. -/
theorem queue_indentOf_iff {queue : List Item} {site : Nat} :
    queue.any (Item.isIndentOf site) = true ↔ ∃ i, Item.indent i ∈ queue ∧ i.fields.site = site := by
  rw [List.any_eq_true]
  constructor
  · rintro ⟨i, hi, h⟩
    cases i with
    | indent j => exact ⟨j, hi, by simpa [Item.isIndentOf] using h⟩
    | remeasure id => simp [Item.isIndentOf] at h
  · rintro ⟨j, hj, h⟩
    exact ⟨.indent j, hj, by simpa [Item.isIndentOf] using h⟩

/-- R4's fourth test. -/
theorem State.idHeld_iff {s : State} {site : Nat} :
    s.idHeld site = true ↔ (∃ i, Item.indent i ∈ s.sst.queue ∧ i.fields.site = site) ∨
      (∃ c, s.cyc.current = some c ∧ c.work.site = site) ∨ (∃ e ∈ s.sst.map, e.fields.site = site) := by
  simp only [State.idHeld, Bool.or_eq_true, queue_indentOf_iff, State.currentIs_iff, Store.entry?_isSome_iff, or_assoc]

/-- R4's sixth test. -/
theorem ConfigImage.badForce_iff {c : ConfigImage} {slot force : Nat} (h : c.indenterKind? slot ≠ none) :
    c.badForce slot force = true ↔ force < 49 ∨ (c.indenterKind? slot = some .vickers ∧ 98067 < force) ∨
      (c.indenterKind? slot = some .knoop ∧ 19613 < force) := by
  unfold ConfigImage.badForce
  cases hk : c.indenterKind? slot with
  | none => exact absurd hk h
  | some k =>
    simp only [Bool.or_eq_true, decide_eq_true_eq]
    cases k <;> simp [IndenterKind.largestForce]

/-- R4's seventh test. -/
theorem ConfigImage.outOfRange_iff {c : ConfigImage} {x y : Int} :
    c.outOfRange x y = true ↔ x < c.xLower ∨ c.xUpper < x ∨ y < c.yLower ∨ c.yUpper < y := by
  simp [ConfigImage.outOfRange, or_assoc]

theorem State.planRefused_iff {s : State} : s.planRefused = true ↔ s.cyc.mode = .start ∨ s.cyc.mode = .faulted := by
  simp [State.planRefused]

/-- No new item conflicts with a map that has room (R19, R22). -/
theorem State.spacing_proceeds {s : State} {f : SiteFields} (hm : s.sst.map.length < 256)
    (hc : ∀ d ∈ s.sst.map, s.cfg.conflicts f d = false) : s.spacing f = .proceed := by
  have hwait : (s.sst.map.any fun e => e.outcome == .awaitingMeasure && s.cfg.conflicts f e) = false := by
    rw [List.any_eq_false]
    intro e he
    simp [hc e he]
  have hreject : (s.sst.map.any fun e => s.cfg.conflicts f e) = false := by
    rw [List.any_eq_false]
    intro e he
    simp [hc e he]
  simp [State.spacing, Nat.not_le.mpr hm, hwait, hreject]

/-! ### Choices -/

/-- The head of the queue leaves it for good (R18, R23). -/
def State.headTaken (s : State) (rest : List Item) : State := { s with sst := { s.sst with queue := rest, deferral := none } }

theorem State.takeHead_cons {s : State} {i : Item} {rest : List Item} (hq : s.sst.queue = i :: rest) :
    s.takeHead = s.headTaken rest := by
  simp [State.takeHead, State.headTaken, hq]

/-- A PROCEED: the head is taken, a batch opens where BATCH mode has none, and the item is in TO_SITE (R18, R35, R36). -/
theorem State.askSelection_proceeds {s : State} {i : IndentItem} {rest : List Item} (hq : s.sst.queue = .indent i :: rest)
    (hs : s.spacing i.fields = .proceed) :
    s.askSelection =
      (({ s.headTaken rest with cyc.batch := s.cyc.batchFor i } : State).enterPhase (.indent i) .toSite, false) := by
  simp only [State.askSelection, State.select, hq, List.head?_cons, hs, State.onSelection, State.takeHead_cons hq,
    State.headTaken]

/-- A WAIT: the head is deferred, and with no batch open the cue says for what (R18, R23, R35). -/
theorem State.askSelection_waits {s : State} {i : IndentItem} {rest : List Item} {r : DeferralReason}
    (hq : s.sst.queue = .indent i :: rest) (hs : s.spacing i.fields = .wait r) :
    s.askSelection = (s.defer r).onSelection (.wait r) := by
  simp only [State.askSelection, State.select, hq, List.head?_cons, hs]

/-- A REJECTED item leaves the queue, its entry is written, and the Cycle Controller chooses again (R18, R35). -/
theorem State.askSelection_rejects {s : State} {i : IndentItem} {rest : List Item}
    (hq : s.sst.queue = .indent i :: rest) (hs : s.spacing i.fields = .rejected) :
    s.askSelection = ((s.headTaken rest).createUnmade i.fields .rejectedSpacing .none, true) := by
  simp only [State.askSelection, State.select, hq, List.head?_cons, hs, State.onSelection, State.takeHead_cons hq]

/-- In PER_SITE mode with nothing undelivered the store is asked (R35 rule 4). -/
theorem State.chooseUnbatched_perSite {s : State} (hu : s.undelivered? = none) (hw : s.cyc.workMode = .perSite) :
    s.chooseUnbatched = s.askSelection := by
  simp [State.chooseUnbatched, hu, hw]

/-- In PER_SITE mode a head that passes the spacing check is taken up (R18, R35). -/
theorem State.choose_proceeds {s : State} {i : IndentItem} {rest : List Item} (hb : s.cyc.batch = none)
    (hu : s.undelivered? = none) (hw : s.cyc.workMode = .perSite) (hq : s.sst.queue = .indent i :: rest)
    (hs : s.spacing i.fields = .proceed) :
    s.choose = ({ s.headTaken rest with cyc.cue := .none } : State).enterPhase (.indent i) .toSite := by
  have hn : ({ s with cyc.cue := .none } : State).cyc.batchFor i = s.cyc.batch := by
    simp [Cyc.batchFor, hw]
  have hp := State.askSelection_proceeds (s := { s with cyc.cue := .none }) hq hs
  rw [hn] at hp
  exact State.choose_unbatched hb ((State.chooseUnbatched_perSite (s := { s with cyc.cue := .none }) hu hw).trans hp)

/-- Where the head is not at rest no need is set (R48). -/
theorem State.trySetNeed_waits {s : State} (h : s.atRest = false) : s.trySetNeed = s := by
  unfold State.trySetNeed
  cases s.cyc.current with
  | none => rfl
  | some c => cases hk : c.phase.claim <;> simp [hk, h]

/-- A motion phase that begins where the head is not at rest waits (R32, R48). -/
theorem State.enterPhase_waits {s : State} {w : Work} {p : Phase} (hp : p = .toSite ∨ p = .toView) (h : s.atRest = false) :
    s.enterPhase w p = { s with cyc.current := some { work := w, phase := p, step := .waiting } } := by
  have he : ((({ s with
      cyc := { s.cyc.startGathering p with current := some { work := w, phase := p, step := .waiting } } } : State).cueRoom
        p).openBufferFull p) = { s with cyc.current := some { work := w, phase := p, step := .waiting } } := by
    rcases hp with rfl | rfl <;> simp [Cyc.startGathering, State.cueRoom, State.openBufferFull]
  rw [State.enterPhase, he]
  exact State.trySetNeed_waits h

/-- The head at rest (R48). -/
theorem State.atRest_iff {s : State} :
    s.atRest = true ↔ s.frc.state = .retracted ∧ s.mot.stopping = false ∧ s.img.state = .idle := by
  simp [State.atRest, and_assoc]

/-- Nothing of a peer's opposes a claim of MOTION. -/
def Fcu.unopposed (f : Fcu) : Prop :=
  ∀ v ∈ f.view, (∀ m, v.claim = some m → m.kind = .motion) ∧ ∀ m, v.holdoff = some m → m.kind = .motion

/-- An ACTIVE unit out of doubt and unopposed may claim MOTION (R55). -/
theorem Fcu.motionPermitted {f : Fcu} (ha : f.state = .active) (hd : f.doubtUntil = none) (hv : f.unopposed) :
    f.firstFailure .motion = none :=
  Fcu.firstFailure_none ha hd (fun v h => (hv v h).1) (fun v h => (hv v h).2)

/-- A motion claim of an item just taken up: its need is set and its CLAIM queued (R32, R55). -/
def State.claimingMotion (s : State) (w : Work) (p : Phase) : State :=
  { s with
    cyc.current := some { work := w, phase := p, step := .waiting }
    fcu := { s.fcu with need := some { kind := .motion, since := s.tbu.stationTime }, claim := .pending .motion, block := none }
    fli.notices := placeNotice (.claim .motion) s.fli.notices }

/-- The head is at rest and nothing forbids a claim of MOTION. -/
def State.mayClaimMotion (s : State) : Prop :=
  s.frc.state = .retracted ∧ s.mot.stopping = false ∧ s.img.state = .idle ∧ s.fcu.state = .active ∧
    s.fcu.doubtUntil = none ∧ s.fcu.need = none ∧ s.fcu.claim = .none ∧ s.fcu.unopposed

/-- A motion phase that begins where nothing forbids it claims MOTION at once. -/
theorem State.enterPhase_claiming {s : State} {w : Work} {p : Phase} (hp : p = .toSite ∨ p = .toView)
    (h : s.mayClaimMotion) : s.enterPhase w p = s.claimingMotion w p := by
  obtain ⟨hf, hm, hi, ha, hd, hn, hc, hv⟩ := h
  exact State.enterPhase_claims hp hn (State.atRest_iff.mpr ⟨hf, hm, hi⟩) hc (Fcu.motionPermitted ha hd hv)

end Sys2Proof.Machine
end

section
/-!
PROOFS. The planning requests and MAP_CLEAR (O15 to O19).
-/

-- One theorem after another: each one elaborated beside the others takes a thread with a stack of its own.
set_option Elab.async false

namespace Sys2Proof.Machine

/-! ### PLAN_SITE -/

theorem decodeRequest_planSite {p : List Byte} (h : p.length = 22) :
    decodeRequest 0x10#8 p = .request (.planSite (readPlanRecord p)) := by
  simp [decodeRequest, requestLength, requestFields, h]

/-- PLAN_SITE at a station that hears it is answered by R4's tests. -/
theorem exec_planSite_heard {dest : BitVec 4} {p : List Byte} {s : State} (h : s.hears dest) (hp : p.length = 22) :
    exec (.planSite dest p) s = .next (s.answerThen (p.headD 0) 0x10#8 (s.planSiteCode (readPlanRecord p))
      (·.planSite (readPlanRecord p))) := by
  obtain ⟨hl, ho, _⟩ := h
  rw [exec_planSite, State.act_live hl.1, State.takeRequest_own hl ho (decodeRequest_planSite hp)]
  rfl

theorem exec_planSite_refused {dest : BitVec 4} {p : List Byte} {s : State} {code : ReplyCode} (h : s.hears dest)
    (hp : p.length = 22) (hc : s.planSiteCode (readPlanRecord p) = code) (hn : code ≠ .accepted) :
    exec (.planSite dest p) s = .next (s.replied (p.headD 0) 0x10#8 code) := by
  rw [exec_planSite_heard h hp, hc, State.answerThen_refused h.2.2 hn]

theorem exec_planSite_accepted {dest : BitVec 4} {p : List Byte} {s : State} (h : s.hears dest)
    (hp : p.length = 22) (hc : s.planSiteCode (readPlanRecord p) = .accepted) :
    exec (.planSite dest p) s = .next ((s.replied (p.headD 0) 0x10#8 .accepted).planSite (readPlanRecord p)) := by
  rw [exec_planSite_heard h hp, State.answerThen_accepted h.2.2 hc]

/-- R4's seven tests as the architect words them. -/
theorem State.planSiteCode_eq (s : State) (r : PlanRecord) :
    s.planSiteCode r =
      if s.cyc.mode = .start ∨ s.cyc.mode = .faulted then .wrongMode
      else if r.site = 0 then .badValue
      else if 32 ≤ s.sst.queue.length then .queueFull
      else if s.idHeld r.site = true then .duplicateId
      else if s.cfg.indenterKind? r.indenter = none ∨ s.cfg.objective? r.objective = none then .badTool
      else if s.cfg.badForce r.indenter r.force = true then .badForce
      else if s.cfg.outOfRange r.x r.y = true then .outOfRange
      else .accepted := by
  simp only [State.planSiteCode, State.planRefused_iff, Bool.or_eq_true, Option.isNone_iff_eq_none]

/-- Settles O15: the code is read off R4's tests in their order. -/
theorem planSiteAnswer : Obligations.PlanSiteAnswer := by
  unfold Obligations.PlanSiteAnswer
  intro dest p s hh hp r refused wrongMode full held badTool badForce outside
  have code := s.planSiteCode_eq r
  have hheld : s.idHeld r.site = true ↔ held := State.idHeld_iff
  have hforce : ¬badTool → (s.cfg.badForce r.indenter r.force = true ↔ badForce) := fun h =>
    ConfigImage.badForce_iff fun e => h (.inl e)
  have hrange : s.cfg.outOfRange r.x r.y = true ↔ outside := ConfigImage.outOfRange_iff
  have refuses : ∀ c, s.planSiteCode r = c → c ≠ .accepted → refused c := fun c => exec_planSite_refused hh hp
  refine ⟨fun h1 => ?_, fun h1 h2 => ?_, fun h1 h2 h3 => ?_, fun h1 h2 h3 h4 => ?_, fun h1 h2 h3 h4 h5 => ?_,
    fun h1 h2 h3 h4 h5 h6 => ?_, fun h1 h2 h3 h4 h5 h6 h7 => ?_, fun h1 h2 h3 h4 h5 h6 h7 hw => ?_⟩
  · exact refuses _ (code.trans (if_pos h1)) (by decide)
  · exact refuses _ (by rw [code, if_neg h1, if_pos h2]) (by decide)
  · exact refuses _ (by rw [code, if_neg h1, if_neg h2, if_pos h3]) (by decide)
  · exact refuses _ (by rw [code, if_neg h1, if_neg h2, if_neg h3, if_pos (hheld.mpr h4)]) (by decide)
  · exact refuses _ (by rw [code, if_neg h1, if_neg h2, if_neg h3, if_neg (h4 ∘ hheld.mp), if_pos h5]) (by decide)
  · exact refuses _ (by rw [code, if_neg h1, if_neg h2, if_neg h3, if_neg (h4 ∘ hheld.mp), if_neg h5, if_pos ((hforce h5).mpr h6)])
      (by decide)
  · exact refuses _ (by rw [code, if_neg h1, if_neg h2, if_neg h3, if_neg (h4 ∘ hheld.mp), if_neg h5, if_neg (h6 ∘ (hforce h5).mp),
      if_pos (hrange.mpr h7)]) (by decide)
  · have ha : s.planSiteCode r = .accepted := by
      rw [code, if_neg h1, if_neg h2, if_neg h3, if_neg (h4 ∘ hheld.mp), if_neg h5, if_neg (h6 ∘ (hforce h5).mp), if_neg (h7 ∘ hrange.mp)]
    exact (exec_planSite_accepted hh hp ha).trans (congrArg _ (State.wake_idle hw))

/-- Settles O16: cue PLAN is met, and the head of the empty store's queue passes the spacing check and the permit test. -/
theorem planSiteTakenUp : Obligations.PlanSiteTakenUp := by
  unfold Obligations.PlanSiteTakenUp
  intro dest p s hh hp ha hmode hcue hcur hb hw hsst hf hm hi hact hd hn hc hv
  let u : State := (s.replied (p.headD 0) 0x10#8 .accepted).pushItem (.indent (readPlanRecord p).item)
  have hq : u.sst.queue = [.indent (readPlanRecord p).item] := by simp [u, State.pushItem, State.replied, hsst]
  have hmap : u.sst.map = [] := by simp [u, State.pushItem, State.replied, hsst]
  have hwaits : u.cyc.waitsWith .plan = true := by
    simp [u, State.pushItem, State.replied, Cyc.waitsWith, hmode, hcue, hcur]
  have hu : u.undelivered? = none := State.undelivered_none (by simp [hmap])
  have hs : u.spacing (readPlanRecord p).item.fields = .proceed := State.spacing_proceeds (by simp [hmap]) (by simp [hmap])
  have hmay : ({ u.headTaken [] with cyc.cue := .none } : State).mayClaimMotion := ⟨hf, hm, hi, hact, hd, hn, hc, hv⟩
  have woken : u.wake .plan = u.choose := if_pos hwaits
  have chosen : u.choose = ({ u.headTaken [] with cyc.cue := .none } : State).claimingMotion
      (.indent (readPlanRecord p).item) .toSite :=
    (State.choose_proceeds (s := u) hb hu hw hq hs).trans (State.enterPhase_claiming (.inl rfl) hmay)
  rw [exec_planSite_accepted hh hp ha]
  refine congrArg _ ((woken.trans chosen).trans ?_)
  simp [State.claimingMotion, State.headTaken, u, State.pushItem, State.replied, State.answered, hsst]

/-! ### PLAN_REMEASURE -/

theorem decodeRequest_planRemeasure (tag hi lo : Byte) :
    decodeRequest 0x11#8 [tag, hi, lo] = .request (.planRemeasure (hi.toNat * 256 + lo.toNat)) := by
  simp [decodeRequest, requestLength, requestFields, fieldNat_site]

/-- PLAN_REMEASURE at a station that hears it is answered by R5's tests. -/
theorem exec_planRemeasure_heard {dest : BitVec 4} {tag hi lo : Byte} {s : State} (h : s.hears dest) :
    exec (.planRemeasure dest [tag, hi, lo]) s =
      .next (s.answerThen tag 0x11#8 (s.planRemeasureCode (hi.toNat * 256 + lo.toNat))
        (·.planRemeasure (hi.toNat * 256 + lo.toNat))) := by
  obtain ⟨hl, ho, _⟩ := h
  rw [exec_planRemeasure, State.act_live hl.1, State.takeRequest_own hl ho (decodeRequest_planRemeasure tag hi lo)]
  rfl

/-- R5's third test. -/
theorem Entry.measurable_false_iff {e : Entry} :
    e.measurable = false ↔ e.made = false ∨ e.indentFlags.indentAborted = true ∨ e.outcome = .awaitingMeasure := by
  unfold Entry.measurable
  cases e.made <;> cases e.indentFlags.indentAborted <;> simp

/-- R5's tests at a site that has an entry. -/
theorem State.planRemeasureCode_known {s : State} {site : Nat} {e : Entry} (hm : s.planRefused = false)
    (he : s.sst.entry? site = some e) :
    s.planRemeasureCode site =
      if e.measurable = false then .notMeasurable
      else if Item.remeasure site ∈ s.sst.queue then .duplicateId
      else if 32 ≤ s.sst.queue.length then .queueFull
      else .accepted := by
  simp [State.planRemeasureCode, hm, he]

/-- Settles O17: R5's tests in their order, and the choice that cue PLAN waits for. -/
theorem planRemeasureAnswer : Obligations.PlanRemeasureAnswer := by
  unfold Obligations.PlanRemeasureAnswer
  intro dest tag hi lo s hh site refused wrongMode
  have refuses : ∀ c, s.planRemeasureCode site = c → c ≠ .accepted → refused c := by
    intro c hc hn
    change exec _ s = _
    rw [exec_planRemeasure_heard hh, hc, State.answerThen_refused hh.2.2 hn]
  have free : ¬wrongMode → s.planRefused = false := fun h => Bool.eq_false_iff.mpr fun e => h (State.planRefused_iff.mp e)
  refine ⟨fun hm => refuses _ ?_ (by decide), fun hm hu => refuses _ ?_ (by decide), fun e hm he => ?_⟩
  · rw [State.planRemeasureCode, if_pos (State.planRefused_iff.mpr hm)]
  · simp [State.planRemeasureCode, free hm, Store.entry?_none hu]
  have code := State.planRemeasureCode_known (free hm) he
  intro barred
  have hbar : e.measurable = false ↔ barred := Entry.measurable_false_iff
  refine ⟨fun h1 => ?_, fun h1 h2 => ?_, fun h1 h2 h3 => ?_, fun h1 h2 h3 => ?_⟩
  · exact refuses _ (by rw [code, if_pos (hbar.mpr h1)]) (by decide)
  · exact refuses _ (by rw [code, if_neg (h1 ∘ hbar.mp), if_pos h2]) (by decide)
  · exact refuses _ (by rw [code, if_neg (h1 ∘ hbar.mp), if_neg h2, if_pos h3]) (by decide)
  intro answers accepted
  have ha : s.planRemeasureCode site = .accepted := by
    rw [code, if_neg (h1 ∘ hbar.mp), if_neg h2, if_neg (Nat.not_le.mpr h3)]
  have woken : answers (accepted.wake .plan) := by
    change exec _ s = _
    rw [exec_planRemeasure_heard hh, State.answerThen_accepted hh.2.2 ha]
    rfl
  have chooses : s.cyc.waitsWith .plan = true → answers accepted.choose := by
    intro hw
    have hc : accepted.wake .plan = accepted.choose := if_pos hw
    exact woken.trans (congrArg _ hc)
  refine ⟨fun hw => ?_, chooses, fun hw hb hq hn hd => ?_⟩
  · have hc : accepted.wake .plan = accepted := State.wake_idle hw
    exact woken.trans (congrArg _ hc)
  intro taken atRest
  have queue : accepted.sst.queue = [.remeasure site] := by simp [accepted, hq]
  have chosen : accepted.choose =
      ({ s.replied tag 0x11#8 .accepted with cyc.cue := .none, sst.deferral := none } : State).enterPhase
        (.remeasure site) .toView := by
    rw [State.choose_remeasure (s := accepted) hb (State.undelivered_none hd) queue]
    simp [accepted, State.replied, hq]
  refine ⟨fun hr => ?_, fun hr hact hdoubt hc hv => ?_⟩
  · have rest := State.enterPhase_waits
      (s := { s.replied tag 0x11#8 .accepted with cyc.cue := .none, sst.deferral := none }) (w := .remeasure site)
      (.inr rfl) (Bool.eq_false_iff.mpr fun e => hr (State.atRest_iff.mp e))
    exact (chooses hw).trans (congrArg _ (chosen.trans rest))
  · have claims := State.enterPhase_claiming
      (s := { s.replied tag 0x11#8 .accepted with cyc.cue := .none, sst.deferral := none }) (w := .remeasure site)
      (.inr rfl) ⟨hr.1, hr.2.1, hr.2.2, hact, hdoubt, hn, hc, hv⟩
    exact (chooses hw).trans (congrArg _ (chosen.trans claims))

/-! ### PLAN_WITHDRAW -/

theorem decodeRequest_planWithdraw (tag hi lo : Byte) :
    decodeRequest 0x12#8 [tag, hi, lo] = .request (.planWithdraw (hi.toNat * 256 + lo.toNat)) := by
  simp [decodeRequest, requestLength, requestFields, fieldNat_site]

/-- PLAN_WITHDRAW at a station that hears it is answered by R6's tests. -/
theorem exec_planWithdraw_heard {dest : BitVec 4} {tag hi lo : Byte} {s : State} (h : s.hears dest) :
    exec (.planWithdraw dest [tag, hi, lo]) s =
      .next (s.answerThen tag 0x12#8 (s.planWithdrawCode (hi.toNat * 256 + lo.toNat))
        (·.planWithdraw (hi.toNat * 256 + lo.toNat))) := by
  obtain ⟨hl, ho, _⟩ := h
  rw [exec_planWithdraw, State.act_live hl.1, State.takeRequest_own hl ho (decodeRequest_planWithdraw tag hi lo)]
  rfl

theorem Store.headIs_iff {st : Store} {site : Nat} :
    st.headIs site = true ↔ st.queue.head?.map Item.site = some site := by
  unfold Store.headIs
  cases st.queue.head? <;> simp

/-- The item of a site withdrawn, as the architect words it (R6, R23). -/
theorem State.withdrawItem_eq (s : State) (site : Nat) :
    s.withdrawItem site =
      { s with
        sst.queue := s.sst.queue.filter fun i => i.site != site
        sst.deferral := if s.sst.queue.head?.map Item.site = some site then none else s.sst.deferral } := by
  simp only [State.withdrawItem, Store.headIs_iff]

/-- Cue PLAN and cue RESULT are met by a withdrawal, and nothing else is (R6, R35). -/
theorem State.planWithdraw_eq (s : State) (site : Nat) :
    s.planWithdraw site =
      if s.cyc.waitsWith .plan = true ∨ s.cyc.waitsWith .result = true then (s.withdrawItem site).choose
      else s.withdrawItem site := by
  unfold State.planWithdraw State.wake
  have hc : (s.withdrawItem site).cyc = s.cyc := rfl
  rw [hc]
  unfold Cyc.waitsWith
  cases hq : s.cyc.cue <;> simp

/-- Settles O18: R6's tests, the item gone from the queue, and the choice that cue PLAN or RESULT waits for. -/
theorem planWithdrawAnswer : Obligations.PlanWithdrawAnswer := by
  unfold Obligations.PlanWithdrawAnswer
  intro dest tag hi lo s hh site current queued
  have hcur : s.currentIs site = true ↔ current := State.currentIs_iff
  have hque : (s.sst.queue.any fun i => i.site == site) = true ↔ queued := by
    simp only [List.any_eq_true, beq_iff_eq]
    rfl
  refine ⟨fun h1 => ?_, fun h1 h2 => ?_, fun h1 h2 => ?_⟩
  · have code : s.planWithdrawCode site = .busy := if_pos (hcur.mpr h1)
    rw [exec_planWithdraw_heard hh, code, State.answerThen_refused hh.2.2 (by decide)]
  · have code : s.planWithdrawCode site = .unknownId := by
      rw [State.planWithdrawCode, if_neg (h1 ∘ hcur.mp), if_neg (h2 ∘ hque.mp)]
    rw [exec_planWithdraw_heard hh, code, State.answerThen_refused hh.2.2 (by decide)]
  have code : s.planWithdrawCode site = .accepted := by
    rw [State.planWithdrawCode, if_neg (h1 ∘ hcur.mp), if_pos (hque.mpr h2)]
  intro answers left withdrawn waits
  have withdraws : (s.replied tag 0x12#8 .accepted).withdrawItem site = withdrawn := State.withdrawItem_eq _ site
  have taken := exec_planWithdraw_heard (tag := tag) (hi := hi) (lo := lo) hh
  rw [State.answerThen_accepted hh.2.2 code, State.planWithdraw_eq, withdraws] at taken
  have chooses : waits → answers withdrawn.choose := fun h => taken.trans (congrArg _ (if_pos h))
  refine ⟨fun h => taken.trans (congrArg _ (if_neg h)), chooses, fun hw hb hd => ?_⟩
  intro mayClaim begun
  have hu : withdrawn.undelivered? = none := State.undelivered_none hd
  have claims : ∀ (w : Work) (p : Phase) (rest : List Item), p = .toSite ∨ p = .toView → mayClaim →
      withdrawn.choose = ({ withdrawn.headTaken rest with cyc.cue := .none } : State).enterPhase w p → begun w p rest := by
    intro w p rest hp hm hc
    have hmay : ({ withdrawn.headTaken rest with cyc.cue := .none } : State).mayClaimMotion := hm
    have next : withdrawn.choose = _ := hc.trans (State.enterPhase_claiming hp hmay)
    exact (chooses hw).trans (congrArg _ next)
  refine ⟨fun hq => ?_, fun id rest hq hm => ?_, fun j rest hq hwm hlen hcon hm => ?_⟩
  · have next : withdrawn.choose = { withdrawn with cyc.cue := .plan } := State.choose_nothing hb hu hq
    exact (chooses hw).trans (congrArg _ next)
  · exact claims _ _ rest (.inr rfl) hm (State.choose_remeasure (s := withdrawn) hb hu hq)
  · exact claims _ _ rest (.inl rfl) hm (State.choose_proceeds (s := withdrawn) hb hu hwm hq (State.spacing_proceeds hlen hcon))

/-! ### MAP_CLEAR -/

/-- The map is tied to work (R24). -/
def State.mapTied (s : State) : Prop :=
  (∃ e ∈ s.sst.map, e.outcome = .awaitingMeasure) ∨ s.cyc.current ≠ none ∨
    (∃ site, Item.remeasure site ∈ s.sst.queue) ∨ s.mea.slotA ≠ .free ∨ s.mea.slotB ≠ .free

/-- R24's test. -/
theorem State.mapTied_iff {s : State} :
    (!s.sst.measureList.isEmpty || s.cyc.current.isSome || s.sst.queue.any Item.isRemeasure
      || !s.mea.slotA.isFree || !s.mea.slotB.isFree) = true ↔ s.mapTied := by
  have hlist : s.sst.measureList.isEmpty = false ↔ ∃ e ∈ s.sst.map, e.outcome = .awaitingMeasure := by
    simp [Store.measureList, Bool.eq_false_iff]
  have hqueue : s.sst.queue.any Item.isRemeasure = true ↔ ∃ site, Item.remeasure site ∈ s.sst.queue := by
    rw [List.any_eq_true]
    constructor
    · rintro ⟨i, hi, h⟩
      cases i with
      | indent j => cases h
      | remeasure id => exact ⟨id, hi⟩
    · rintro ⟨id, hi⟩
      exact ⟨_, hi, rfl⟩
  have hslot : ∀ p : ProfileSlot, p.isFree = false ↔ p ≠ .free := by
    intro p
    cases p <;> simp [ProfileSlot.isFree]
  simp only [State.mapTied, Bool.or_eq_true, Bool.not_eq_true', hlist, hqueue, hslot, or_assoc, Option.isSome_iff_ne_none]

/-- Settles O19: R24's test, and the choice that cue PLAN waits for. -/
theorem mapClearAnswer : Obligations.MapClearAnswer := by
  unfold Obligations.MapClearAnswer
  intro dest tag s hl ho hr tied
  have taken : exec (.mapClear dest [tag]) s = .next (s.answerThen tag 0x13#8 s.mapClearCode State.mapClear) := by
    rw [exec_mapClear, State.act_live hl.1, State.takeRequest_broadcast hl ho (r := .mapClear) rfl rfl]
    rfl
  refine ⟨fun h => ?_, fun h => ?_⟩
  · have code : s.mapClearCode = .busy := if_pos (State.mapTied_iff.mpr h)
    rw [taken, code, State.answerThen_refused hr (by decide)]
  · have code : s.mapClearCode = .accepted := if_neg (h ∘ State.mapTied_iff.mp)
    rw [taken, State.answerThen_accepted hr code]
    rfl

end Sys2Proof.Machine
end

section
/-!
PROOFS. START: the entries written, the computations started and the choice made at once (O21, O59).
-/

-- One theorem after another: each one elaborated beside the others takes a thread with a stack of its own.
set_option Elab.async false

namespace Sys2Proof.Machine

/-! ### Entries written where their SITE_DONE finds room -/

/-- An entry written with its final outcome: the map, the two signals and the SITE_DONE (R17, R172). -/
def State.reported (s : State) (map : List Entry) (e : Entry) (attempt : SiteOutcome) (flags : MeasureFlags) : State :=
  ({ s.answered (.siteDone e attempt flags) with sst.map := map }.signal .outcome (qualifierBit e.outcome.code)).signal
    .flag e.flagMask

theorem State.finish_reported {s : State} {site : Nat} {f : Entry → Entry} {e : Entry} (he : s.sst.entry? site = some e)
    (hr : s.hasMessageRoom 1) :
    s.finish site f = s.reported (s.mapWith site f) (f e) (f e).outcome (f e).measureFlags := by
  have hsend : ((s.rewrite site f).signalOutcome (f e)).handOver (f e) = _ :=
    State.send_room (s := (s.rewrite site f).signalOutcome (f e)) hr _
  simp only [State.finish, he]
  exact hsend

theorem State.createUnmade_reported {s : State} (hr : s.hasMessageRoom 1) (f : SiteFields) (o : SiteOutcome) (g : IndentFlags) :
    s.createUnmade f o g =
      s.reported (s.sst.map ++ [Entry.unmade f o g s.now]) (.unmade f o g s.now) o .none :=
  State.send_room (s := State.signalOutcome { s with sst.map := s.sst.map ++ [Entry.unmade f o g s.now] }
    (.unmade f o g s.now)) hr _

/-- The entry of a map of one. -/
theorem Store.entry?_single {st : Store} {e : Entry} (h : st.map = [e]) : st.entry? e.fields.site = some e := by
  simp [Store.entry?, h]

/-! ### Computations started (R152) -/

/-- A slot once its computation has started. -/
def ProfileSlot.started : ProfileSlot → ProfileSlot
  | .ready d => .computing d
  | p => p

theorem Mea.set_get (m : Mea) (name : SlotName) : m.set name (m.get name) = m := by cases name <;> rfl

/-- A READY slot with profiles starts, and no other slot changes. -/
theorem State.startSlot_profiled {s : State} {name : SlotName} (hm : s.cyc.mode.permits = true)
    (h : ∀ d, s.mea.get name = .ready d → d.profiles ≠ none) :
    s.startSlot name = ({ s with mea := s.mea.set name (s.mea.get name).started }, false) := by
  unfold State.startSlot
  cases hg : s.mea.get name with
  | ready d => simp [hm, Option.isSome_iff_ne_none, h d hg, ProfileSlot.started]
  | free => simp [ProfileSlot.started, ← hg, Mea.set_get]
  | filling site => simp [ProfileSlot.started, ← hg, Mea.set_get]
  | computing d => simp [ProfileSlot.started, ← hg, Mea.set_get]

/-- Both slots started. -/
def Mea.started (m : Mea) : Mea := { slotA := m.slotA.started, slotB := m.slotB.started }

/-- Where every READY slot has profiles, the slots start and nothing is written. -/
theorem State.startComputations_profiled {s : State} (hm : s.cyc.mode.permits = true)
    (h : ∀ (name : SlotName) (d : Delivery), s.mea.get name = .ready d → d.profiles ≠ none) :
    s.startComputations = { s with mea := s.mea.started } := by
  have ha := State.startSlot_profiled hm (h .a)
  have hb := State.startSlot_profiled (s := { s with mea := s.mea.set .a (s.mea.get .a).started }) (name := .b) hm (h .b)
  simp only [State.startComputations, ha, hb]
  rfl

/-- Where no slot is READY, nothing starts. -/
theorem State.startComputations_idle {s : State} (h : ∀ (name : SlotName) (d : Delivery), s.mea.get name ≠ .ready d) :
    s.startComputations = s := by
  have idle : ∀ (name : SlotName), s.startSlot name = (s, false) := by
    intro name
    unfold State.startSlot
    cases hg : s.mea.get name with
    | ready d => exact absurd hg (h name d)
    | _ => rfl
  simp [State.startComputations, idle]

/-- A slot that is READY without profiles completes where the other is FREE (R152, R164). -/
theorem State.startComputations_bare {s : State} {name : SlotName} {d : Delivery} (hm : s.cyc.mode.permits = true)
    (hs : s.mea = Mea.set { slotA := .free, slotB := .free } name (.ready d)) (hp : d.profiles = none) :
    s.startComputations = (s.completeSlot name d).afterWrite := by
  have mea : (s.completeSlot name d).mea = { slotA := .free, slotB := .free } := by
    obtain ⟨_, _, _, _, e⟩ := OnlyReports.writeResult
      { s with mea := s.mea.set name .free, cyc.delivered := s.cyc.delivered.erase d.site } (s.cfg.resultOf d)
    have hfreed : s.mea.set name .free = { slotA := .free, slotB := .free } := by
      rw [hs]
      cases name <;> rfl
    rw [State.completeSlot, e, ← hfreed]
  cases name with
  | a =>
    have ha : s.startSlot .a = (s.completeSlot .a d, true) := by simp [State.startSlot, hs, Mea.get, Mea.set, hm, hp]
    have hb : (s.completeSlot .a d).startSlot .b = (s.completeSlot .a d, false) := by simp [State.startSlot, mea, Mea.get]
    simp [State.startComputations, ha, hb]
  | b =>
    have ha : s.startSlot .a = (s, false) := by simp [State.startSlot, hs, Mea.get, Mea.set]
    have hb : s.startSlot .b = (s.completeSlot .b d, true) := by simp [State.startSlot, hs, Mea.get, Mea.set, hm, hp]
    simp [State.startComputations, ha, hb]

/-- A write leaves the cycle record of a station in which neither room nor a slot is waited for. -/
theorem Cyc.afterWrite_idle {c : Cyc} {room free : Bool} (hcue : c.cue ≠ .room) (hbuf : c.bufferFull = false) :
    ({ c.afterWrite room with bufferFull := c.bufferFull && free } : Cyc) = c := by
  cases c
  simp_all [Cyc.afterWrite]

/-- A write that nothing waits for wakes nothing (R35, R37, R42). -/
theorem State.afterWrite_idle {s : State} (hcur : s.cyc.current = none) (hcue : s.cyc.cue = .none)
    (hbuf : s.cyc.bufferFull = false) : s.afterWrite = s := by
  have need : s.trySetNeed = s := by simp [State.trySetNeed, hcur]
  have hroom : s.cyc.cue ≠ .room := by simp [hcue]
  simp only [State.afterWrite, Cyc.afterWrite_idle hroom hbuf, need]
  simp [Cyc.waitsWith, hcue]

/-! ### Work taken up -/

theorem State.continueWork_running {s : State} (hc : s.cyc.current = none) (hm : s.cyc.mode = .running) :
    s.continueWork = s.choose := by
  simp [State.continueWork, hc, hm]

theorem State.startRunning_profiled {s : State} (hc : s.cyc.current = none)
    (h : ∀ (name : SlotName) (d : Delivery), s.mea.get name = .ready d → d.profiles ≠ none) :
    s.startRunning = ({ s with cyc.mode := .running, mea := s.mea.started } : State).choose := by
  have starts := State.startComputations_profiled (s := { s with cyc.mode := .running }) rfl h
  exact (congrArg State.continueWork starts).trans (State.continueWork_running hc rfl)

/-- START in READY or PAUSED at a station that hears it (R28). -/
theorem exec_start_heard {dest : BitVec 4} {tag : Byte} {s : State} (hl : s.live) (ho : s.own dest ∨ dest = 15#4)
    (hr : s.hasMessageRoom 1) (hm : s.cyc.mode = .ready ∨ s.cyc.mode = .paused) :
    exec (.start dest [tag]) s = .next (s.replied tag 0x14#8 .accepted).startRunning := by
  have code : s.startCode = .accepted := if_pos hm
  rw [exec_start, State.act_live hl.1, State.takeRequest_broadcast hl ho (r := .start) rfl rfl]
  exact congrArg _ (State.answerThen_accepted hr code)

/-- In BATCH mode with an empty measure list the store is asked (R35 rule 3). -/
theorem State.chooseUnbatched_batchAsks {s : State} {i : IndentItem} {rest : List Item} (hl : s.sst.measureList = [])
    (hw : s.cyc.workMode = .batch) (hq : s.sst.queue = .indent i :: rest) : s.chooseUnbatched = s.askSelection := by
  simp [State.chooseUnbatched, State.undelivered?, hl, hw, State.chooseInBatchMode, hq]

/-- In BATCH mode an INDENT item at the head waits for the measure list (R35 rule 3). -/
theorem State.chooseUnbatched_batchWaits {s : State} {i : IndentItem} {rest : List Item} (hb : s.cyc.batch = none)
    (hu : s.undelivered? = none) (hl : s.sst.measureList ≠ []) (hw : s.cyc.workMode = .batch)
    (hq : s.sst.queue = .indent i :: rest) : s.chooseUnbatched = ({ s with cyc.cue := .result }, false) := by
  simp [State.chooseUnbatched, hu, hl, hw, State.chooseInBatchMode, hq, State.waitFor, hb]

/-- In BATCH mode with no batch open, the head of an empty measure list opens the batch of its slot (R35 rule 3, R36). -/
theorem State.choose_opensBatch {s : State} {i : IndentItem} {rest : List Item} (hb : s.cyc.batch = none)
    (hl : s.sst.measureList = []) (hw : s.cyc.workMode = .batch) (hq : s.sst.queue = .indent i :: rest)
    (hs : s.spacing i.fields = .proceed) :
    s.choose =
      ({ s.headTaken rest with cyc.cue := .none, cyc.batch := some i.fields.indenter } : State).enterPhase (.indent i)
        .toSite := by
  have hn : ({ s with cyc.cue := .none } : State).cyc.batchFor i = some i.fields.indenter := by
    simp [Cyc.batchFor, hw, hb]
  have hp := State.askSelection_proceeds (s := { s with cyc.cue := .none }) hq hs
  rw [hn] at hp
  exact State.choose_unbatched hb ((State.chooseUnbatched_batchAsks (s := { s with cyc.cue := .none }) hl hw hq).trans hp)

/-- In BATCH mode with no batch open, an INDENT item waits for the measure list (R35 rule 3). -/
theorem State.choose_waitsForResult {s : State} {i : IndentItem} {rest : List Item} (hb : s.cyc.batch = none)
    (hu : s.undelivered? = none) (hl : s.sst.measureList ≠ []) (hw : s.cyc.workMode = .batch)
    (hq : s.sst.queue = .indent i :: rest) : s.choose = { s with cyc.cue := .result } :=
  State.choose_unbatched hb (State.chooseUnbatched_batchWaits (s := { s with cyc.cue := .none }) hb hu hl hw hq)

/-- A result with a failure flag written into an entry (R9): MEASURE_FAILED, and no numbers. -/
theorem Entry.measuredWith_failed {r : MeasureResult} {n : Nat} {e : Entry} (h : r.flags.failed = true) :
    e.measuredWith r n =
      { e with
        outcome := .measureFailed, measureFlags := r.flags, d1 := none, d2 := none, hardness := none, count := n } := by
  simp [Entry.measuredWith, measuredOutcome, h, SiteOutcome.measured, keptWhen]

/-- A delivery without profiles gives its measure set alone (R164). -/
theorem ConfigImage.resultOf_bare {c : ConfigImage} {d : Delivery} (h : d.profiles = none) : c.resultOf d = bareResult d := by
  simp [ConfigImage.resultOf, h]

/-- The state in which a bare delivery of a failed measurement has completed: its slot FREE, its entry MEASURE_FAILED (R14, R152). -/
def State.bareCompleted (s : State) (d : Delivery) (written : Entry) : State :=
  ({ s with
    mea := { slotA := .free, slotB := .free }, cyc.delivered := s.cyc.delivered.erase d.site } : State).reported [written] written
      .measureFailed d.measureSet

/-- A failed bare delivery of the only entry, which waits for its measurement, is written at once (R14, R152, R164). -/
theorem State.completeSlot_bare {s : State} {name : SlotName} {d : Delivery} {e : Entry} (hr : s.hasMessageRoom 1)
    (hs : s.mea = Mea.set { slotA := .free, slotB := .free } name (.ready d)) (hp : d.profiles = none)
    (hf : d.measureSet.failed = true) (hm : s.sst.map = [e]) (he : e.fields.site = d.site) (ho : e.outcome = .awaitingMeasure) :
    s.completeSlot name d =
      s.bareCompleted d
        { e with
          outcome := .measureFailed, measureFlags := d.measureSet, d1 := none, d2 := none, hardness := none, count := 1 } := by
  have free : s.mea.set name .free = { slotA := .free, slotB := .free } := by
    rw [hs]
    cases name <;> rfl
  have entry : s.sst.entry? d.site = some e := he ▸ Store.entry?_single hm
  have failed : (bareResult d).flags.failed = true := hf
  let u : State := { s with mea := s.mea.set name .free, cyc.delivered := s.cyc.delivered.erase d.site }
  have written := State.finish_reported (s := u) (f := .measuredWith (bareResult d) 1) entry hr
  rw [Entry.measuredWith_failed failed] at written
  have finishes : u.writeResult (bareResult d) = u.finish d.site (.measuredWith (bareResult d) 1) := by
    unfold State.writeResult
    have entry' : u.sst.entry? (bareResult d).site = some e := entry
    rw [entry']
    exact if_pos ho
  have map : u.mapWith d.site (.measuredWith (bareResult d) 1) = [e.measuredWith (bareResult d) 1] := by
    simp [State.mapWith, u, hm, he]
  rw [map, Entry.measuredWith_failed failed] at written
  rw [State.completeSlot, ConfigImage.resultOf_bare hp]
  refine (finishes.trans written).trans ?_
  simp only [u, free]
  rfl

end Sys2Proof.Machine
end

section
/-!
PROOFS. START chooses at once (O21), and what the spacing check decides (O59).
-/

-- One theorem after another: each one elaborated beside the others takes a thread with a stack of its own.
set_option Elab.async false

namespace Sys2Proof.Machine

/-- Settles O21: the READY slots start, and the choice is that of R35 by the measure list and the head of the queue. -/
theorem startChooses : Obligations.StartChooses := by
  unfold Obligations.StartChooses
  intro dest tag s hl ho hr hm hcur hb started profiled mea delivered mayClaim begun
  have starts := exec_start_heard (tag := tag) hl ho hr hm
  let u : State := { s.replied tag 0x14#8 .accepted with cyc.mode := .running, mea := mea }
  have mea_eq : mea = s.mea.started := by
    unfold Mea.started
    congr 1
  have chooses : profiled → exec (.start dest [tag]) s = .next u.choose := by
    intro hp
    have run := State.startRunning_profiled (s := s.replied tag 0x14#8 .accepted) hcur hp
    rw [starts, run]
    simp only [u, mea_eq]
    rfl
  have claims : ∀ (w : Work) (p : Phase) (batch : Option Nat) (queue : List Item) (deferral : Option Deferral),
      p = .toSite ∨ p = .toView → mayClaim → profiled →
      u.choose = ({ u with
        cyc := { u.cyc with cue := .none, batch := batch }
        sst := { s.sst with queue := queue, deferral := deferral } } : State).enterPhase w p → begun w p batch queue deferral := by
    intro w p batch queue deferral hp hmay hprof hc
    exact (chooses hprof).trans (congrArg _ (hc.trans (State.enterPhase_claiming hp hmay)))
  refine ⟨fun hp hq hd => ?_, ?_, fun site hp hf hmay => ?_, fun site rest hp hq hd hmay => ?_, fun i rest hp hq hw => ⟨?_, ?_⟩⟩
  · exact (chooses hp).trans (congrArg _ (State.choose_nothing (s := u) hb (State.undelivered_none hd) hq))
  · intro name d e hr2 hs hprof hfail hmap he hout hq hbuf hcue written
    have failed : d.measureSet.failed = true := by
      rcases hfail with h | h <;> simp [MeasureFlags.failed, h]
    let v : State := { s.replied tag 0x14#8 .accepted with cyc.mode := .running }
    have room : v.hasMessageRoom 1 := by
      simp only [State.hasMessageRoom] at hr2 ⊢
      simp [v, State.replied]
      omega
    have completed : v.completeSlot name d = v.bareCompleted d written :=
      State.completeSlot_bare room hs hprof failed hmap he hout
    have quiet : (v.bareCompleted d written).afterWrite = v.bareCompleted d written :=
      State.afterWrite_idle hcur hcue hbuf
    have none_left : (v.bareCompleted d written).undelivered? = none :=
      State.undelivered_none (by simp [State.bareCompleted, State.reported, written])
    have computed : v.startComputations = v.bareCompleted d written :=
      (State.startComputations_bare (s := v) rfl hs hprof).trans ((congrArg _ completed).trans quiet)
    have chosen := (State.continueWork_running (s := v.bareCompleted d written) hcur rfl).trans
      (State.choose_nothing hb none_left hq)
    exact starts.trans (congrArg _ ((congrArg State.continueWork computed).trans chosen))
  · exact claims _ _ none _ _ (.inr rfl) hmay hp (by rw [State.choose_listed (s := u) hb hf, ← hb]; rfl)
  · exact claims _ _ none _ _ (.inr rfl) hmay hp
      (by rw [State.choose_remeasure (s := u) hb (State.undelivered_none hd) hq, ← hb]; rfl)
  · intro hlist hlen hcon hmay
    exact claims _ _ _ _ _ (.inl rfl) hmay hp
      (State.choose_opensBatch (s := u) hb hlist hw hq (State.spacing_proceeds hlen hcon))
  · intro hlist hd
    exact (chooses hp).trans (congrArg _ (State.choose_waitsForResult (s := u) hb (State.undelivered_none hd) hlist hw hq))

/-! ### The spacing check (O59) -/

/-- R21's comparison of squares. -/
theorem ConfigImage.conflicts_iff {c : ConfigImage} {f : SiteFields} {e : Entry} :
    c.conflicts f e = true ↔ e.made = true ∧
      100000000 * ((f.x - e.fields.x) * (f.x - e.fields.x) + (f.y - e.fields.y) * (f.y - e.fields.y))
        < ((c.spacingFactor * c.spacingFactor * (c.reference e f * c.reference e f) : Nat) : Int) := by
  simp only [ConfigImage.conflicts, Bool.and_eq_true, decide_eq_true_eq, pow_two]
  push_cast
  rfl

/-- A full map defers the head, whatever its spacing (R19). -/
theorem State.spacing_full {s : State} {f : SiteFields} (h : 256 ≤ s.sst.map.length) : s.spacing f = .wait .mapFull := by
  simp [State.spacing, h]

/-- The answer against the only entry of the map (R22). -/
theorem State.spacing_single {s : State} {f : SiteFields} {e : Entry} (h : s.sst.map = [e]) :
    s.spacing f =
      if s.cfg.conflicts f e = true then if e.outcome = .awaitingMeasure then .wait .spacingWait else .rejected
      else .proceed := by
  cases hc : s.cfg.conflicts f e <;> simp [State.spacing, h, hc]

/-- A first WAIT answer starts a deferral episode, which is counted (R23). -/
theorem State.defer_fresh {s : State} (h : s.sst.deferral = none) (r : DeferralReason) :
    s.defer r =
      ({ s with sst.deferral := some { reason := r, since := s.tbu.stationTime } } : State).signal .deferral
        (qualifierBit r.qualifier) := by
  have fresh : s.sst.deferredFor ≠ some r := by simp [Store.deferredFor, h]
  rw [State.defer, if_neg fresh]
  rfl

/-- The cue for which a deferred head waits (R35). -/
def DeferralReason.cue : DeferralReason → Cue
  | .spacingWait => .result
  | .mapFull => .plan

/-- In PER_SITE mode a head that is deferred for the first time is waited for with its reason's cue (R23, R35). -/
theorem State.choose_defers {s : State} {i : IndentItem} {rest : List Item} {r : DeferralReason} (hb : s.cyc.batch = none)
    (hu : s.undelivered? = none) (hw : s.cyc.workMode = .perSite) (hq : s.sst.queue = .indent i :: rest)
    (hd : s.sst.deferral = none) (hs : s.spacing i.fields = .wait r) :
    s.choose =
      ({ s with sst.deferral := some { reason := r, since := s.tbu.stationTime }, cyc.cue := r.cue } : State).signal .deferral
        (qualifierBit r.qualifier) := by
  let v : State := { s with cyc.cue := .none }
  have waits := State.askSelection_waits (s := v) hq hs
  rw [State.defer_fresh (s := v) hd] at waits
  have onWait : (({ v with sst.deferral := some { reason := r, since := v.tbu.stationTime } } : State).signal .deferral
      (qualifierBit r.qualifier)).onSelection (.wait r) =
      (({ s with sst.deferral := some { reason := r, since := s.tbu.stationTime }, cyc.cue := r.cue } : State).signal .deferral
        (qualifierBit r.qualifier), false) := by
    cases r <;> simp [State.onSelection, State.waitFor, v, hb, DeferralReason.cue, State.signal]
  exact State.choose_unbatched hb ((State.chooseUnbatched_perSite (s := v) hu hw).trans (waits.trans onWait))

/-- A choice that is made again (R35). -/
theorem State.chooseUpTo_again {s t : State} (n : Nat) (h : s.chooseOnce = (t, true)) :
    State.chooseUpTo (n + 1) s = State.chooseUpTo n t := by
  simp [State.chooseUpTo, h]

theorem State.chooseOnce_unbatched {s : State} (hb : s.cyc.batch = none) :
    s.chooseOnce = ({ s with cyc.cue := .none } : State).chooseUnbatched := by
  unfold State.chooseOnce
  dsimp only
  rw [hb]

/-- In PER_SITE mode the last queued item, rejected for its spacing, leaves the Cycle Controller waiting with cue PLAN (R22,
R35). -/
theorem State.choose_rejectsLast {s : State} {i : IndentItem} (hr : s.hasMessageRoom 1) (hb : s.cyc.batch = none)
    (hu : s.undelivered? = none) (hw : s.cyc.workMode = .perSite) (hq : s.sst.queue = [.indent i])
    (hs : s.spacing i.fields = .rejected) :
    s.choose =
      (({ s.headTaken [] with cyc.cue := .plan } : State).reported
        (s.sst.map ++ [Entry.unmade i.fields .rejectedSpacing .none s.now]) (.unmade i.fields .rejectedSpacing .none s.now)
        .rejectedSpacing .none) := by
  let v : State := { s with cyc.cue := .none }
  let w : State := (v.headTaken []).reported
    (s.sst.map ++ [Entry.unmade i.fields .rejectedSpacing .none s.now]) (.unmade i.fields .rejectedSpacing .none s.now)
    .rejectedSpacing .none
  have rejects : v.askSelection = (w, true) :=
    (State.askSelection_rejects (s := v) hq hs).trans
      (congrArg (·, true) (State.createUnmade_reported (s := v.headTaken []) hr _ _ _))
  have first : s.chooseOnce = (w, true) :=
    (State.chooseOnce_unbatched hb).trans ((State.chooseUnbatched_perSite (s := v) hu hw).trans rejects)
  have none_left : w.undelivered? = none := by
    have list : w.sst.measureList = s.sst.measureList := by
      simp [w, State.reported, Store.measureList, Entry.unmade]
    have delivered : w.cyc.delivered = s.cyc.delivered := rfl
    rw [State.undelivered?, list, delivered]
    exact hu
  have second : w.chooseOnce = ({ w with cyc.cue := .plan }, false) :=
    (State.chooseOnce_unbatched (s := w) hb).trans
      (State.chooseUnbatched_nothing (s := { w with cyc.cue := .none }) hb none_left rfl)
  have length : s.sst.queue.length + 2 = 2 + 1 := by rw [hq]; rfl
  rw [State.choose, length, State.chooseUpTo_again 2 first]
  exact State.chooseUpTo_stops 1 second

/-- Settles O59: each answer of the spacing check and what the choice does with it. -/
theorem spacingDecides : Obligations.SpacingDecides := by
  unfold Obligations.SpacingDecides
  intro dest tag s i rest hl ho hr hm hw hcur hb hslots hq hdef hd started
  have room : s.hasMessageRoom 1 := by
    simp only [State.hasMessageRoom] at hr ⊢
    omega
  have idle : ∀ (name : SlotName) (d : Delivery), started.mea.get name ≠ .ready d := by
    intro name d
    cases name
    · exact (hslots d).1
    · exact (hslots d).2
  have chooses : exec (.start dest [tag]) s = .next started.choose := by
    rw [exec_start_heard hl (.inl ho) room (.inl hm)]
    have starts : started.startComputations = started := State.startComputations_idle idle
    exact congrArg _ ((congrArg State.continueWork starts).trans (State.continueWork_running hcur rfl))
  have hu : started.undelivered? = none := State.undelivered_none hd
  refine ⟨fun hfull => ?_, fun e hmap hrest hact hclaim hneed hfrc => ?_⟩
  · exact chooses.trans (congrArg _ (State.choose_defers (s := started) hb hu hw hq hdef (State.spacing_full hfull)))
  intro f governing d conflict rejected
  have hcon : s.cfg.conflicts f e = true ↔ conflict := ConfigImage.conflicts_iff
  have answer := State.spacing_single (s := started) (f := f) hmap
  refine ⟨fun hn => ?_, fun hc ha => ?_, fun hc ha => ?_⟩
  · have proceeds : started.spacing f = .proceed := answer.trans (if_neg (hn ∘ hcon.mp))
    have busy : ({ started.headTaken [] with cyc.cue := .none } : State).atRest = false := by
      simp [State.atRest, State.headTaken, started, State.replied, hfrc]
    have taken := (State.choose_proceeds (s := started) hb hu hw (hrest ▸ hq) proceeds).trans
      (State.enterPhase_waits (.inl rfl) busy)
    refine (chooses.trans (congrArg _ taken)).trans ?_
    simp [State.headTaken, started, State.replied, hmap]
  · have waits : started.spacing f = .wait .spacingWait :=
      answer.trans ((if_pos (hcon.mpr hc)).trans (if_pos ha))
    exact chooses.trans (congrArg _ (State.choose_defers (s := started) hb hu hw hq hdef waits))
  · have rejects : started.spacing f = .rejected := answer.trans ((if_pos (hcon.mpr hc)).trans (if_neg ha))
    have room' : started.hasMessageRoom 1 := by
      simp only [State.hasMessageRoom] at hr ⊢
      simp [started, State.replied]
      omega
    have chosen := State.choose_rejectsLast (s := started) room' hb hu hw (hrest ▸ hq) rejects
    refine (chooses.trans (congrArg _ chosen)).trans ?_
    have map : started.sst.map = [e] := hmap
    rw [map]
    rfl

end Sys2Proof.Machine
end

section
/-!
PROOFS. What an abandonment writes, by the phase of the item, and how the item ends.
-/

-- One theorem after another: each one elaborated beside the others takes a thread with a stack of its own.
set_option Elab.async false

namespace Sys2Proof.Machine

/-! ### What is written, by phase (R10, R12, R15, R16) -/

theorem State.writeAbandoned_ending {s : State} {c : Current} (hc : s.cyc.current = some c) (hs : c.step = .ending) :
    s.writeAbandoned = s := by
  simp [State.writeAbandoned, hc, hs]

theorem State.writeAbandoned_toSite {s : State} {c : Current} {i : IndentItem} (hc : s.cyc.current = some c)
    (hs : c.step ≠ .ending) (hp : c.phase = .toSite) (hw : c.work = .indent i) :
    s.writeAbandoned = s.createUnmade i.fields .abortedBeforeContact .none := by
  simp [State.writeAbandoned, hc, hs, hp, hw]

theorem State.writeAbandoned_indent {s : State} {c : Current} {i : IndentItem} (hc : s.cyc.current = some c)
    (hs : c.step ≠ .ending) (hp : c.phase = .indent) (hw : c.work = .indent i) :
    s.writeAbandoned = s.writeIndentAbandoned i.fields := by
  simp [State.writeAbandoned, hc, hs, hp, hw]

theorem State.writeAbandoned_measure {s : State} {c : Current} (hc : s.cyc.current = some c) (hs : c.step ≠ .ending)
    (hp : c.phase = .toView ∨ c.phase = .image) : s.writeAbandoned = s.abandonMeasurement c.work := by
  rcases hp with hp | hp <;> simp [State.writeAbandoned, hc, hs, hp]

theorem State.writeIndentAbandoned_before {s : State} (f : SiteFields) (h : s.cyc.contactMark = none) :
    s.writeIndentAbandoned f = s.createUnmade f .abortedBeforeContact s.cyc.gatheredIndent := by
  simp [State.writeIndentAbandoned, h]

theorem State.writeIndentAbandoned_after {s : State} {mark : TickSource} (f : SiteFields) (h : s.cyc.contactMark = some mark) :
    s.writeIndentAbandoned f =
      s.finish f.site (.indentAbandoned (s.cyc.gatheredIndent.union s.dwellFlags) s.frc.holdMean) := by
  simp [State.writeIndentAbandoned, h]

/-- An item abandoned before contact, written where its SITE_DONE finds room (R10). -/
def State.unmadeAbandoned (s : State) (f : SiteFields) (flags : IndentFlags) : State :=
  s.reported (s.sst.map ++ [f.abandoned flags s.tbu.stationTime]) (f.abandoned flags s.tbu.stationTime) .abortedBeforeContact
    .none

theorem State.createUnmade_abandoned {s : State} (hr : s.hasMessageRoom 1) (f : SiteFields) (flags : IndentFlags) :
    s.createUnmade f .abortedBeforeContact flags = s.unmadeAbandoned f flags :=
  State.createUnmade_reported hr f _ flags

/-- An abandoned measurement, reported where its SITE_DONE finds room: the entry of a first measurement is rewritten, that of a
REMEASURE stays (R15, R16). -/
def State.measureAbandoned (s : State) (w : Work) (e : Entry) : State :=
  match w with
  | .remeasure _ => s.answered (.siteDone e .aborted measureAbortedAlone)
  | w => s.reported (s.mapWith w.site Entry.unmeasured) e.unmeasured .aborted measureAbortedAlone

theorem State.abandonMeasurement_reported {s : State} {w : Work} {e : Entry} (hr : s.hasMessageRoom 1)
    (he : s.sst.entry? w.site = some e) : s.abandonMeasurement w = s.measureAbandoned w e := by
  have rewritten : s.finish w.site Entry.measureAbandoned =
      s.reported (s.mapWith w.site Entry.unmeasured) e.unmeasured .aborted measureAbortedAlone :=
    State.finish_reported he hr
  cases w with
  | indent i => exact rewritten
  | listed site => exact rewritten
  | remeasure site =>
    have he' : s.sst.entry? site = some e := he
    simp only [State.abandonMeasurement, State.abandonRemeasure, he']
    exact State.send_room hr _

/-- What an abandoned measurement leaves as it was. -/
theorem State.measureAbandoned_rest (s : State) (w : Work) (e : Entry) :
    (s.measureAbandoned w e).cyc = s.cyc ∧ (s.measureAbandoned w e).fcu = s.fcu ∧ (s.measureAbandoned w e).mot = s.mot ∧
      (s.measureAbandoned w e).img = s.img ∧ (s.measureAbandoned w e).mea = s.mea ∧
      (s.measureAbandoned w e).sst.queue = s.sst.queue := by
  cases w <;> exact ⟨rfl, rfl, rfl, rfl, rfl, rfl⟩

/-! ### The end of an abandoned item -/

/-- RUNNING with no batch open, nothing queued and nothing undelivered. -/
def State.nothingLeft (s : State) : Prop :=
  s.cyc.mode = .running ∧ s.cyc.batch = none ∧ s.sst.queue = [] ∧ ∀ site ∈ s.sst.measureList, site ∈ s.cyc.delivered

theorem State.nothingLeft.undelivered {s : State} (h : s.nothingLeft) : s.undelivered? = none := by
  simpa [State.undelivered?] using h.2.2.2

/-- No entry waits for its measurement undelivered, read from the map. -/
theorem State.nothingLeft_of_map {s : State} (hm : s.cyc.mode = .running) (hb : s.cyc.batch = none) (hq : s.sst.queue = [])
    (hd : ∀ e ∈ s.sst.map, e.outcome = .awaitingMeasure → e.fields.site ∈ s.cyc.delivered) : s.nothingLeft := by
  refine ⟨hm, hb, hq, fun site hs => ?_⟩
  obtain ⟨e, he, rfl⟩ := List.mem_map.mp hs
  obtain ⟨hmem, ho⟩ := List.mem_filter.mp he
  exact hd e hmem (by simpa using ho)

/-- An item that ends with nothing left to do leaves the Cycle Controller waiting with cue PLAN (R35). -/
theorem State.endItem_nothing {s : State} (h : s.nothingLeft) :
    s.endItem = { s with cyc := { s.cyc.dropCurrent with cue := .plan } } := by
  have hu := h.undelivered
  obtain ⟨hm, hb, hq, _⟩ := h
  exact (State.continueWork_running (s := { s with cyc := s.cyc.dropCurrent }) rfl hm).trans (State.choose_nothing hb hu hq)

/-- The cycle record of an item that ended without a contact mark. -/
theorem Cyc.dropCurrent_unmarked {c : Cyc} (h : c.contactMark = none) (q : Cue) :
    ({ c.dropCurrent with cue := q } : Cyc) =
      { c with current := none, gatheredIndent := .none, gatheredMeasure := .none, bufferFull := false, cue := q } := by
  simp [Cyc.dropCurrent, ← h]

theorem Cyc.setStep_current {c : Cyc} {i : Current} (h : c.current = some i) (st : CycStep) :
    c.setStep st = { c with current := some { i with step := st } } := by
  simp [Cyc.setStep, h]

/-- The record a stop leaves: no sequence, settle or deadline, and what moved is being stopped (R105). -/
def Mot.stopped (m : Mot) : Mot :=
  { m with sequence := none, settleEnd := none, moveDeadline := none, stopping := m.moving }

theorem Mot.stop_stopped {m : Mot} (h : m.stopping = false) : m.stop = (m.stopped, !m.moving) := Mot.stop_free h

/-- A motion phase aborted under way waits in ENDING for the stop (R44). -/
theorem State.abortMotion_moving {s : State} {c : Current} (hs : s.mot.stopping = false) (hm : s.mot.moving = true)
    (hc : s.cyc.current = some c) :
    s.abortMotion = { s with mot := s.mot.stopped, cyc := { s.cyc with current := some { c with step := .ending } } } := by
  simp [State.abortMotion, Mot.stop_stopped hs, hm, Cyc.setStep_current hc]

/-- A motion phase aborted with nothing moving releases its claim and ends at once (R44, R61). -/
theorem State.abortMotion_still {s : State} {k : ClaimKind} (hs : s.mot.stopping = false) (hm : s.mot.moving = false)
    (hk : s.fcu.claim = .held k) (hn : s.fcu.need = none) (hl : s.nothingLeft) :
    s.abortMotion =
      { s with
        mot := s.mot.stopped
        fcu := { s.fcu with claim := .none, claimRefresh := none, collided := [] }
        fli := s.fli.released k
        cyc := { s.cyc.dropCurrent with cue := .plan } } := by
  have released := State.release_held (s := { s with mot := s.mot.stopped }) hk hn
  simp only [State.abortMotion, Mot.stop_stopped hs, hm, Bool.not_false, released]
  exact State.endItem_nothing hl

/-! ### ABORT_SITE -/

/-- ABORT_SITE at the current item of a station that hears it (R44, R166). -/
theorem exec_abortSite_heard {dest : BitVec 4} {tag : Byte} {s : State} {c : Current} (hl : s.live) (ho : s.own dest)
    (hr : s.hasMessageRoom 1) (hc : s.cyc.current = some c) :
    exec (.abortSite dest [tag]) s = .next (s.replied tag 0x17#8 .accepted).abortItem := by
  have code : s.abortCode = .accepted := if_neg (by simp [hc])
  rw [exec_abortSite, State.act_live hl.1, State.takeRequest_own hl ho (r := .abortSite) rfl]
  exact congrArg _ (State.answerThen_accepted hr code)

theorem State.abortItem_waiting {s : State} {c : Current} (hc : s.cyc.current = some c) (hs : c.step = .waiting) :
    s.abortItem = s.needCleared.writeAbandoned.endItem := by
  simp [State.abortItem, hc, hs, State.clearNeed_cleared]

/-- At a working item under its held claim there is no need to clear. -/
theorem State.abortItem_working {s : State} {c : Current} {k : ClaimKind} (hc : s.cyc.current = some c)
    (hs : c.step = .working) (hn : s.fcu.need = none) (hb : s.fcu.block = none) (hh : s.fcu.holdoff = .none)
    (hk : s.fcu.claim = .held k) : s.abortItem = s.abortWorking c.phase := by
  have idle : s.clearNeed = s := State.clearNeed_idle hn hb hh (by simp [hk])
  simp [State.abortItem, hc, hs, idle]

/-- A reply leaves room for one message fewer. -/
theorem State.replied_room {s : State} {n : Nat} (h : s.hasMessageRoom (n + 1)) (tag kind : Byte) (code : ReplyCode) :
    (s.replied tag kind code).hasMessageRoom n := by
  simp only [State.hasMessageRoom, State.replied, State.answered_fli_messages, List.length_append, List.length_singleton] at *
  omega

end Sys2Proof.Machine
end

section
/-!
PROOFS. ABORT_SITE before contact (O23) and after it (O24).
-/

-- One theorem after another: each one elaborated beside the others takes a thread with a stack of its own.
set_option Elab.async false

namespace Sys2Proof.Machine

/-- What a cleared need leaves as it was. -/
theorem State.needCleared_rest (s : State) :
    s.needCleared.cyc = s.cyc ∧ s.needCleared.sst = s.sst ∧ s.needCleared.tbu = s.tbu ∧
      s.needCleared.fli.messages = s.fli.messages := by
  rw [← State.clearNeed_cleared]
  obtain ⟨_, _, _, _, e, _⟩ := OnlyCoordination.clearNeed s
  rw [e]
  exact ⟨rfl, rfl, rfl, rfl⟩

/-- An INDENT item before its contact that is abandoned is written with the flags gathered (R10). -/
theorem State.writeAbandoned_before {s : State} {c : Current} {i : IndentItem} (hc : s.cyc.current = some c)
    (hs : c.step ≠ .ending) (hw : c.work = .indent i) (hp : c.phase = .toSite ∨ c.phase = .indent)
    (hm : s.cyc.contactMark = none) (hr : s.hasMessageRoom 1) :
    s.writeAbandoned = s.unmadeAbandoned i.fields (if c.phase = .indent then s.cyc.gatheredIndent else .none) := by
  rcases hp with hp | hp
  · have toSite : c.phase ≠ .indent := by simp [hp]
    rw [State.writeAbandoned_toSite hc hs hp hw, State.createUnmade_abandoned hr, if_neg toSite]
  · rw [State.writeAbandoned_indent hc hs hp hw, State.writeIndentAbandoned_before _ hm, State.createUnmade_abandoned hr,
      if_pos hp]

/-- An entry abandoned before contact is not on the measure list, so that nothing more is left to do. -/
theorem State.nothingLeft.unmadeAbandoned {s : State} (h : s.nothingLeft) (f : SiteFields) (flags : IndentFlags) :
    (s.unmadeAbandoned f flags).nothingLeft := by
  obtain ⟨hm, hb, hq, hl⟩ := h
  refine ⟨hm, hb, hq, ?_⟩
  have list : (s.unmadeAbandoned f flags).sst.measureList = s.sst.measureList := by
    simp [State.unmadeAbandoned, State.reported, Store.measureList, SiteFields.abandoned]
  rw [list]
  exact hl

/-- A force cycle before contact is aborted to RETRACT, with nothing to report (R125). -/
theorem Frc.stopForAbort_before {f : Frc} (c : ConfigImage) (now : Time) (h : f.state.beforeContact = true) :
    f.stopForAbort c now = (f.enterRetract now, []) := by
  unfold Frc.stopForAbort
  revert h
  cases f.state <;> simp [ForceState.beforeContact]

theorem Frc.firstDrive_eq (f : Frc) :
    f.firstDrive = match f.stroke with | none => .homeDrive | some z => if z = 0 then .freeTest else .running := by
  unfold Frc.firstDrive
  cases f.stroke with
  | none => rfl
  | some z => cases z <;> rfl

/-- RETRACT as the architect words its record (R124, R125). -/
theorem Frc.enterRetract_eq (f : Frc) (now : Time) :
    f.enterRetract now =
      { f with
        state := .retract, setPoint := 0, pairs := 0, testCurrent := false
        drive := match f.stroke with | none => .homeDrive | some z => if z = 0 then .freeTest else .running
        deadline := some { setAt := now, interval := 2000 } } := by
  rw [Frc.enterRetract, Frc.firstDrive_eq]

/-- Settles O23: what ABORT_SITE writes and stops before contact, by the item's step and phase. -/
theorem abortBeforeContact : Obligations.AbortBeforeContact := by
  unfold Obligations.AbortBeforeContact
  intro dest tag s c hl ho hc
  have left : ∀ u : State, u.cyc = s.cyc → u.sst = s.sst → s.cyc.mode = .running → s.cyc.batch = none →
      s.sst.queue = [] → (∀ e ∈ s.sst.map, e.outcome = .awaitingMeasure → e.fields.site ∈ s.cyc.delivered) →
      u.nothingLeft := by
    intro u hu hs hm hb hq hd
    exact State.nothingLeft_of_map (hu ▸ hm) (hu ▸ hb) (hs ▸ hq) (by rw [hu, hs]; exact hd)
  refine ⟨fun hr hs => ?_, fun i hr hs hw hp hmark hclaim hmode hb hq hd => ?_, fun i hr hs hw hmark hn hh hblock => ?_⟩
  · have stays : (s.replied tag 0x17#8 .accepted).abortItem = s.replied tag 0x17#8 .accepted := by
      simp [State.abortItem, State.replied, hc, hs]
    rw [exec_abortSite_heard hl ho hr hc, stays]
  · intro e
    have aborts := exec_abortSite_heard (tag := tag) hl ho (by simp only [State.hasMessageRoom] at *; omega) hc
    obtain ⟨hcyc, hsst, htbu, hmsg⟩ := (s.replied tag 0x17#8 .accepted).needCleared_rest
    rw [State.abortItem_waiting (s := s.replied tag 0x17#8 .accepted) hc hs] at aborts
    generalize (s.replied tag 0x17#8 .accepted).needCleared = u at aborts hcyc hsst htbu hmsg ⊢
    have hcyc' : u.cyc = s.cyc := hcyc
    have hsst' : u.sst = s.sst := hsst
    have htbu' : u.tbu = s.tbu := htbu
    have room : u.hasMessageRoom 1 := by
      have := State.replied_room hr tag 0x17#8 .accepted
      simpa only [State.hasMessageRoom, hmsg] using this
    have written := State.writeAbandoned_before (s := u) (hcyc' ▸ hc) (by simp [hs]) hw hp (hcyc' ▸ hmark) room
    have ended := State.endItem_nothing ((left u hcyc' hsst' hmode hb hq hd).unmadeAbandoned i.fields
      (if c.phase = .indent then u.cyc.gatheredIndent else .none))
    rw [written, ended] at aborts
    have mark : (u.unmadeAbandoned i.fields (if c.phase = .indent then u.cyc.gatheredIndent else .none)).cyc.contactMark = none :=
      hcyc' ▸ hmark
    rw [aborts, Cyc.dropCurrent_unmarked mark]
    simp only [State.unmadeAbandoned, State.reported, hsst', htbu', hcyc']
    rfl
  · intro written stopped
    have room : (s.replied tag 0x17#8 .accepted).hasMessageRoom 1 := State.replied_room hr tag 0x17#8 .accepted
    have aborts : ∀ k, s.fcu.claim = .held k →
        exec (.abortSite dest [tag]) s = .next ((s.replied tag 0x17#8 .accepted).abortWorking c.phase) := by
      intro k hk
      rw [exec_abortSite_heard hl ho (by simp only [State.hasMessageRoom] at *; omega) hc]
      exact congrArg _ (State.abortItem_working (s := s.replied tag 0x17#8 .accepted) hc hs hn hblock hh hk)
    refine ⟨fun hp hk hstop => ?_, fun hp hk hfrc => ?_⟩
    · have toSite : c.phase ≠ .indent := by simp [hp]
      have wrote := State.writeAbandoned_before (s := s.replied tag 0x17#8 .accepted) hc (by simp [hs]) hw (.inl hp) hmark
        room
      rw [if_neg toSite] at wrote
      have aborted : (s.replied tag 0x17#8 .accepted).abortWorking c.phase =
          ((s.replied tag 0x17#8 .accepted).unmadeAbandoned i.fields .none).abortMotion := by
        rw [hp]
        exact congrArg State.abortMotion wrote
      intro e
      refine ⟨fun hmove => ?_, fun hmove hmode hb hq hd => ?_⟩
      · exact (aborts _ hk).trans (congrArg _ (aborted.trans (State.abortMotion_moving hstop hmove hc)))
      · have nothing := (left (s.replied tag 0x17#8 .accepted) rfl rfl hmode hb hq hd).unmadeAbandoned i.fields .none
        have ends := State.abortMotion_still (s := (s.replied tag 0x17#8 .accepted).unmadeAbandoned i.fields .none) hstop
          hmove hk hn nothing
        rw [Cyc.dropCurrent_unmarked
          (c := ((s.replied tag 0x17#8 .accepted).unmadeAbandoned i.fields .none).cyc) hmark] at ends
        exact (aborts _ hk).trans (congrArg _ (aborted.trans ends))
    · let u : State := { s.replied tag 0x17#8 .accepted with frc := s.frc.enterRetract s.tbu.stationTime }
      have withdraws : (s.replied tag 0x17#8 .accepted).withForceStop
          (s.frc.stopForAbort s.cfg s.tbu.stationTime) = u := by
        rw [Frc.stopForAbort_before s.cfg s.tbu.stationTime hfrc]
        rfl
      have wrote := State.writeAbandoned_before (s := u) hc (by simp [hs]) hw (.inr hp) hmark room
      rw [if_pos hp] at wrote
      have aborted : (s.replied tag 0x17#8 .accepted).abortWorking c.phase =
          { u.writeAbandoned with cyc := u.writeAbandoned.cyc.setStep .ending } := by
        rw [hp]
        exact congrArg (fun v : State => { v.writeAbandoned with cyc := v.writeAbandoned.cyc.setStep .ending }) withdraws
      rw [wrote, Cyc.setStep_current (c := (u.unmadeAbandoned i.fields u.cyc.gatheredIndent).cyc) hc] at aborted
      refine (aborts _ hk).trans (congrArg _ (aborted.trans ?_))
      simp only [u, Frc.enterRetract_eq]
      rfl

/-! ### After contact -/

/-- With two tick sources, marks that change hold an INTERNAL one, or are opened by one (R134). -/
theorem marksChange_internal (marks : List TickSource) (opening : TickSource) (h : marks.contains .internal = false) :
    marksChange (marks ++ [opening]) = (!marks.isEmpty && opening == .internal) := by
  induction marks with
  | nil => rfl
  | cons a rest ih =>
    have ha : a = .reference := by
      cases a
      · simp at h
      · rfl
    have hrest : rest.contains .internal = false := by simpa [ha] using h
    subst ha
    cases rest with
    | nil => cases opening <;> rfl
    | cons b more =>
      have hb : b = .reference := by
        cases b
        · simp at hrest
        · rfl
      have step : marksChange (.reference :: (b :: more ++ [opening])) = marksChange (b :: more ++ [opening]) := by
        rw [hb]
        rfl
      exact step.trans (ih hrest)

/-- A hold is untraceable where its opening mark or a hold tick's is INTERNAL (R134). -/
theorem HoldSource.untraceable_eq (h : HoldSource) : h.untraceable = (h.opening :: h.marks).contains .internal := by
  unfold HoldSource.untraceable
  cases hm : h.marks.contains .internal with
  | true =>
    have hmem : TickSource.internal ∈ h.marks := by simpa using hm
    simp [hmem]
  | false =>
    have hmem : TickSource.internal ∉ h.marks := by simpa using hm
    rw [marksChange_internal _ _ hm]
    cases h.marks.isEmpty <;> cases h.opening <;> simp [hmem]

/-- A stop gathers the results of a hold that it cuts, as the architect words them (R120, R134). -/
theorem State.gatherAll_cutHold (s : State) :
    s.cyc.gatherAll (s.frc.cutHold s.cfg) = { s.cyc with gatheredIndent := s.flagsAtStop } := by
  unfold Frc.cutHold State.flagsAtStop
  by_cases hs : s.frc.state = .hold
  · rw [if_pos hs, if_pos hs]
    have tolerance : (match s.frc.cycle with
        | some k => outsideTolerance s.cfg.tolerancePermille k.force s.frc.holdMean
        | none => false) =
        s.frc.cycle.any fun k => s.frc.holdSamples != 0 &&
          decide (s.cfg.tolerancePermille * k.force
            < ((((s.frc.holdSum + (s.frc.holdSamples / 2 : Nat)) / (s.frc.holdSamples : Int)).toNat : Int) - k.force).natAbs
              * 1000) := by
      cases s.frc.cycle with
      | none => rfl
      | some k => by_cases hn : s.frc.holdSamples = 0 <;> simp [Frc.holdMean, outsideTolerance, hn]
    have source : (match s.frc.holdSource with | some h => h.untraceable | none => false) =
        s.frc.holdSource.any fun h => (h.opening :: h.marks).contains .internal := by
      cases s.frc.holdSource with
      | none => rfl
      | some h => exact h.untraceable_eq
    rw [← tolerance, ← source]
    rfl
  · rw [if_neg hs, if_neg hs]
    rfl

theorem IndentFlags.union_dwell (g : IndentFlags) (d : Bool) :
    g.union { IndentFlags.none with dwellUntraceable := d } = { g with dwellUntraceable := g.dwellUntraceable || d } := by
  simp [IndentFlags.union, IndentFlags.none]

/-- DWELL_UNTRACEABLE of an impression that met INTERNAL and no hold (R134). -/
theorem State.dwellFlags_eq {s : State} {mark : TickSource} (hm : s.cyc.contactMark = some mark) :
    s.dwellFlags = { IndentFlags.none with dwellUntraceable := s.frc.holdSource.isNone && mark == .internal } := by
  simp only [State.dwellFlags, hm]
  cases mark <;> rfl

/-- An entry abandoned after contact, with the flags gathered and the results of the hold as they stand (R12, R134). -/
def State.impressionAbandoned (s : State) (mark : TickSource) (e : Entry) : Entry :=
  { e with
    outcome := .aborted
    meanForce := s.frc.holdMean
    indentFlags := e.indentFlags.union
      { s.cyc.gatheredIndent with
        dwellUntraceable := s.cyc.gatheredIndent.dwellUntraceable || (s.frc.holdSource.isNone && mark == .internal)
        indentAborted := true } }

theorem State.impressionAbandoned_eq {s : State} {mark : TickSource} (hm : s.cyc.contactMark = some mark) :
    Entry.indentAbandoned (s.cyc.gatheredIndent.union s.dwellFlags) s.frc.holdMean = s.impressionAbandoned mark := by
  funext e
  rw [State.dwellFlags_eq hm, IndentFlags.union_dwell]
  rfl

/-- After contact the entry of an abandoned item is rewritten with the flags gathered and the mean (R12). -/
theorem State.writeAbandoned_after {s : State} {c : Current} {i : IndentItem} {mark : TickSource} {e : Entry}
    (hc : s.cyc.current = some c) (hs : c.step ≠ .ending) (hw : c.work = .indent i) (hp : c.phase = .indent)
    (hm : s.cyc.contactMark = some mark) (he : s.sst.entry? i.fields.site = some e) (hr : s.hasMessageRoom 1) :
    s.writeAbandoned =
      s.reported (s.mapWith i.fields.site (s.impressionAbandoned mark)) (s.impressionAbandoned mark e) .aborted
        e.measureFlags := by
  rw [State.writeAbandoned_indent hc hs hp hw, State.writeIndentAbandoned_after _ hm, State.impressionAbandoned_eq hm]
  exact State.finish_reported he hr

/-- What a stop leaves to be written is what the architect words from the state before it (R120). -/
theorem State.impressionAbandoned_atStop {s t : State} (hg : t.cyc.gatheredIndent = s.flagsAtStop)
    (hmean : t.frc.holdMean = s.frc.holdMean) (hsource : t.frc.holdSource = s.frc.holdSource) (mark : TickSource) :
    t.impressionAbandoned mark = s.abandonedAtStop mark := by
  funext e
  simp only [State.impressionAbandoned, hg, hmean, hsource]
  rfl

theorem Frc.stopForAbort_after {f : Frc} (c : ConfigImage) (now : Time)
    (h : f.state = .load ∨ f.state = .hold ∨ f.state = .unload) :
    f.stopForAbort c now = (f.enterFastUnload now, f.cutHold c) := by
  rcases h with h | h | h <;> simp [Frc.stopForAbort, h]

theorem Frc.stopForAbort_withdrawing {f : Frc} (c : ConfigImage) (now : Time)
    (h : f.state = .fastUnload ∨ f.state = .retract) : f.stopForAbort c now = (f, f.cutHold c) := by
  rcases h with h | h <;> simp [Frc.stopForAbort, Frc.cutHold, h]

/-- A WORKING INDENT aborted after contact: its entry is written with the flags at the stop, and it is ENDING (R44). -/
theorem State.abortWorking_after {s : State} {i : IndentItem} {mark : TickSource} {e : Entry} {frc : Frc}
    (hc : s.cyc.current = some { work := .indent i, phase := .indent, step := .working })
    (hm : s.cyc.contactMark = some mark) (he : s.sst.entry? i.fields.site = some e) (hr : s.hasMessageRoom 1)
    (hf : s.frc.stopForAbort s.cfg s.now = (frc, s.frc.cutHold s.cfg)) (hmean : frc.holdMean = s.frc.holdMean)
    (hsource : frc.holdSource = s.frc.holdSource) :
    s.abortWorking .indent =
      ({ s with
        frc := frc
        cyc.gatheredIndent := s.flagsAtStop
        cyc.current := some { work := .indent i, phase := .indent, step := .ending } } : State).reported
        (s.mapWith i.fields.site (s.abandonedAtStop mark)) (s.abandonedAtStop mark e) .aborted e.measureFlags := by
  let t : State := { s with frc := frc, cyc.gatheredIndent := s.flagsAtStop }
  have stops : s.withForceStop (s.frc.stopForAbort s.cfg s.now) = t := by
    rw [hf, State.withForceStop, State.gatherAll_cutHold]
  have writes := State.writeAbandoned_after (s := t) hc (by simp) rfl rfl hm he hr
  rw [State.impressionAbandoned_atStop (s := s) (t := t) rfl hmean hsource] at writes
  have aborts : s.abortWorking .indent = { t.writeAbandoned with cyc := t.writeAbandoned.cyc.setStep .ending } :=
    congrArg (fun v : State => { v.writeAbandoned with cyc := v.writeAbandoned.cyc.setStep .ending }) stops
  rw [aborts, writes, Cyc.setStep_current (i := { work := .indent i, phase := .indent, step := .working })]
  · rfl
  · exact hc

/-! ### TO_VIEW and IMAGE -/

/-- The record of the Image Unit after an abandonment, in a state (R148). -/
def Img.abandonedTo (i : Img) (state : ImageState) : Img :=
  { i with state := state, stage := .none, reserved := none, settleEnd := none, frameWaitEnd := none, illumination := 0 }

/-- An abandoned IMAGE work frees its FILLING slot (R148). -/
theorem State.abandonImage_filling {s : State} {name : SlotName} {site : Nat} (hw : s.img.state.working = true)
    (hr : s.img.reserved = some name) (hm : s.mea.get name = .filling site) :
    s.abandonImage =
      { s with
        mea := s.mea.set name .free
        img := s.img.abandonedTo (if s.img.state = .step ∧ s.mot.stepping then .ending else .idle) } := by
  have busy : ¬(s.img.state = .idle ∨ s.img.state = .ending) := by
    revert hw
    cases s.img.state <;> simp [ImageState.working]
  have frees : s.freeReserved = { s with mea := s.mea.set name .free } := by simp [State.freeReserved, hr, hm]
  rw [State.abandonImage, if_neg busy, frees]
  rfl

/-- An IMAGE aborted with no fine step under way releases QUIET and ends at once (R44, R148). -/
theorem State.abortImage_still {s : State} {name : SlotName} {site : Nat} {k : ClaimKind} (hi : s.img.state.working = true)
    (hz : ¬(s.img.state = .step ∧ s.mot.stepping = true)) (hr : s.img.reserved = some name)
    (hm : s.mea.get name = .filling site) (hs : s.mot.stopping = false) (hk : s.fcu.claim = .held k)
    (hn : s.fcu.need = none) (hl : s.nothingLeft) :
    s.abortImage =
      { s with
        mea := s.mea.set name .free
        img := s.img.abandonedTo .idle
        mot := s.mot.stopped
        fcu := { s.fcu with claim := .none, claimRefresh := none, collided := [] }
        fli := s.fli.released k
        cyc := { s.cyc.dropCurrent with cue := .plan } } := by
  let t : State := { s with mea := s.mea.set name .free, img := s.img.abandonedTo .idle, mot := s.mot.stopped }
  have abandons : ({ s.abandonImage with mot := s.mot.stop.1 } : State) = t := by
    rw [State.abandonImage_filling hi hr hm, if_neg hz, Mot.stop_stopped hs]
  have released := State.release_held (s := t) hk hn
  have ends : t.endImageAbort = t.release.endItem := if_pos rfl
  rw [State.abortImage, abandons, ends, released]
  exact State.endItem_nothing hl

/-- An IMAGE aborted with a fine step under way waits in ENDING for its rest (R44, R148). -/
theorem State.abortImage_stepping {s : State} {name : SlotName} {site z : Nat} {c : Current} (hi : s.img.state = .step)
    (hz : s.mot.zActivity = .fine z) (hr : s.img.reserved = some name) (hm : s.mea.get name = .filling site)
    (hs : s.mot.stopping = false) (hc : s.cyc.current = some c) :
    s.abortImage =
      { s with
        mea := s.mea.set name .free
        img := s.img.abandonedTo .ending
        mot := s.mot.stopped
        cyc := { s.cyc with current := some { c with step := .ending } } } := by
  have stepping : s.img.state = .step ∧ s.mot.stepping = true := ⟨hi, by simp [Mot.stepping, hz]⟩
  let t : State := { s with mea := s.mea.set name .free, img := s.img.abandonedTo .ending, mot := s.mot.stopped }
  have abandons : ({ s.abandonImage with mot := s.mot.stop.1 } : State) = t := by
    rw [State.abandonImage_filling (by simp [hi, ImageState.working]) hr hm, if_pos stepping, Mot.stop_stopped hs]
  have waits : t.endImageAbort = { t with cyc := t.cyc.setStep .ending } := if_neg (by simp [t, Img.abandonedTo])
  rw [State.abortImage, abandons, waits, Cyc.setStep_current (c := t.cyc) hc]

/-- Settles O24: what ABORT_SITE writes and stops after contact, in TO_VIEW and in IMAGE. -/
theorem abortAfterContact : Obligations.AbortAfterContact := by
  unfold Obligations.AbortAfterContact
  refine ⟨fun dest tag s i mark e hl ho hr hc hm he hn hk hh hb => ?_, fun dest tag s c e hl ho hr hc hp he hs => ?_⟩
  · intro written aborts
    have room : (s.replied tag 0x17#8 .accepted).hasMessageRoom 1 := State.replied_room hr tag 0x17#8 .accepted
    have begins : exec (.abortSite dest [tag]) s = .next ((s.replied tag 0x17#8 .accepted).abortWorking .indent) := by
      rw [exec_abortSite_heard hl ho (by simp only [State.hasMessageRoom] at *; omega) hc]
      exact congrArg _ (State.abortItem_working (s := s.replied tag 0x17#8 .accepted) hc rfl hn hb hh hk)
    have writes : ∀ frc : Frc, s.frc.stopForAbort s.cfg s.now = (frc, s.frc.cutHold s.cfg) →
        frc.holdMean = s.frc.holdMean → frc.holdSource = s.frc.holdSource → aborts frc := fun frc hf hmean hsource =>
      begins.trans (congrArg _ (State.abortWorking_after (s := s.replied tag 0x17#8 .accepted) hc hm he room hf hmean hsource))
    exact ⟨fun h => writes _ (Frc.stopForAbort_after s.cfg s.now h) rfl rfl,
      fun h => writes _ (Frc.stopForAbort_withdrawing s.cfg s.now h) rfl rfl⟩
  · intro reply abortedFrom aborted ending ended stopped left
    have from_eq : ∀ u : State, u.sst = s.sst → u.measureAbandoned c.work e = abortedFrom u := by
      intro u hu
      simp only [abortedFrom, State.measureAbandoned, State.reported, State.mapWith, hu]
      cases c.work <;> rfl
    have room : reply.hasMessageRoom 1 := State.replied_room hr tag 0x17#8 .accepted
    have begins := exec_abortSite_heard (tag := tag) hl ho (by simp only [State.hasMessageRoom] at *; omega) hc
    have writes : ∀ u : State, u.cyc = s.cyc → u.sst = s.sst → u.hasMessageRoom 1 → c.step ≠ .ending →
        u.writeAbandoned = abortedFrom u := by
      intro u hcyc hsst hroom hstep
      rw [State.writeAbandoned_measure (hcyc ▸ hc) hstep hp, State.abandonMeasurement_reported hroom (hsst ▸ he)]
      exact from_eq u hsst
    have rest : ∀ u : State, u.sst = s.sst → (abortedFrom u).cyc = u.cyc ∧ (abortedFrom u).fcu = u.fcu ∧
        (abortedFrom u).mot = u.mot ∧ (abortedFrom u).img = u.img ∧ (abortedFrom u).mea = u.mea ∧
        (abortedFrom u).sst.queue = s.sst.queue := by
      intro u hu
      rw [← from_eq u hu, ← hu]
      exact u.measureAbandoned_rest c.work e
    obtain ⟨acyc, afcu, amot, aimg, amea, aqueue⟩ : aborted.cyc = s.cyc ∧ aborted.fcu = s.fcu ∧ aborted.mot = s.mot ∧
      aborted.img = s.img ∧ aborted.mea = s.mea ∧ aborted.sst.queue = s.sst.queue := rest reply rfl
    have nothing : left → aborted.nothingLeft := by
      rintro ⟨hmode, hbatch, hq, hd⟩
      refine ⟨acyc ▸ hmode, acyc ▸ hbatch, aqueue.trans hq, ?_⟩
      rw [acyc]
      exact hd
    have atWork : ∀ {k : ClaimKind} {f : State → State}, c.step = .working → s.fcu.need = none → s.fcu.holdoff = .none →
        s.fcu.block = none → s.fcu.claim = .held k → reply.abortWorking c.phase = f reply.writeAbandoned →
        exec (.abortSite dest [tag]) s = .next (f aborted) := by
      intro k f hstep hn hh hb hk hf
      have wrote := writes reply rfl rfl room (by simp [hstep])
      rw [begins, State.abortItem_working (s := reply) hc hstep hn hb hh hk, hf, wrote]
    refine ⟨fun hstep hclaim hleft => ?_, fun hstep hn hh hb => ⟨fun hp' hk hmove => ?_, fun hp' hk hmove hleft => ?_,
      fun name site hp' hk hres hmea => ?_⟩⟩
    · obtain ⟨hcyc, hsst, -, hmsg⟩ := reply.needCleared_rest
      have room' : reply.needCleared.hasMessageRoom 1 := by simpa only [State.hasMessageRoom, hmsg] using room
      have wrote := writes reply.needCleared hcyc hsst room' (by simp [hstep])
      have rcyc := (rest reply.needCleared hsst).1
      have list : (abortedFrom reply.needCleared).sst = aborted.sst := by
        simp only [aborted, abortedFrom, State.answered]
        cases c.work <;> simp [hsst]
      have empty : (abortedFrom reply.needCleared).nothingLeft := by
        obtain ⟨hmode, hbatch, hq, hd⟩ := nothing hleft
        have hcyc' := (rcyc.trans hcyc).trans acyc.symm
        refine ⟨hcyc' ▸ hmode, hcyc' ▸ hbatch, list ▸ hq, ?_⟩
        rw [list, hcyc']
        exact hd
      rw [begins, State.abortItem_waiting (s := reply) hc hstep, wrote, State.endItem_nothing empty, rcyc, hcyc]
      rfl
    · have moving := State.abortMotion_moving (s := aborted) (amot ▸ hs) (amot ▸ hmove) (acyc ▸ hc)
      rw [acyc, amot] at moving
      exact (atWork hstep hn hh hb hk (f := State.abortMotion) (by rw [hp']; rfl)).trans (congrArg _ moving)
    · have still := State.abortMotion_still (s := aborted) (amot ▸ hs) (amot ▸ hmove) (afcu ▸ hk) (afcu ▸ hn) (nothing hleft)
      rw [acyc, amot, afcu] at still
      exact (atWork hstep hn hh hb hk (f := State.abortMotion) (by rw [hp']; rfl)).trans (congrArg _ still)
    · have image := atWork hstep hn hh hb hk (f := State.abortImage) (by rw [hp']; rfl)
      intro resting
      refine ⟨fun hi hleft => image.trans (congrArg _ ?_), fun z hi hz => image.trans (congrArg _ ?_)⟩
      · have working : aborted.img.state.working = true := by
          rw [aimg]
          rcases hi with hi | hi <;> simp [hi, ImageState.working]
        have noStep : ¬(aborted.img.state = .step ∧ aborted.mot.stepping = true) := by
          rw [aimg]
          rcases hi with hi | hi <;> simp [hi]
        have still := State.abortImage_still working noStep (aimg ▸ hres) (amea ▸ hmea) (amot ▸ hs) (afcu ▸ hk) (afcu ▸ hn)
          (nothing hleft)
        rw [acyc, amot, afcu, aimg, amea] at still
        exact still
      · have stepping := State.abortImage_stepping (s := aborted) (aimg ▸ hi) (amot ▸ hz) (aimg ▸ hres) (amea ▸ hmea)
          (amot ▸ hs) (acyc ▸ hc)
        rw [acyc, amot, aimg, amea] at stepping
        exact stepping

end Sys2Proof.Machine
end

section
/-!
PROOFS. RESTART pends until its reply has left, and then resets the station (O25).
-/

-- One theorem after another: each one elaborated beside the others takes a thread with a stack of its own.
set_option Elab.async false

namespace Sys2Proof.Machine

/-- What a stop leaves of the axes (R105). -/
theorem Mot.stop_axes (m : Mot) :
    m.stop.1.turret = m.turret ∧ m.stop.1.carriageHomed = m.carriageHomed ∧ m.stop.1.zHomed = m.zHomed ∧
      m.stop.1.x = m.x ∧ m.stop.1.y = m.y ∧ m.stop.1.z = m.z := by
  unfold Mot.stop
  split <;> exact ⟨rfl, rfl, rfl, rfl, rfl, rfl⟩

/-- What a stop ends where none is under way (R105). -/
theorem Mot.stop_ends {m : Mot} (h : m.stopping = false) :
    m.stop.1.sequence = none ∧ m.stop.1.settleEnd = none ∧ m.stop.1.moveDeadline = none ∧ m.stop.1.stopping = m.moving := by
  rw [Mot.stop_stopped h]
  exact ⟨rfl, rfl, rfl, rfl⟩

/-- An emptied view: no claim and no holdoff, and no peer was heard (R62). -/
theorem emptied_clear (view : List ViewEntry) :
    ∀ v ∈ emptied view, v.claim = none ∧ v.holdoff = none ∧ v.lastHeard = none := by
  intro v hv
  obtain ⟨w, _, rfl⟩ := List.mem_map.mp hv
  exact ⟨rfl, rfl, rfl⟩

/-- The state in which an own frame with the restart reply has completed (R78, R82). -/
theorem State.ownCompleted_restart {s : State} {m : Message} {stale : Bool}
    (h : s.fli.transmitter = some { frame := .message { message := m, restart := true }, stale := stale, unreported := false }) :
    ∃ fli : Fli, s.ownCompleted = ({ s with fli := fli } : State).takeRestart ∧ fli.rank = s.fli.rank ∧
      fli.stopDrive = s.fli.stopDrive ∧ fli.transmitter = none := by
  refine ⟨{ s.fli.frameEnded ((OutFrame.message { message := m, restart := true }).frame s.fli.rank).line with
    transmitter := none }, ?_, rfl, rfl, rfl⟩
  simp [State.ownCompleted, h, State.reportCompleted]

/-- An error of the restart reply lets the restart take effect behind the doubt (R82, R169). -/
theorem State.ownFailed_restart {s : State} {m : Message} {stale : Bool}
    (h : s.fli.transmitter = some { frame := .message { message := m, restart := true }, stale := stale, unreported := false }) :
    ∃ (fcu : Fcu) (fli : Fli) (evc : List Counter),
      s.ownFailed = ({ s with fcu := fcu, fli := fli, evc := evc } : State).takeRestart ∧ fli.rank = s.fli.rank ∧
        fli.stopDrive = s.fli.stopDrive ∧ fli.engine = .sync ∧ fli.transmitter = none := by
  have fails : s.ownFailed =
      (State.beginDoubt { s with fli := { s.fli with transmitter := none, engine := .sync } }).takeRestart := by
    simp [State.ownFailed, h, State.reportFailed]
  obtain ⟨fcu, notices, transmitter, evc, he, hnone⟩ :=
    OnlyCoordination.beginDoubt { s with fli := { s.fli with transmitter := none, engine := .sync } }
  rw [he] at fails
  exact ⟨fcu, { s.fli with engine := .sync, notices := notices, transmitter := transmitter }, evc, fails, rfl, rfl, rfl,
    hnone rfl⟩

/-- RESTART outside START at a station whose rank it is (R169). -/
theorem exec_restart_heard {dest : BitVec 4} {tag : Byte} {s : State} (hl : s.live) (ho : s.own dest)
    (hm : s.cyc.mode ≠ .start) : exec (.restart dest [tag]) s = .next (s.acceptRestart tag 0x18#8) := by
  have code : s.restartCode = .accepted := if_neg hm
  rw [exec_restart, State.act_live hl.1, State.takeRequest_own hl ho (r := .restart) rfl]
  exact congrArg _ (if_pos code)

/-- Settles O25: the reply is marked, and each of its three ends lets the restart take effect. -/
theorem restartPendsThenActs : Obligations.RestartPendsThenActs := by
  unfold Obligations.RestartPendsThenActs
  intro restarted
  have restarts : ∀ (s : State) (fcu : Fcu) (fli : Fli) (evc : List Counter), fli.rank = s.fli.rank →
      fli.stopDrive = s.fli.stopDrive →
      restarted s ({ s with fcu := fcu, fli := fli, evc := evc } : State).takeRestart := by
    intro s fcu fli evc hrank hstop
    obtain ⟨hturret, hcarriage, hz, hx, hy, hzz⟩ := s.mot.stop_axes
    have hview : ∀ v ∈ emptied fcu.view, v.claim = none ∧ v.holdoff = none := fun v hv =>
      ⟨(emptied_clear _ v hv).1, (emptied_clear _ v hv).2.1⟩
    refine ⟨rfl, rfl, rfl, rfl, rfl, rfl, rfl, rfl, rfl, rfl, rfl, rfl, rfl, rfl, rfl, rfl, rfl, rfl, rfl, rfl, rfl, rfl, rfl,
      rfl, rfl, rfl, rfl, hview, hrank, rfl, rfl, rfl, hstop, Mot.stop_ends, hturret, hcarriage, hz, hx, hy, hzz, ?_⟩
    repeat' constructor
  refine ⟨fun dest tag s hl ho hm hp => ⟨fun hr => ?_, fun hf => ?_⟩, fun s m stale c hheld ht hc => ?_⟩
  · have notFull : s.messageQueueFull = false := by
      simp only [State.hasMessageRoom] at hr
      simp only [State.messageQueueFull, decide_eq_false_iff_not]
      omega
    rw [exec_restart_heard hl ho hm]
    have room : ({ s with restartPending := true } : State).messageQueueFull = false := notFull
    simp [State.acceptRestart, hp, notFull, State.queueMessage, room]
  · have full : s.messageQueueFull = true := decide_eq_true hf
    have drops : s.acceptRestart tag 0x18#8 = (({ s with fli.txOverflow := true } : State).linkError 5).takeRestart := by
      have reply := State.send_full hf (.reply tag 0x18#8 .accepted)
      simp only [State.acceptRestart, hp, full, if_true, State.reply, reply]
      rfl
    exact ⟨_, (exec_restart_heard hl ho hm).trans (congrArg _ drops), restarts s _ _ _ rfl rfl, rfl, rfl⟩
  · rcases hc with rfl | ⟨since, rfl⟩
    · obtain ⟨fli, he, hrank, hstop, hnone⟩ := State.ownCompleted_restart ht
      refine ⟨_, ?_, restarts s s.fcu fli s.evc hrank hstop, ?_⟩
      · rw [exec_ownFrameCompleted, State.act_live hheld, he]
      · simp [State.takeRestart, Fli.restarted, hnone]
    · let u : State := { s with fli := s.fli.dominantAfter since }
      have sent : u.fli.transmitter = some
          { frame := .message { message := m, restart := true }, stale := stale, unreported := false } :=
        (Fli.dominantAfter_transmitter _ _).trans ht
      have fails : s.ownMismatched since = u.ownFailed := if_pos (by simp [ht])
      obtain ⟨fcu, fli, evc, he, hrank, hstop, -, hnone⟩ := State.ownFailed_restart sent
      have rank : fli.rank = s.fli.rank := hrank.trans (Fli.dominantAfter_rank _ _)
      have stop : fli.stopDrive = s.fli.stopDrive := hstop.trans (Fli.dominantAfter_stopDrive _ _)
      refine ⟨_, ?_, restarts s fcu fli evc rank stop, ?_⟩
      · rw [exec_ownFrameError, State.act_live hheld, fails, he]
      · simp [State.takeRestart, Fli.restarted, hnone]

end Sys2Proof.Machine
end

section
/-!
PROOFS. A HALT pulse (O42): what it writes, what it stops and what it empties.
-/

-- One theorem after another: each one elaborated beside the others takes a thread with a stack of its own.
set_option Elab.async false

namespace Sys2Proof.Machine

/-! ### What is written, with room for its SITE_DONE or without -/

/-- A write: the map after it, and its SITE_DONE where it finds room (R17, R84). -/
def State.Wrote (s t : State) (map : List Entry) (e : Entry) (attempt : SiteOutcome) (flags : MeasureFlags) : Prop :=
  t.sst.map = map ∧
    (s.hasMessageRoom 1 → t.fli.messages = s.fli.messages ++ [{ message := .siteDone e attempt flags, restart := false }])

/-- A SITE_DONE placed where it finds room (R84). -/
theorem State.send_messages {s : State} (hr : s.hasMessageRoom 1) (m : Message) :
    (s.send m).fli.messages = s.fli.messages ++ [{ message := m, restart := false }] := by
  rw [State.send_room hr, State.answered_fli_messages]

theorem State.createUnmade_wrote (s : State) (f : SiteFields) (flags : IndentFlags) :
    s.Wrote (s.createUnmade f .abortedBeforeContact flags) (s.sst.map ++ [f.abandoned flags s.tbu.stationTime])
      (f.abandoned flags s.tbu.stationTime) .abortedBeforeContact .none := by
  refine ⟨by simp [State.createUnmade, State.handOver, State.signalOutcome]; rfl, fun hr => ?_⟩
  rw [State.createUnmade_abandoned hr]
  rfl

theorem State.finish_wrote {s : State} {site : Nat} {f : Entry → Entry} {e : Entry} (he : s.sst.entry? site = some e) :
    s.Wrote (s.finish site f) (s.mapWith site f) (f e) (f e).outcome (f e).measureFlags := by
  refine ⟨by simp [State.finish, he, State.handOver, State.signalOutcome]; rfl, fun hr => ?_⟩
  rw [State.finish_reported he hr]
  rfl

/-- A first measurement abandoned rewrites its entry (R15). -/
theorem State.abandonMeasurement_first {s : State} {w : Work} {e : Entry} (he : s.sst.entry? w.site = some e)
    (hw : ∀ site, w ≠ .remeasure site) :
    s.Wrote (s.abandonMeasurement w) (s.mapWith w.site Entry.unmeasured) e.unmeasured .aborted measureAbortedAlone := by
  have wrote := State.finish_wrote (f := Entry.measureAbandoned) he
  cases w with
  | remeasure site => exact absurd rfl (hw site)
  | indent i => exact wrote
  | listed site => exact wrote

/-- A REMEASURE abandoned leaves its entry (R16). -/
theorem State.abandonMeasurement_again {s : State} {site : Nat} {e : Entry} (he : s.sst.entry? site = some e) :
    s.Wrote (s.abandonMeasurement (.remeasure site)) s.sst.map e .aborted measureAbortedAlone := by
  have sends : s.abandonMeasurement (.remeasure site) = s.send (.siteDone e .aborted measureAbortedAlone) := by
    simp only [State.abandonMeasurement, State.abandonRemeasure, he]
    rfl
  rw [sends]
  exact ⟨by rw [State.send_sst], fun hr => State.send_messages hr _⟩

/-! ### Doubt leaves the standing of the Frame Coordination Unit -/

/-- The state and the two flags that a HALT keeps (R75). -/
def Fcu.standing (f : Fcu) : CoordState × Bool × Bool := (f.state, f.duplicateRank, f.claimCollision)

theorem State.blockOn_standing (s : State) (c : BlockCause) : (s.blockOn c).fcu.standing = s.fcu.standing := by
  unfold State.blockOn
  split <;> rfl

theorem State.tryHoldoff_standing (s : State) : s.tryHoldoff.fcu.standing = s.fcu.standing := by
  unfold State.tryHoldoff
  repeat' split
  all_goals rfl

theorem State.permitTest_standing (s : State) : s.permitTest.fcu.standing = s.fcu.standing := by
  unfold State.permitTest
  repeat' split
  · rfl
  · exact (State.tryHoldoff_standing _).trans (State.blockOn_standing _ _)
  · rfl
  · rfl

theorem State.recheckPending_standing (s : State) : s.recheckPending.fcu.standing = s.fcu.standing := by
  have withdraws : s.withdrawClaim.fcu = s.fcu := State.withdrawnOf_fcu s Notice.isClaim 0
  unfold State.recheckPending
  repeat' split
  · refine (State.permitTest_standing _).trans ?_
    simp [Fcu.standing, withdraws]
  · rfl
  · rfl

theorem State.dropQueuedHoldoff_standing (s : State) : s.dropQueuedHoldoff.fcu.standing = s.fcu.standing := by
  have withdraws : s.withdrawHoldoff.fcu = s.fcu := State.withdrawnOf_fcu s Notice.isHoldoff 1
  unfold State.dropQueuedHoldoff
  split
  · simp [Fcu.standing, withdraws]
  · rfl

theorem State.blockNeed_standing (s : State) : s.blockNeed.fcu.standing = s.fcu.standing := by
  unfold State.blockNeed
  split
  · exact State.blockOn_standing _ _
  · rfl

theorem State.beginDoubt_standing (s : State) : s.beginDoubt.fcu.standing = s.fcu.standing := by
  unfold State.beginDoubt
  split
  · exact (State.blockNeed_standing _).trans ((State.dropQueuedHoldoff_standing _).trans (State.recheckPending_standing _))
  · rfl

theorem State.claimFailed_standing (s : State) : s.claimFailed.fcu.standing = s.fcu.standing := by
  unfold State.claimFailed
  repeat' split
  · rfl
  · exact State.permitTest_standing _
  · rfl
  · rfl

theorem State.noticeFailed_standing (s : State) (n : Notice) : (s.noticeFailed n).fcu.standing = s.fcu.standing := by
  unfold State.noticeFailed
  repeat' split
  · exact (State.claimFailed_standing _).trans (State.beginDoubt_standing _)
  · exact State.beginDoubt_standing s
  · exact State.beginDoubt_standing s
  · rfl

/-- An own frame that fails and carries no restart reply leaves everything but Frame Coordination and the line; the transmitter is
empty and the engine in SYNC (R82, R85). -/
theorem State.ownFailed_plain {s : State} {sent : Transmission} (h : s.fli.transmitter = some sent)
    (hm : ∀ m, sent.frame = .message m → m.restart = true → sent.unreported = true) :
    ∃ (fcu : Fcu) (notices : List Notice) (evc : List Counter),
      s.ownFailed = { s with
        fcu := fcu, fli := { s.fli with notices := notices, transmitter := none, engine := .sync }, evc := evc } ∧
      fcu.standing = s.fcu.standing := by
  let u : State := { s with fli := { s.fli with transmitter := none, engine := .sync } }
  have coordinated : ∀ t : State, OnlyCoordination u t → t.fcu.standing = s.fcu.standing →
      ∃ (fcu : Fcu) (notices : List Notice) (evc : List Counter),
        t = { s with
          fcu := fcu, fli := { s.fli with notices := notices, transmitter := none, engine := .sync }, evc := evc } ∧
        fcu.standing = s.fcu.standing := by
    rintro _ ⟨fcu, notices, transmitter, evc, rfl, hnone⟩ hstanding
    obtain rfl := hnone rfl
    exact ⟨fcu, notices, evc, rfl, hstanding⟩
  have reported : s.ownFailed = u.reportFailed sent := by simp only [State.ownFailed, h, u]
  rw [reported]
  unfold State.reportFailed
  split
  · exact coordinated u (.same u) rfl
  · rename_i hun
    split
    · exact coordinated _ (.noticeFailed u _) (State.noticeFailed_standing u _)
    · rename_i m hf
      split
      · rename_i hr
        exact absurd (hm m hf hr) hun
      · exact coordinated _ (.beginDoubt u) (State.beginDoubt_standing u)

/-! ### The blocks at a HALT -/

/-- A stop on a fault hands over the results of a hold that it cuts, and nothing else (R125). -/
theorem Frc.stopForFault_reports (f : Frc) (c : ConfigImage) (now : Time) : (f.stopForFault c now).2 = f.cutHold c := by
  unfold Frc.stopForFault Frc.cutHold
  cases f.state <;> simp

/-- A stop keeps the accumulators of a hold and the tare (R123, R125). -/
theorem Frc.stopForFault_hold (f : Frc) (c : ConfigImage) (now : Time) :
    (f.stopForFault c now).1.holdMean = f.holdMean ∧ (f.stopForFault c now).1.holdSource = f.holdSource ∧
      (f.stopForFault c now).1.tare = f.tare := by
  unfold Frc.stopForFault
  cases f.state <;> exact ⟨rfl, rfl, rfl⟩

/-- The force states after a HALT (R126). -/
theorem Frc.halt_state (f : Frc) (c : ConfigImage) (now : Time) :
    (f.state = .tare ∨ f.state = .wireTest → (f.halt c now).1.state = .retract) ∧
    (f.state = .approach ∨ f.state = .load ∨ f.state = .hold ∨ f.state = .unload →
      (f.halt c now).1.state = .fastUnload ∧ (f.halt c now).1.deadline = some { setAt := now, interval := 2000 }) ∧
    (f.state = .fastUnload ∨ f.state = .retract ∨ f.state = .retracted ∨ f.state = .idle →
      (f.halt c now).1.state = f.state) := by
  unfold Frc.halt Frc.stopForFault
  cases h : f.state <;> simp [Frc.enterRetract, Frc.enterFastUnload, h]

/-- The cycle record after a HALT (R30, R47). -/
theorem Cyc.onHalt_facts (c : Cyc) :
    c.onHalt.current = none ∧ c.onHalt.batch = none ∧ c.onHalt.cue = .none ∧ c.onHalt.delivered = c.delivered ∧
      c.onHalt.mode = (match c.mode with | .start => .start | .faulted => .faulted | _ => .halted) ∧
      (c.mode = .start → c.onHalt.haltSeen = true) := by
  have hd : c.dropCurrent.mode = c.mode := rfl
  unfold Cyc.onHalt Cyc.haltMode
  rw [hd]
  cases hm : c.mode <;> simp [Cyc.dropCurrent, hm]

/-- The coordination record after a HALT (R53, R75). -/
theorem Fcu.onHalt_facts (f : Fcu) :
    (f.state ≠ .inactive → f.onHalt.state = .halted ∧ f.onHalt.need = none ∧ f.onHalt.claim = .none ∧
      f.onHalt.collided = [] ∧ f.onHalt.holdoff = .none ∧ f.onHalt.block = none ∧ f.onHalt.doubtUntil = none ∧
      f.onHalt.listenEnd = none ∧ f.onHalt.claimRefresh = none ∧ f.onHalt.holdoffRefresh = none ∧
      (∀ v ∈ f.onHalt.view, v.claim = none ∧ v.holdoff = none ∧ v.lastHeard = none)) ∧
    f.onHalt.duplicateRank = f.duplicateRank ∧ f.onHalt.claimCollision = f.claimCollision := by
  by_cases hi : f.state = .inactive
  · have stays : f.onHalt = f := if_pos hi
    rw [stays]
    exact ⟨fun h => absurd hi h, rfl, rfl⟩
  · have halts : f.onHalt = f.halt := if_neg hi
    rw [halts]
    exact ⟨fun _ => ⟨rfl, rfl, rfl, rfl, rfl, rfl, rfl, rfl, rfl, rfl, emptied_clear _⟩, rfl, rfl⟩

theorem Mea.set_other {m : Mea} {name other : SlotName} {p : ProfileSlot} (h : other ≠ name) :
    (m.set name p).get other = m.get other := by
  cases name <;> cases other <;> simp_all [Mea.set, Mea.get]

theorem State.freeReserved_none {s : State} (h : ∀ name site, s.img.reserved = some name → s.mea.get name ≠ .filling site) :
    s.freeReserved = s := by
  unfold State.freeReserved
  split
  · rename_i name hr
    split
    · rename_i site hg
      exact absurd hg (h name site hr)
    · rfl
  · rfl

/-- The reserved slot returns to FREE where it is FILLING, and no other slot changes (R148). -/
theorem State.freeReserved_slots (s : State) :
    ∃ mea, s.freeReserved = { s with mea := mea } ∧
      (∀ name, (∀ site, s.mea.get name ≠ .filling site) → mea.get name = s.mea.get name) ∧
      (∀ name site, s.img.reserved = some name → s.mea.get name = .filling site → mea = s.mea.set name .free) := by
  by_cases h : ∃ name site, s.img.reserved = some name ∧ s.mea.get name = .filling site
  · obtain ⟨name, site, hr, hg⟩ := h
    refine ⟨s.mea.set name .free, by simp [State.freeReserved, hr, hg], fun other ho => ?_, fun other _ h _ => ?_⟩
    · exact Mea.set_other fun e => ho site (e ▸ hg)
    · rw [Option.some.inj (hr.symm.trans h)]
  · have none_filling : ∀ name site, s.img.reserved = some name → s.mea.get name ≠ .filling site :=
      fun name site hr hg => h ⟨name, site, hr, hg⟩
    exact ⟨s.mea, State.freeReserved_none none_filling, fun _ _ => rfl, fun name site hr hg =>
      absurd hg (none_filling name site hr)⟩

/-- The Image and Measurement Units at a HALT (R149). -/
theorem State.haltImage_facts (s : State) :
    ∃ mea img, s.haltImage = { s with mea := mea, img := img } ∧ (img.state = .idle ∨ img.state = .ending) ∧
      (s.img.state ≠ .idle → img.illumination = 0 ∧ img.reserved = none) ∧
      (∀ name, (∀ site, s.mea.get name ≠ .filling site) → mea.get name = s.mea.get name) ∧
      (∀ name site, s.img.state.working = true → s.img.reserved = some name → s.mea.get name = .filling site →
        mea = s.mea.set name .free) := by
  by_cases hi : s.img.state = .idle
  · refine ⟨s.mea, s.img, if_pos hi, .inl hi, fun h => absurd hi h, fun _ _ => rfl, fun _ _ h => ?_⟩
    rw [hi] at h
    cases h
  · have halts : s.haltImage = { s.abandonImage with img := s.abandonImage.img.halted } := if_neg hi
    rw [halts]
    by_cases he : s.img.state = .ending
    · have stays : s.abandonImage = s := State.abandonImage_idle (.inr he)
      rw [stays]
      refine ⟨s.mea, s.img.halted, rfl, .inr he, fun _ => ⟨rfl, rfl⟩, fun _ _ => rfl, fun _ _ h => ?_⟩
      rw [he] at h
      cases h
    · obtain ⟨mea, hfree, hother, hfilling⟩ := s.freeReserved_slots
      have abandons : s.abandonImage = { s with
          mea := mea
          img := s.img.abandonedTo (if s.img.state = .step ∧ s.mot.stepping then .ending else .idle) } := by
        rw [State.abandonImage, if_neg (by simp [hi, he]), hfree]
        rfl
      rw [abandons]
      refine ⟨mea, _, rfl, ?_, fun _ => ⟨rfl, rfl⟩, hother, fun name site _ => hfilling name site⟩
      simp only [Img.halted, Img.abandonedTo]
      split
      · exact .inr rfl
      · exact .inl rfl

/-! ### The pulse -/

/-- The Force Unit halted, with the results of a hold that is cut gathered (R120, R126). -/
def State.forceHalted (u : State) : State :=
  { u with frc := (u.frc.halt u.cfg u.now).1, cyc := { u.cyc with gatheredIndent := u.flagsAtStop } }

/-- The state a HALT leaves, by the blocks' records (R47, R75, R90, R107, R126, R149). -/
theorem State.halt_parts (u : State) :
    ∃ (map : List Entry) (messages : List QueuedMessage) (overflow : Bool) (evc : List Counter) (mea : Mea) (img : Img),
      u.forceHalted.writeAbandoned =
        { u.forceHalted with
          sst.map := map, fli := { u.fli with messages := messages, txOverflow := overflow }, evc := evc } ∧
      u.halt =
        { u with
          cyc := u.forceHalted.cyc.onHalt
          sst.map := map
          fcu := u.fcu.onHalt
          fli := { u.fli with notices := [], messages := messages, txOverflow := overflow }
          mot := u.mot.stop.1
          frc := u.forceHalted.frc
          img := img
          mea := mea
          evc := evc } ∧
      (img.state = .idle ∨ img.state = .ending) ∧ (u.img.state ≠ .idle → img.illumination = 0 ∧ img.reserved = none) ∧
      (∀ name, (∀ site, u.mea.get name ≠ .filling site) → mea.get name = u.mea.get name) ∧
      (∀ name site, u.img.state.working = true → u.img.reserved = some name → u.mea.get name = .filling site →
        mea = u.mea.set name .free) := by
  have reports : (u.frc.halt u.cfg u.now).2 = u.frc.cutHold u.cfg := Frc.stopForFault_reports u.frc u.cfg u.now
  have stops : u.withForceStop (u.frc.halt u.cfg u.now) = u.forceHalted := by
    rw [State.withForceStop, reports, State.gatherAll_cutHold]
    rfl
  obtain ⟨map, messages, overflow, evc, writes⟩ := OnlyReports.writeAbandoned u.forceHalted
  obtain ⟨mea, img, image, hstate, hdark, hother, hfilling⟩ := State.haltImage_facts { u.forceHalted with
      sst.map := map, fli := { u.fli with messages := messages, txOverflow := overflow }, evc := evc }
  refine ⟨map, messages, overflow, evc, mea, img, writes, ?_, hstate, hdark, hother, hfilling⟩
  simp only [State.halt, stops, writes]
  exact congrArg (fun v : State => { v with
    cyc := v.cyc.onHalt, fcu := v.fcu.onHalt, mot := v.mot.stop.1, fli.notices := [] }) image

/-- What a HALT writes for the item in hand, by its phase (R10, R12, R15, R16, R47). -/
theorem State.forceHalted_writes {u : State} {c : Current} (hc : u.cyc.current = some c) :
    (c.step = .ending → u.forceHalted.writeAbandoned = u.forceHalted) ∧
    (c.step ≠ .ending →
      (∀ i, c.work = .indent i → c.phase = .toSite →
        u.Wrote u.forceHalted.writeAbandoned (u.sst.map ++ [i.fields.abandoned .none u.tbu.stationTime])
          (i.fields.abandoned .none u.tbu.stationTime) .abortedBeforeContact .none) ∧
      (∀ i, c.work = .indent i → c.phase = .indent → u.cyc.contactMark = none → u.frc.state ≠ .hold →
        u.Wrote u.forceHalted.writeAbandoned (u.sst.map ++ [i.fields.abandoned u.cyc.gatheredIndent u.tbu.stationTime])
          (i.fields.abandoned u.cyc.gatheredIndent u.tbu.stationTime) .abortedBeforeContact .none) ∧
      (∀ i mark e, c.work = .indent i → c.phase = .indent → u.cyc.contactMark = some mark →
        u.sst.entry? i.fields.site = some e →
        u.Wrote u.forceHalted.writeAbandoned (u.mapWith i.fields.site (u.abandonedAtStop mark)) (u.abandonedAtStop mark e)
          .aborted e.measureFlags) ∧
      (∀ e, c.phase = .toView ∨ c.phase = .image → u.sst.entry? c.work.site = some e →
        (∀ site, c.work = .remeasure site →
          u.Wrote u.forceHalted.writeAbandoned u.sst.map e .aborted measureAbortedAlone) ∧
        ((∀ site, c.work ≠ .remeasure site) →
          u.Wrote u.forceHalted.writeAbandoned (u.mapWith c.work.site Entry.unmeasured) e.unmeasured .aborted
            measureAbortedAlone))) := by
  have hc' : u.forceHalted.cyc.current = some c := hc
  refine ⟨State.writeAbandoned_ending hc', fun hs => ⟨fun i hw hp => ?_, fun i hw hp hm hf => ?_, fun i mark e hw hp hm he => ?_,
    fun e hp he => ⟨fun site hw => ?_, fun hw => ?_⟩⟩⟩
  · rw [State.writeAbandoned_toSite hc' hs hp hw]
    exact u.forceHalted.createUnmade_wrote i.fields .none
  · have gathered : u.forceHalted.cyc.gatheredIndent = u.cyc.gatheredIndent := if_neg hf
    rw [State.writeAbandoned_indent hc' hs hp hw, State.writeIndentAbandoned_before (s := u.forceHalted) _ hm, gathered]
    exact u.forceHalted.createUnmade_wrote i.fields u.cyc.gatheredIndent
  · obtain ⟨hmean, hsource, -⟩ := u.frc.stopForFault_hold u.cfg u.now
    rw [State.writeAbandoned_indent hc' hs hp hw, State.writeIndentAbandoned_after (s := u.forceHalted) _ hm,
      State.impressionAbandoned_eq (s := u.forceHalted) hm, State.impressionAbandoned_atStop (s := u) rfl hmean hsource]
    exact State.finish_wrote (s := u.forceHalted) he
  · rw [State.writeAbandoned_measure hc' hs hp, hw]
    have he' : u.forceHalted.sst.entry? site = some e := by
      rw [hw] at he
      exact he
    exact State.abandonMeasurement_again he'
  · rw [State.writeAbandoned_measure hc' hs hp]
    exact State.abandonMeasurement_first (s := u.forceHalted) he hw

/-- A HALT behind the restart that a failing restart reply brings (R90, R169). -/
theorem State.halt_restarted (u : State) :
    ∃ t, (u.takeRestart).halt = t ∧ t.cyc.mode = .start ∧ t.cyc.haltSeen = true ∧ t.cyc.current = none ∧
      t.fcu.state = .inactive ∧ t.fli.transmitter = u.takeRestart.fli.transmitter ∧ t.fli.engine = u.fli.engine ∧
      t.fli.notices = [] ∧ t.fli.messages = [] ∧ t.sst = { queue := [], deferral := none, map := [] } ∧
      t.frc.state = .retract ∧ t.restartPending = false ∧ t.tbu = u.tbu := by
  obtain ⟨map, messages, overflow, evc, mea, img, writes, halts, -⟩ := u.takeRestart.halt_parts
  have idle : u.takeRestart.forceHalted.writeAbandoned = u.takeRestart.forceHalted := State.writeAbandoned_idle rfl
  have same := idle.symm.trans writes
  have hmap : map = [] := (congrArg (fun v : State => v.sst.map) same).symm
  have hmessages : messages = [] := (congrArg (fun v : State => v.fli.messages) same).symm
  refine ⟨_, rfl, ?_⟩
  rw [halts, hmap, hmessages]
  exact ⟨rfl, rfl, rfl, rfl, rfl, rfl, rfl, rfl, rfl, rfl, rfl, rfl⟩

/-- Settles O42: the pulse ends an own frame with an error, and then halts every block. -/
theorem haltStopsEverything : Obligations.HaltStopsEverything := by
  unfold Obligations.HaltStopsEverything
  intro s hheld halted
  have pulse : exec .haltPulse s = .next
      (({ s with fli := { s.fli with idleCount := 0, runLength := 500 } } : State).ownFailed.halt) := by
    rw [exec_haltPulse, State.act_live hheld]
    rfl
  have halts : ∀ (fcu : Fcu) (notices : List Notice) (engine : EngineState) (evc : List Counter),
      fcu.standing = s.fcu.standing →
      let u : State := { s with
        fcu := fcu
        fli := { s.fli with notices := notices, transmitter := none, engine := engine, idleCount := 0, runLength := 500 }
        evc := evc }
      halted u.halt ∧ u.halt.fli.engine = engine ∧ (s.cyc.current = none → u.halt.evc = evc) := by
    intro fcu notices engine evc hstanding u
    obtain ⟨map, messages, overflow, evc', mea, img, writes, hhalt, himg, hdark, hother, hfilling⟩ := u.halt_parts
    have idle : s.cyc.current = none → u.forceHalted.writeAbandoned = u.forceHalted := fun h => State.writeAbandoned_idle h
    have unwritten : u.forceHalted.writeAbandoned = u.forceHalted →
        map = s.sst.map ∧ messages = s.fli.messages ∧ evc' = evc := by
      intro h
      have same := h.symm.trans writes
      exact ⟨(congrArg (fun v : State => v.sst.map) same).symm, (congrArg (fun v : State => v.fli.messages) same).symm,
        (congrArg State.evc same).symm⟩
    have wrote : ∀ {m : List Entry} {e : Entry} {attempt : SiteOutcome} {flags : MeasureFlags},
        u.Wrote u.forceHalted.writeAbandoned m e attempt flags → map = m ∧
          (s.hasMessageRoom 1 → messages = s.fli.messages ++ [{ message := .siteDone e attempt flags, restart := false }]) := by
      intro m e attempt flags h
      rw [writes] at h
      exact h
    obtain ⟨hcur, hbatch, hcue, hdel, hmode, hseen⟩ := u.forceHalted.cyc.onHalt_facts
    obtain ⟨hfcu, hdup, hcol⟩ := fcu.onHalt_facts
    obtain ⟨hstate, hdups, hcols⟩ : fcu.state = s.fcu.state ∧ fcu.duplicateRank = s.fcu.duplicateRank ∧
        fcu.claimCollision = s.fcu.claimCollision := by simpa [Fcu.standing] using hstanding
    obtain ⟨hretract, hfast, hstays⟩ := s.frc.halt_state s.cfg s.now
    have htare : (s.frc.halt s.cfg s.now).1.tare = s.frc.tare := (s.frc.stopForFault_hold s.cfg s.now).2.2
    rw [hhalt]
    refine ⟨⟨hcur, hbatch, hcue, hdel, hmode, hseen, hstate ▸ hfcu, hdup.trans hdups, hcol.trans hcols, rfl, rfl, rfl, rfl, rfl,
      hretract, hfast, hstays, rfl, rfl, htare, Mot.stop_ends, himg, hdark, rfl, rfl, rfl, rfl, rfl, fun h => ?_, hother, hfilling,
      fun c hc => ?_⟩, rfl, fun h => (unwritten (idle h)).2.2⟩
    · obtain ⟨hmap, hmsg, -⟩ := unwritten (idle h)
      exact ⟨by rw [hmap], hmsg⟩
    · obtain ⟨hending, hphase⟩ := State.forceHalted_writes (u := u) hc
      intro w
      refine ⟨fun hs => ?_, fun hs => ?_⟩
      · obtain ⟨hmap, hmsg, -⟩ := unwritten (hending hs)
        exact ⟨by rw [hmap], hmsg⟩
      · obtain ⟨hsite, hbefore, hafter, hmeasure⟩ := hphase hs
        exact ⟨fun i hw hp => wrote (hsite i hw hp), fun i hw hp hm hf => wrote (hbefore i hw hp hm hf),
          fun i mark e hw hp hm he => wrote (hafter i mark e hw hp hm he),
          fun e hp he => ⟨fun site hw => wrote ((hmeasure e hp he).1 site hw), fun hw => wrote ((hmeasure e hp he).2 hw)⟩⟩
  refine ⟨fun ht => ?_, fun sent ht hm => ?_, fun m stale ht hm => ?_⟩
  · have nothing : ({ s with fli := { s.fli with idleCount := 0, runLength := 500 } } : State).ownFailed = { s with
        fli := { s.fli with transmitter := none, idleCount := 0, runLength := 500 } } := by
      simp only [State.ownFailed, ht]
    rw [nothing] at pulse
    obtain ⟨hall, hengine, hevc⟩ := halts s.fcu s.fli.notices s.fli.engine s.evc rfl
    exact ⟨_, pulse, hall, hengine, hevc⟩
  · obtain ⟨fcu, notices, evc, hfail, hstanding⟩ :=
      State.ownFailed_plain (s := { s with fli := { s.fli with idleCount := 0, runLength := 500 } }) ht hm
    rw [hfail] at pulse
    obtain ⟨hall, hengine, -⟩ := halts fcu notices .sync evc hstanding
    exact ⟨_, pulse, hall, hengine⟩
  · obtain ⟨message, restart⟩ := m
    obtain rfl : restart = true := hm
    obtain ⟨fcu, fli, evc, hfail, -, -, hengine, hnone⟩ :=
      State.ownFailed_restart (s := { s with fli := { s.fli with idleCount := 0, runLength := 500 } }) ht
    rw [hfail] at pulse
    obtain ⟨t, rfl, hmode, hseen, hcur, hfcu, htx, heng, hnot, hmsg, hsst, hfrc, hpend, htbu⟩ :=
      State.halt_restarted { s with fcu := fcu, fli := fli, evc := evc }
    refine ⟨_, pulse, hmode, hseen, hcur, hfcu, htx.trans ?_, heng.trans hengine, hnot, hmsg, hsst, hfrc, hpend, htbu⟩
    simp [State.takeRestart, Fli.restarted, hnone]

end Sys2Proof.Machine
end

section
/-!
PROOFS. A station fault at an item at work, and the faults of the Motion Unit (O50).
-/

-- One theorem after another: each one elaborated beside the others takes a thread with a stack of its own.
set_option Elab.async false

namespace Sys2Proof.Machine

/-- The cycle record a fault leaves (R26, R50). -/
def Cyc.faulted (c : Cyc) (cause : FaultCause) : Cyc :=
  { c with
    mode := .faulted, fault := cause, batch := none, current := none, gatheredIndent := .none, gatheredMeasure := .none
    contactMark := none, bufferFull := false, cue := .none }

/-- A claim given up by a release that no need follows (R61). -/
def Fcu.givenUp (f : Fcu) : Fcu := { f with claim := .none, claimRefresh := none, collided := [] }

/-- A fault while a claim is held, before the Image Unit and the moves are stopped: the item `v` is written, the claim released
and nothing is current (R50, R61). -/
def State.faultedFrom (v : State) (k : ClaimKind) (cause : FaultCause) : State :=
  { v with fli := v.fli.released k, cyc := v.cyc.faulted cause, fcu := v.fcu.givenUp }

/-- A fault at an item at work under a held claim, the Force Unit withdrawn (R50). -/
theorem State.stationFault_atWork {u v : State} {k : ClaimKind} {cause : FaultCause} (hm : u.cyc.mode ≠ .faulted)
    (hf : u.frc.state.inCycle = false) (hw : u.writeAbandoned = v) (hn : v.fcu.need = none) (hb : v.fcu.block = none)
    (hh : v.fcu.holdoff = .none) (hk : v.fcu.claim = .held k) :
    u.stationFault cause =
      { (v.faultedFrom k cause).abandonImage with mot := (v.faultedFrom k cause).abandonImage.mot.stop.1 } := by
  have stops : u.withForceStop (u.frc.stopForFault u.cfg u.now) = u := by
    rw [Frc.stopForFault_withdrawn u.cfg u.now hf, State.withForceStop_nil]
  let dropped : State := { v with
    cyc := { v.cyc.dropCurrent with mode := .faulted, fault := cause, batch := none, cue := .none } }
  have released : dropped.clearNeed.release = v.faultedFrom k cause := by
    have idle : dropped.clearNeed = dropped := State.clearNeed_idle hn hb hh (by simp [dropped, hk])
    rw [idle, State.release_held (s := dropped) hk hn]
    rfl
  simp only [State.stationFault, if_neg hm, stops, hw]
  exact congrArg (fun x : State => { x.abandonImage with mot := x.abandonImage.mot.stop.1 }) released

/-- A stop taken while stopping changes nothing (R105). -/
theorem Mot.stop_again {m : Mot} (h : m.stopping = true) : m.stop.1 = m := by simp [Mot.stop, h]

/-- A stop taken where nothing moves and nothing is in hand changes nothing (R105). -/
theorem Mot.stop_still {m : Mot} (hs : m.stopping = false) (hm : m.moving = false) (hq : m.sequence = none)
    (he : m.settleEnd = none) (hd : m.moveDeadline = none) : m.stop.1 = m := by
  have keeps : m.stopped = m := by
    simp only [Mot.stopped, hm]
    cases m
    simp_all
  rw [Mot.stop_stopped hs, keeps]

theorem State.measureAbandoned_mot (s : State) (m : Mot) (w : Work) (e : Entry) :
    ({ s with mot := m } : State).measureAbandoned w e = { s.measureAbandoned w e with mot := m } := by
  cases w <;> rfl

/-- The move deadline reached faults the station with the axis marked and being stopped (R106). -/
theorem exec_moveDeadline_late {s : State} {d : Deadline} (hr : s.resetHeld = false) (hd : s.mot.moveDeadline = some d)
    (hl : d.interval ≤ (s.tbu.stationTime - d.setAt).toNat) (hs : s.mot.stopping = false) :
    exec .moveDeadline s = .next (({ s with mot := s.mot.timedOut.stopped } : State).stationFault s.mot.timeoutCause) := by
  have late : due s.mot.moveDeadline s.now = true := by
    rw [hd]
    exact due_reached hl
  have stops : s.mot.timedOut.stop = (s.mot.timedOut.stopped, !s.mot.timedOut.moving) := Mot.stop_stopped hs
  rw [exec_moveDeadline, State.act_live hr, Mot.deadlineReached, if_pos late, stops]
  rfl

theorem exec_moveDeadline_early {s : State} {d : Deadline} (hr : s.resetHeld = false) (hd : s.mot.moveDeadline = some d)
    (hl : (s.tbu.stationTime - d.setAt).toNat < d.interval) : exec .moveDeadline s = .next s := by
  have early : due s.mot.moveDeadline s.now = false := by
    rw [hd]
    exact due_early hl
  have stays : s.mot.deadlineReached s.now = (s.mot, []) := if_neg (by simp [early])
  rw [exec_moveDeadline, State.act_live hr, stays]
  rfl

/-- Pieces that move the axes are refused while the interlock is closed (R97). -/
theorem Mot.runPieces_refused {m : Mot} {c : ConfigImage} {now : Time} {z : Nat} {rest : List Piece} (hz : m.z ≠ z) :
    m.runPieces c false now (.rapidTo z :: rest) = ({ m with sequence := none }, [.failed .interlock]) := by
  simp [Mot.runPieces, Mot.needsNothing, hz, Mot.startPiece]

/-- A sample outside the free window keeps the interlock closed (R97). -/
theorem State.interlockClosed {s : State} {r : Int} (hr : s.frc.rawPrimary = some r)
    (h : r < s.cfg.freeMin ∨ s.cfg.freeMax < r) : s.interlockOpen = false := by
  have outside : s.cfg.free r = false := by
    unfold ConfigImage.free
    rcases h with h | h
    · simp [Int.not_le.mpr h]
    · simp [Int.not_le.mpr h]
  simp [State.interlockOpen, Frc.interlockOpen, hr, ConfigImage.freeSample, outside]

theorem Mot.nextPiece_cons {m : Mot} {p : Piece} {rest : List Piece} (h : m.sequence = some (p :: rest)) (c : ConfigImage)
    (open_ : Bool) (now : Time) :
    m.nextPiece c open_ now = ({ m with moveDeadline := none, settleEnd := none } : Mot).runPieces c open_ now rest := by
  simp only [Mot.nextPiece, h]

/-! ### The axis that timed out (R98 to R103, R106) -/

theorem Mot.timedOut_turret {m : Mot} (ht : m.turretActivity ≠ .idle) (hc : m.carriageActivity = .idle)
    (hz : m.zActivity = .idle) : m.timedOut = { m with turret := none } ∧ m.moving = true := by
  simp [Mot.timedOut, Mot.moving, ht, hc, hz]

theorem Mot.timedOut_carriage {m : Mot} (ht : m.turretActivity = .idle) (hc : m.carriageActivity ≠ .idle)
    (hz : m.zActivity = .idle) : m.timedOut = { m with carriageHomed := false } ∧ m.moving = true := by
  simp [Mot.timedOut, Mot.moving, ht, hc, hz]

theorem Mot.timedOut_z {m : Mot} (ht : m.turretActivity = .idle) (hc : m.carriageActivity = .idle)
    (hz : m.zActivity ≠ .idle) : m.timedOut = { m with zHomed := false } ∧ m.moving = true := by
  simp [Mot.timedOut, Mot.moving, ht, hc, hz]

/-- A turret homed while the interlock is closed before the Z move behind it: the refusal faults the station (R97, R98). -/
theorem exec_turretHomeFound_refused {s : State} {p : Piece} {z : Nat} {rest : List Piece} (hr : s.resetHeld = false)
    (hq : s.mot.sequence = some (p :: .rapidTo z :: rest)) (hz : s.mot.z ≠ z) (ht : s.mot.turretActivity = .homing)
    (hs : s.mot.stopping = false) (hi : s.interlockOpen = false) :
    exec .turretHomeFound s = .next (({ s with
      mot := { s.mot with
        turret := some 0, turretActivity := .idle, moveDeadline := none, settleEnd := none
        sequence := none } } : State).stationFault .interlock) := by
  have refused := Mot.runPieces_refused (c := s.cfg) (now := s.now) (rest := rest)
    (m := { s.mot with turret := some 0, turretActivity := .idle, moveDeadline := none, settleEnd := none }) hz
  have homes : s.mot.turretHome s.cfg s.interlockOpen s.now = ({ s.mot with
      turret := some 0, turretActivity := .idle, moveDeadline := none, settleEnd := none, sequence := none },
      [.failed .interlock]) := by
    rw [hi, Mot.turretHome, if_pos ⟨ht, hs⟩]
    exact (Mot.nextPiece_cons (m := { s.mot with turret := some 0, turretActivity := .idle }) hq _ _ _).trans refused
  rw [exec_turretHomeFound, State.act_live hr, State.motion, homes]
  rfl

/-- Settles O50: each deadline and the refusal fault the station, with the item written by its phase. -/
theorem motionFaultsStation : Obligations.MotionFaultsStation := by
  unfold Obligations.MotionFaultsStation
  intro s c hl hroom hmode hc hstep hn hh hb hfrc hstop faulted late onSequence
  have hm : s.cyc.mode ≠ .faulted := by simp [hmode]
  have hf : s.frc.state.inCycle = false := by simp [hfrc, ForceState.inCycle]
  have notEnding : c.step ≠ .ending := by simp [hstep]
  have faults : ∀ (written : State) (m : Mot) (cause : FaultCause) (k : ClaimKind), s.fcu.claim = .held k →
      ({ s with mot := m } : State).writeAbandoned = { written with mot := m } → written.cyc = s.cyc → written.fcu = s.fcu →
      ({ s with mot := m } : State).stationFault cause =
        let v : State := ({ written with mot := m } : State).faultedFrom k cause
        { v.abandonImage with mot := v.abandonImage.mot.stop.1 } := by
    intro written m cause k hk hw hcyc hfcu
    exact State.stationFault_atWork (u := { s with mot := m }) hm hf hw (hfcu ▸ hn) (hfcu ▸ hb) (hfcu ▸ hh) (hfcu ▸ hk)
  have sequence : ∀ written : State, (∀ m, ({ s with mot := m } : State).writeAbandoned = { written with mot := m }) →
      written.cyc = s.cyc → written.fcu = s.fcu → written.img = s.img → s.fcu.claim = .held .motion → s.img.state = .idle →
      c.phase ≠ .image → onSequence written := by
    intro written hw hcyc hfcu himg hk hi hp
    have key : ∀ (m : Mot) (cause : FaultCause), ({ s with mot := m } : State).stationFault cause =
        { ({ written with mot := m } : State).faultedFrom .motion cause with mot := m.stop.1 } := by
      intro m cause
      have quiet := State.abandonImage_idle (s := ({ written with mot := m } : State).faultedFrom .motion cause)
        (.inl (himg ▸ hi))
      rw [faults written m cause .motion hk (hw m) hcyc hfcu]
      simp only [quiet]
      rfl
    have times : ∀ (cause : FaultCause) (m : Mot), late → s.mot.timeoutCause = cause →
        s.mot.timedOut = m ∧ s.mot.moving = true → exec .moveDeadline s = .next (faulted written cause { m with stopping := true }) := by
      rintro cause m ⟨d, hd, hlate⟩ rfl ⟨rfl, hmove⟩
      have stopped : s.mot.timedOut.stopped.stop.1 = s.mot.timedOut.stopped := Mot.stop_again hmove
      have moving : s.mot.timedOut.moving = true := hmove
      rw [exec_moveDeadline_late hl.1 hd hlate hstop, key, stopped]
      simp only [faulted, hp, if_false, State.faultedFrom, hcyc, hfcu, Mot.stopped, moving]
      rfl
    refine ⟨fun hlate hca hza => ⟨fun ht => ?_, fun target slots positive ht => ?_⟩,
      fun hlate hta hza => ⟨fun x y hca => ?_, fun x y hca => ?_⟩, fun hlate hta hca => ⟨fun hza => ?_, fun z hza => ?_⟩,
      fun p z rest r hq hz ht hca hza hr hout => ?_⟩
    · exact times _ _ hlate (by simp [Mot.timeoutCause, ht]) (Mot.timedOut_turret (by simp [ht]) hca hza)
    · exact times _ _ hlate (by simp [Mot.timeoutCause, ht, hca, hza]) (Mot.timedOut_turret (by simp [ht]) hca hza)
    · exact times _ _ hlate (by simp [Mot.timeoutCause, hca]) (Mot.timedOut_carriage hta (by simp [hca]) hza)
    · exact times _ _ hlate (by simp [Mot.timeoutCause, hta, hca, hza]) (Mot.timedOut_carriage hta (by simp [hca]) hza)
    · exact times _ _ hlate (by simp [Mot.timeoutCause, hza]) (Mot.timedOut_z hta hca (by simp [hza]))
    · exact times _ _ hlate (by simp [Mot.timeoutCause, hta, hca, hza]) (Mot.timedOut_z hta hca (by simp [hza]))
    · have still : ({ s.mot with
          turret := some 0, turretActivity := .idle, moveDeadline := none, settleEnd := none, sequence := none } : Mot).stop.1 =
          { s.mot with
            turret := some 0, turretActivity := .idle, moveDeadline := none, settleEnd := none, sequence := none } :=
        Mot.stop_still hstop (by simp [Mot.moving, hca, hza]) rfl rfl rfl
      rw [exec_turretHomeFound_refused hl.1 hq hz ht hstop (State.interlockClosed hr hout), key, still]
      simp only [faulted, hp, if_false, State.faultedFrom, hcyc, hfcu]
      rfl
  refine ⟨fun i hp hw hk hi => ?_, fun e he => ?_, fun d hd hearly => exec_moveDeadline_early hl.1 hd hearly⟩
  · refine sequence _ (fun m => ?_) rfl rfl rfl hk hi (by simp [hp])
    rw [State.writeAbandoned_toSite (s := { s with mot := m }) hc notEnding hp hw]
    exact State.createUnmade_abandoned (s := { s with mot := m }) hroom i.fields .none
  · intro written
    have written_eq : s.measureAbandoned c.work e = written := by
      simp only [written, State.measureAbandoned, State.reported]
      cases c.work <;> rfl
    have writes : ∀ m : Mot, c.phase = .toView ∨ c.phase = .image →
        ({ s with mot := m } : State).writeAbandoned = { written with mot := m } := by
      intro m hp
      rw [State.writeAbandoned_measure (s := { s with mot := m }) hc notEnding hp,
        State.abandonMeasurement_reported (s := { s with mot := m }) hroom he, State.measureAbandoned_mot, written_eq]
    obtain ⟨wcyc, wfcu, -, wimg, wmea, -⟩ := written_eq ▸ s.measureAbandoned_rest c.work e
    refine ⟨fun hp hk hi => sequence _ (fun m => writes m (.inl hp)) wcyc wfcu wimg hk hi (by simp [hp]),
      fun name site z hp hk hi hres hmea hz ht hca hlate => ?_⟩
    obtain ⟨d, hd, hlate⟩ := hlate
    obtain ⟨hout, hmove⟩ := Mot.timedOut_z ht hca (by simp [hz])
    have cause : s.mot.timeoutCause = .motionTimeout := by simp [Mot.timeoutCause, ht, hca, hz]
    have stopped : s.mot.timedOut.stopped.stop.1 = s.mot.timedOut.stopped := Mot.stop_again hmove
    let v : State := ({ written with mot := s.mot.timedOut.stopped } : State).faultedFrom .quiet .motionTimeout
    have abandons := State.abandonImage_filling (s := v) (name := name) (site := site)
      (by simp [v, State.faultedFrom, wimg, hi, ImageState.working]) (wimg ▸ hres) (wmea ▸ hmea)
    have stepping : v.img.state = .step ∧ v.mot.stepping = true := ⟨wimg ▸ hi, by
      simp [v, State.faultedFrom, Mot.stepping, Mot.stopped, Mot.timedOut, hz]⟩
    rw [if_pos stepping] at abandons
    rw [exec_moveDeadline_late hl.1 hd hlate hstop, cause,
      faults written _ .motionTimeout .quiet hk (writes _ (.inr hp)) wcyc wfcu]
    have ends : ({ v.abandonImage with mot := v.abandonImage.mot.stop.1 } : State) = { v with
        mea := s.mea.set name .free, img := s.img.abandonedTo .ending, mot := s.mot.timedOut.stopped } := by
      rw [abandons]
      simp only [v, State.faultedFrom, stopped, wimg, wmea]
    have moving : ({ s.mot with zHomed := false } : Mot).moving = true := hmove
    refine congrArg _ (ends.trans ?_)
    simp only [v, faulted, hp, if_true, State.faultedFrom, wcyc, wfcu, hout, Mot.stopped, moving]
    rfl

end Sys2Proof.Machine
end

section
/-!
PROOFS. The pairs of the tare, of the open-wire test and of the retract, and what a fault of the Force Unit writes (O52).
-/

-- One theorem after another: each one elaborated beside the others takes a thread with a stack of its own.
set_option Elab.async false

namespace Sys2Proof.Machine

/-! ### Pairs -/

theorem exec_samplePair_live {s : State} (hr : s.resetHeld = false) (p q : RawSample) :
    exec (.samplePair p q) s = .next (s.withForce (s.frc.takePair s.cfg p.toInt q.toInt s.tbu.tickMark s.now)) := by
  rw [exec_samplePair, State.act_live hr]
  rfl

/-- A named pair is the sample pair its row names, and nothing at another pair (log 5, log 7). -/
theorem exec_namedPair {c : Instr} {s : State} {named : Bool} {P : Prop} [Decidable P] {p q : RawSample}
    (hr : s.resetHeld = false) (he : exec c s = .next (s.namedPair named p q)) (hP : named = true ↔ P) :
    exec c s = if P then exec (.samplePair p q) s else .next s := by
  rw [he, exec_samplePair, State.act_live hr]
  by_cases h : P
  · rw [if_pos h, State.namedPair, if_pos (hP.mpr h)]
  · rw [if_neg h, State.namedPair, if_neg (h ∘ hP.mp)]

theorem exec_tareDone_named {s : State} (hr : s.resetHeld = false) (p q : RawSample) :
    exec (.tareDone p q) s = if s.frc.state = .tare ∧ s.frc.pairs = 63 then exec (.samplePair p q) s else .next s :=
  exec_namedPair hr (named := s.frc.tareEnds) (by rw [exec_tareDone, State.act_live hr]) (by simp [Frc.tareEnds])

theorem exec_wireTestDone_named {s : State} (hr : s.resetHeld = false) (p q : RawSample) :
    exec (.wireTestDone p q) s = if s.frc.state = .wireTest ∧ s.frc.pairs = 31 then exec (.samplePair p q) s else .next s :=
  exec_namedPair hr (named := s.frc.wireTestEnds) (by rw [exec_wireTestDone, State.act_live hr]) (by simp [Frc.wireTestEnds])

theorem exec_wireTestRecovered_named {s : State} (hr : s.resetHeld = false) (p q : RawSample) :
    exec (.wireTestRecovered p q) s =
      if s.frc.state = .wireTest ∧ s.frc.pairs = 39 then exec (.samplePair p q) s else .next s :=
  exec_namedPair hr (named := s.frc.recoveryEnds) (by rw [exec_wireTestRecovered, State.act_live hr])
    (by simp [Frc.recoveryEnds])

theorem Frc.takePair_tare {f : Frc} (h : f.state = .tare) (c : ConfigImage) (p q : Int) (mark : TickSource) (now : Time) :
    f.takePair c p q mark now = ((f.record c p q).tarePair c p q, []) := by
  have hr : (f.record c p q).state = .tare := h
  simp [Frc.takePair, h, Frc.testPair, hr]

theorem Frc.takePair_wireTest {f : Frc} (h : f.state = .wireTest) (c : ConfigImage) (p q : Int) (mark : TickSource)
    (now : Time) : f.takePair c p q mark now = (f.record c p q).wirePair c p q now := by
  have hr : (f.record c p q).state = .wireTest := h
  simp [Frc.takePair, h, Frc.testPair, hr]

theorem Frc.takePair_retract {f : Frc} (h : f.state = .retract) (c : ConfigImage) (p q : Int) (mark : TickSource)
    (now : Time) : f.takePair c p q mark now = (f.record c p q).retractPair c p q := by
  have hr : (f.record c p q).state = .retract := h
  simp [Frc.takePair, h, Frc.testPair, hr]

/-- A pair that reports nothing changes the force record alone. -/
theorem exec_samplePair_silent {s : State} {p q : RawSample} {f : Frc} (hr : s.resetHeld = false)
    (hf : s.frc.takePair s.cfg p.toInt q.toInt s.tbu.tickMark s.now = (f, [])) :
    exec (.samplePair p q) s = .next { s with frc := f } := by
  rw [exec_samplePair_live hr, hf]
  rfl

/-- The sums after one more pair of the tare or of the open-wire test (R113, R114). -/
def Frc.summed (f : Frc) (p q : Int) : Frc :=
  { f with pairs := f.pairs + 1, sumPrimary := f.sumPrimary + p, sumCheck := f.sumCheck + q }

/-- A tare pair before the 64th is summed (R113). -/
theorem Frc.tarePair_summed {f : Frc} (h : f.pairs ≠ 63) (c : ConfigImage) (p q : Int) : f.tarePair c p q = f.summed p q := by
  have next : ¬(f.pairs + 1 = 64) := by omega
  simp only [Frc.tarePair, if_neg next]
  rfl

/-- The 64th tare pair forms both zeros and begins the open-wire test (R113). -/
theorem Frc.tarePair_ends {f : Frc} (h : f.pairs = 63) (c : ConfigImage) (p q : Int) :
    f.tarePair c p q =
      ({ f with
        tare := some ((f.sumPrimary + p + 32) / 64, (f.sumCheck + q + 32) / 64)
        state := .wireTest, pairs := 0, sumPrimary := 0, sumCheck := 0, testCurrent := true } : Frc).calibrated c p q := by
  have last : f.pairs + 1 = 64 := by omega
  simp only [Frc.tarePair, if_pos last]

theorem Frc.wirePair_summed {f : Frc} (h : f.pairs < 31) (c : ConfigImage) (p q : Int) (now : Time) :
    f.wirePair c p q now = (f.summed p q, []) := by
  have next : f.pairs + 1 < 32 := by omega
  simp only [Frc.wirePair, if_pos next]
  rfl

/-- The 32nd pair of the open-wire test tests the bridge (R114). -/
theorem Frc.wirePair_tests {f : Frc} (h : f.pairs = 31) (c : ConfigImage) (p q : Int) (now : Time) :
    f.wirePair c p q now =
      if ({ f.summed p q with testCurrent := false } : Frc).bridgeWhole c = true then
        ({ f.summed p q with testCurrent := false }, [])
      else (({ f.summed p q with testCurrent := false } : Frc).enterRetract now, [.sensorOpen]) := by
  have notYet : ¬(f.pairs + 1 < 32) := by omega
  have now32 : f.pairs + 1 = 32 := by omega
  simp only [Frc.wirePair, if_neg notYet, if_pos now32]
  rfl

theorem Frc.wirePair_counted {f : Frc} (h1 : 31 < f.pairs) (h2 : f.pairs < 39) (c : ConfigImage) (p q : Int) (now : Time) :
    f.wirePair c p q now = ({ f with pairs := f.pairs + 1 }, []) := by
  have a : ¬(f.pairs + 1 < 32) := by omega
  have b : ¬(f.pairs + 1 = 32) := by omega
  have d : f.pairs + 1 < 40 := by omega
  simp only [Frc.wirePair, if_neg a, if_neg b, if_pos d]

theorem Frc.wirePair_recovers {f : Frc} (h : f.pairs = 39) (c : ConfigImage) (p q : Int) (now : Time) :
    f.wirePair c p q now = ({ f with state := .approach, pairs := 0 }, []) := by
  simp [Frc.wirePair, h]

/-- The bridge is whole where both shifts lie in their window (R114). -/
theorem Frc.bridgeWhole_iff {f : Frc} {c : ConfigImage} {zp zq : Int} (h : f.tare = some (zp, zq)) :
    f.bridgeWhole c = true ↔
      (c.owMin ≤ (f.sumPrimary + 16) / 32 - zp ∧ (f.sumPrimary + 16) / 32 - zp ≤ c.owMax) ∧
        (c.owMin ≤ (f.sumCheck + 16) / 32 - zq ∧ (f.sumCheck + 16) / 32 - zq ≤ c.owMax) := by
  simp only [Frc.bridgeWhole, h, ConfigImage.shiftGood, Bool.and_eq_true, decide_eq_true_eq]

/-! ### What a fault of the Force Unit writes -/

/-- The map and the messages after a fault with the Force Unit withdrawn are those of the write (R50). -/
theorem State.stationFault_written {u : State} (hm : u.cyc.mode ≠ .faulted) (hf : u.frc.state.inCycle = false)
    (cause : FaultCause) :
    (u.stationFault cause).sst.map = u.writeAbandoned.sst.map ∧
      (u.stationFault cause).fli.messages = u.writeAbandoned.fli.messages := by
  have stops : u.withForceStop (u.frc.stopForFault u.cfg u.now) = u := by
    rw [Frc.stopForFault_withdrawn u.cfg u.now hf, State.withForceStop_nil]
  have image : ∀ v : State, v.abandonImage.sst = v.sst ∧ v.abandonImage.fli = v.fli := by
    intro v
    unfold State.abandonImage
    split
    · exact ⟨rfl, rfl⟩
    · obtain ⟨mea, hfree, -⟩ := v.freeReserved_slots
      rw [hfree]
      exact ⟨rfl, rfl⟩
  simp only [State.stationFault, if_neg hm, stops, image]
  generalize u.writeAbandoned = v
  obtain ⟨fcu, notices, transmitter, evc, he, -⟩ := (OnlyCoordination.clearNeed { v with
    cyc := { v.cyc.dropCurrent with mode := .faulted, fault := cause, batch := none, cue := .none } }).trans (.release _)
  rw [he]
  exact ⟨rfl, rfl⟩

/-- A report of the Force Unit that gathers no flag and faults the station (R49). -/
theorem State.withForce_faults {s : State} {f : Frc} {r : ForceReport} {cause : FaultCause}
    (hr : ∀ u : State, u.onForceReport r = u.stationFault cause) :
    s.withForce (f, [r]) = ({ s with frc := f } : State).stationFault cause := hr _

/-- What a fault of the Force Unit leaves, once it withdraws with the record `f` (R50, R125). -/
theorem State.forceFault_facts {s : State} {f : Frc} (cause : FaultCause) (hm : s.cyc.mode ≠ .faulted)
    (hf : f.state.inCycle = false) :
    let t := ({ s with frc := f } : State).stationFault cause
    t.cyc.mode = .faulted ∧ t.cyc.fault = cause ∧ t.cyc.current = none ∧ t.frc = f ∧ t.sst.queue = s.sst.queue ∧
      t.tbu = s.tbu ∧ t.cfg = s.cfg ∧ (∀ k, s.fcu.claim = .held k → t.fcu.claim = .none) ∧
      (∀ w, s.cyc.current = some { work := w, phase := .indent, step := .ending } →
        t.sst.map = s.sst.map ∧ t.fli.messages = s.fli.messages) ∧
      ∀ i, s.cyc.current = some { work := .indent i, phase := .indent, step := .working } → s.hasMessageRoom 1 →
        (s.cyc.contactMark = none →
          t.sst.map = s.sst.map ++ [i.fields.abandoned s.cyc.gatheredIndent s.tbu.stationTime] ∧
          t.fli.messages = s.fli.messages ++
            [{ message := .siteDone (i.fields.abandoned s.cyc.gatheredIndent s.tbu.stationTime) .abortedBeforeContact .none
               restart := false }]) ∧
        (∀ mark e, s.cyc.contactMark = some mark → s.sst.entry? i.fields.site = some e →
          t.sst.map = s.mapWith i.fields.site (({ s with frc := f } : State).impressionAbandoned mark) ∧
          t.fli.messages = s.fli.messages ++
            [{ message := .siteDone (({ s with frc := f } : State).impressionAbandoned mark e) .aborted e.measureFlags
               restart := false }]) := by
  intro t
  let u : State := { s with frc := f }
  obtain ⟨hmode, hcause, hcur⟩ := State.stationFault_taken (s := u) hm cause
  obtain ⟨hqueue, htbu, hcfg, hfrc, hclaim⟩ := State.stationFault_rest (s := u) hm cause
  obtain ⟨hmap, hmsg⟩ := State.stationFault_written (u := u) hm hf cause
  have frc : t.frc = f := hfrc.trans (by rw [Frc.stopForFault_withdrawn _ _ hf])
  refine ⟨hmode, hcause, hcur, frc, hqueue, htbu, hcfg, hclaim, fun w hc => ?_, fun i hc hroom => ⟨fun hmark => ?_,
    fun mark e hmark he => ?_⟩⟩
  · have stays : u.writeAbandoned = u := State.writeAbandoned_ending (s := u) hc rfl
    rw [stays] at hmap hmsg
    exact ⟨hmap, hmsg⟩
  · have wrote := State.writeAbandoned_before (s := u) hc (by simp) rfl (.inr rfl) hmark hroom
    rw [if_pos rfl] at wrote
    rw [wrote] at hmap hmsg
    exact ⟨hmap, hmsg⟩
  · have wrote := State.writeAbandoned_after (s := u) hc (by simp) rfl rfl hmark he hroom
    rw [wrote] at hmap hmsg
    exact ⟨hmap, hmsg⟩

/-- Settles O52: each pair by its number. -/
theorem forceCycleBegins : Obligations.ForceCycleBegins := by
  unfold Obligations.ForceCycleBegins
  intro s p q hl reading taken underway summed
  have hr := hl.1
  let f : Frc := s.frc.record s.cfg p.toInt q.toInt
  refine ⟨fun hs hp => ?_, fun hs hp => ?_, fun hs h1 h2 => ?_, exec_tareDone_named hr p q, exec_wireTestDone_named hr p q,
    exec_wireTestRecovered_named hr p q, fun hs hp => ?_, fun zp zq hs ht => ?_⟩
  · refine (exec_samplePair_silent hr (Frc.takePair_tare hs ..)).trans ?_
    rw [Frc.tarePair_summed (f := f) hp]
    rfl
  · exact exec_samplePair_silent hr ((Frc.takePair_wireTest hs ..).trans (Frc.wirePair_summed (f := f) hp ..))
  · exact exec_samplePair_silent hr ((Frc.takePair_wireTest hs ..).trans (Frc.wirePair_counted (f := f) h1 h2 ..))
  · intro zp zq
    rw [exec_tareDone_named hr, if_pos ⟨hs, hp⟩]
    refine (exec_samplePair_silent hr (Frc.takePair_tare hs ..)).trans ?_
    rw [Frc.tarePair_ends (f := f) hp]
    rfl
  · intro read sp sq inWindow
    have read_eq : f = read := by
      simp only [f, Frc.record, Frc.calibrated, ht, read, taken]
      rfl
    have tests := (Frc.takePair_wireTest hs s.cfg p.toInt q.toInt s.tbu.tickMark s.now)
    have tare : ({ f.summed p.toInt q.toInt with testCurrent := false } : Frc).tare = some (zp, zq) := ht
    have whole := Frc.bridgeWhole_iff (c := s.cfg) tare
    refine ⟨fun hp h1 h2 => ?_, fun hp hn hm => ?_, fun hp => ?_⟩
    · have pairs : read.pairs + 1 = 32 := congrArg (· + 1) hp
      rw [exec_wireTestDone_named hr, if_pos ⟨hs, hp⟩]
      refine (exec_samplePair_silent hr (tests.trans ((Frc.wirePair_tests (f := f) hp ..).trans
        (if_pos (whole.mpr ⟨h1, h2⟩))))).trans ?_
      simp only [read_eq, Frc.summed, pairs]
      rfl
    · let g : Frc := ({ f.summed p.toInt q.toInt with testCurrent := false } : Frc).enterRetract s.now
      have broken : s.frc.takePair s.cfg p.toInt q.toInt s.tbu.tickMark s.now = (g, [.sensorOpen]) :=
        tests.trans ((Frc.wirePair_tests (f := f) hp ..).trans (if_neg (hn ∘ whole.mp)))
      have faults : exec (.wireTestDone p q) s = .next (({ s with frc := g } : State).stationFault .sensorOpen) := by
        rw [exec_wireTestDone_named hr, if_pos ⟨hs, hp⟩, exec_samplePair_live hr, broken]
        rfl
      obtain ⟨hmode, hcause, hcur, hfrc, hqueue, htbu, hcfg, hclaim, hending, hworking⟩ :=
        State.forceFault_facts (s := s) (f := g) .sensorOpen hm rfl
      refine ⟨_, faults, hmode, hcause, hcur, ?_, ?_, ?_, ?_, ?_, hclaim .quiet, hqueue, htbu, hcfg,
        fun i hc hmark hroom => (hworking i hc hroom).1 hmark, hending⟩
      all_goals
        rw [hfrc]
        rfl
    · rw [exec_wireTestRecovered_named hr, if_pos ⟨hs, hp⟩]
      have recovers := tests.trans (Frc.wirePair_recovers (f := f) hp ..)
      rw [exec_samplePair_silent hr recovers, read_eq]

end Sys2Proof.Machine
end

section
/-!
PROOFS. Withdrawals: the force deadlines, the pairs of the retract, and RETRACTED (O54).
-/

-- One theorem after another: each one elaborated beside the others takes a thread with a stack of its own.
set_option Elab.async false

namespace Sys2Proof.Machine

/-! ### Deadlines of the Force Unit (R122 to R124) -/

/-- A deadline of the Force Unit that is reached faults the station with its cause (R50). -/
theorem State.timeout_faults {s : State} {c : Instr} {r : Frc × List ForceReport} {f : Frc} {report : ForceReport}
    {cause : FaultCause} (he : exec c s = .next (s.withForce r)) (hr : r = (f, [report]))
    (hreport : ∀ u : State, u.onForceReport report = u.stationFault cause) :
    exec c s = .next (({ s with frc := f } : State).stationFault cause) := by
  rw [he, hr, State.withForce_faults hreport]

theorem State.onForceReport_unloadTimeout (u : State) : u.onForceReport .unloadTimeout = u.stationFault .unloadTimeout := rfl

theorem State.onForceReport_retractTimeout (u : State) : u.onForceReport .retractTimeout = u.stationFault .retractTimeout := rfl

/-- Before its time a force deadline has no effect (log 5). -/
theorem exec_forceTimeouts_early {s : State} (hr : s.resetHeld = false) (h : due s.frc.deadline s.now = false) :
    exec .unloadTimeout s = .next s ∧ exec .fastUnloadTimeout s = .next s ∧ exec .retractTimeout s = .next s := by
  have unload : s.frc.unloadTimeout s.now = (s.frc, []) := if_neg (by simp [h])
  have fast : s.frc.fastUnloadTimeout s.now = (s.frc, []) := if_neg (by simp [h])
  have retract : s.frc.retractTimeout s.now = (s.frc, []) := if_neg (by simp [h])
  refine ⟨?_, ?_, ?_⟩
  · rw [exec_unloadTimeout, State.act_live hr, unload]
    rfl
  · rw [exec_fastUnloadTimeout, State.act_live hr, fast]
    rfl
  · rw [exec_retractTimeout, State.act_live hr, retract]
    rfl

/-! ### The pairs of the retract (R124) -/

theorem exec_homeDriveDone_named {s : State} (hr : s.resetHeld = false) (hs : s.frc.state = .retract) (p q : RawSample) :
    exec (.homeDriveDone p q) s =
      if s.frc.drive = .homeDrive ∧ s.frc.pairs = 999 then exec (.samplePair p q) s else .next s :=
  exec_namedPair hr (named := s.frc.homeDriveEnds) (by rw [exec_homeDriveDone, State.act_live hr])
    (by simp [Frc.homeDriveEnds, hs])

theorem ConfigImage.free_iff {c : ConfigImage} {raw : Int} : c.free raw = true ↔ c.freeMin ≤ raw ∧ raw ≤ c.freeMax := by
  simp [ConfigImage.free]

theorem exec_freeTestPass_named {s : State} (hr : s.resetHeld = false) (hs : s.frc.state = .retract) (p q : RawSample) :
    exec (.freeTestPass p q) s =
      if s.frc.drive = .freeTest ∧ s.frc.pairs = 7 ∧
        (s.cfg.freeMin ≤ p.toInt ∧ p.toInt ≤ s.cfg.freeMax ∧ s.cfg.freeMin ≤ q.toInt ∧ q.toInt ≤ s.cfg.freeMax) then
        exec (.samplePair p q) s else .next s :=
  exec_namedPair hr (named := s.frc.freeTestEnds s.cfg p.toInt q.toInt) (by rw [exec_freeTestPass, State.act_live hr])
    (by simp [Frc.freeTestEnds, hs, ConfigImage.free_iff, and_assoc])

theorem Frc.retractPair_running {f : Frc} {z : Nat} (hd : f.drive = .running) (hz : f.stroke = some z) (c : ConfigImage)
    (p q : Int) :
    f.retractPair c p q =
      (if z ≤ 2000 then { f with stroke := some 0, drive := .freeTest, pairs := 0 } else { f with stroke := some (z - 2000) },
        []) := by
  have moved : f.withdrawn = { f with stroke := some (z - 2000) } := by simp [Frc.withdrawn, hz, retractSpeed]
  simp only [Frc.retractPair, hd, moved]
  by_cases h : z ≤ 2000
  · have home : z - 2000 = 0 := by omega
    simp [h, home]
  · have away : ¬(z - 2000 = 0) := by omega
    simp [h, away]

theorem Frc.retractPair_homeDrive {f : Frc} (hd : f.drive = .homeDrive) (hp : f.pairs ≠ 999) (c : ConfigImage) (p q : Int) :
    f.retractPair c p q = ({ f with pairs := f.pairs + 1 }, []) := by
  have next : ¬(f.pairs + 1 = 1000) := by omega
  simp only [Frc.retractPair, hd, if_neg next]

theorem Frc.retractPair_homeDriveEnds {f : Frc} (hd : f.drive = .homeDrive) (hp : f.pairs = 999) (c : ConfigImage) (p q : Int) :
    f.retractPair c p q = ({ f with stroke := some 0, drive := .freeTest, pairs := 0 }, []) := by
  have last : f.pairs + 1 = 1000 := by omega
  simp only [Frc.retractPair, hd, if_pos last]

theorem Frc.retractPair_freeTest {f : Frc} (hd : f.drive = .freeTest) (c : ConfigImage) (p q : Int) :
    f.retractPair c p q = f.freePair c p q := by
  simp only [Frc.retractPair, hd]

theorem Frc.retractPair_stopped {f : Frc} (hd : f.drive = .stopped) (c : ConfigImage) (p q : Int) :
    f.retractPair c p q = (f, []) := by
  simp only [Frc.retractPair, hd]

theorem Frc.freePair_free {f : Frc} {c : ConfigImage} {p q : Int} (hp : c.free p = true) (hq : c.free q = true)
    (hn : f.pairs ≠ 7) : f.freePair c p q = ({ f with pairs := f.pairs + 1 }, []) := by
  have next : ¬(f.pairs + 1 = 8) := by omega
  simp [Frc.freePair, hp, hq, next]

theorem Frc.freePair_last {f : Frc} {c : ConfigImage} {p q : Int} (hp : c.free p = true) (hq : c.free q = true)
    (hn : f.pairs = 7) : f.freePair c p q = (f.becomeRetracted, [.retracted]) := by
  simp [Frc.freePair, hp, hq, hn]

theorem Frc.freePair_disturbed {f : Frc} {c : ConfigImage} {p q : Int} (h : ¬(c.free p = true ∧ c.free q = true)) :
    f.freePair c p q = ({ f with pairs := 0 }, []) := by
  simp only [Frc.freePair, Bool.and_eq_true, if_neg h]

/-- The eighth free pair in a row is RETRACTED (R124). -/
theorem exec_freeTestPass_retracts {s : State} {p q : RawSample} (hr : s.resetHeld = false) (hs : s.frc.state = .retract)
    (hd : s.frc.drive = .freeTest) (hn : s.frc.pairs = 7) (hp : s.cfg.free p.toInt = true) (hq : s.cfg.free q.toInt = true) :
    exec (.freeTestPass p q) s =
      .next (State.onRetracted { s with frc := (s.frc.record s.cfg p.toInt q.toInt).becomeRetracted }) := by
  have free := ConfigImage.free_iff.mp hp
  have free' := ConfigImage.free_iff.mp hq
  have last : s.frc.takePair s.cfg p.toInt q.toInt s.tbu.tickMark s.now =
      ((s.frc.record s.cfg p.toInt q.toInt).becomeRetracted, [.retracted]) :=
    (Frc.takePair_retract hs ..).trans ((Frc.retractPair_freeTest (f := s.frc.record s.cfg p.toInt q.toInt) hd ..).trans
      (Frc.freePair_last (f := s.frc.record s.cfg p.toInt q.toInt) hp hq hn))
  rw [exec_freeTestPass_named hr hs, if_pos ⟨hd, hn, free.1, free.2, free'.1, free'.2⟩, exec_samplePair_live hr, last]
  rfl

/-! ### RETRACTED (R30, R39, R46, R48) -/

theorem State.tryEndStart_started {s : State} (h : s.cyc.mode ≠ .start) : s.tryEndStart = s := by
  have notOver : s.startOver = false := by simp [State.startOver, h]
  simp [State.tryEndStart, notOver]

theorem State.checkPaused_elsewhere {s : State} (h : s.cyc.mode ≠ .pausing) : s.checkPaused = s := by
  simp [State.checkPaused, h]

theorem State.checkPaused_busy {s : State} {c : Current} (h : s.cyc.current = some c) : s.checkPaused = s := by
  simp [State.checkPaused, State.nothingToFinish, h]

theorem State.retractedAtItem_idle {s : State} (h : s.cyc.current = none) : s.retractedAtItem = s := by
  simp [State.retractedAtItem, State.trySetNeed, h]

theorem State.onRetracted_item {s : State} (h : s.cyc.mode ≠ .start) : s.onRetracted = s.retractedAtItem.checkPaused := by
  rw [State.onRetracted, State.tryEndStart_started h]

theorem State.retractedAtItem_ending {s : State} {w : Work}
    (h : s.cyc.current = some { work := w, phase := .indent, step := .ending }) : s.retractedAtItem = s.release.endItem := by
  simp [State.retractedAtItem, h]

theorem State.retractedAtItem_motion {s : State} {w : Work} {p : Phase} (hp : p = .toSite ∨ p = .toView)
    (h : s.cyc.current = some { work := w, phase := p, step := .waiting }) : s.retractedAtItem = s.trySetNeed := by
  rcases hp with rfl | rfl <;> simp [State.retractedAtItem, h]

theorem State.retractedAtItem_working {s : State} {i : IndentItem}
    (h : s.cyc.current = some { work := .indent i, phase := .indent, step := .working }) :
    s.retractedAtItem = s.indentCompleted i := by
  simp [State.retractedAtItem, h]

/-- START that waited for RETRACTED ends in READY with LISTEN_IN and HELLO (R30). -/
theorem State.tryEndStart_ready {s : State} (hm : s.cyc.mode = .start) (hf : s.frc.state = .retracted)
    (hr : s.cyc.configReading = false) (hi : s.cyc.imageHeld = true) (hh : s.cyc.haltSeen = false) :
    s.tryEndStart = ({ s with cyc.mode := .ready } : State).enterListenIn s.cyc.startCause := by
  have isOver : s.startOver = true := by simp [State.startOver, hm, hf, hr]
  simp [State.tryEndStart, isOver, hi, hh]

/-- With nothing left to finish, PAUSING is PAUSED (R46). -/
theorem State.continueWork_paused {s : State} (hc : s.cyc.current = none) (hm : s.cyc.mode = .pausing)
    (hu : s.undelivered? = none) (free : ∀ k, s.fcu.claim ≠ .held k) (hn : s.fcu.need = none)
    (hf : s.frc.state = .retracted) : s.continueWork = { s with cyc.mode := .paused } := by
  have notHeld : s.fcu.holds = false := by
    unfold Fcu.holds
    split
    · rename_i k hk
      exact absurd hk (free k)
    · rfl
  have done : s.nothingToFinish = true := by simp [State.nothingToFinish, hc, hu, notHeld, hn, hf]
  simp [State.continueWork, hc, hm, State.pausingNext, hu, State.checkPaused, done]

/-- An item that ends in RUNNING is followed by a choice (R35). -/
theorem State.endItem_running {s : State} (hm : s.cyc.mode = .running) :
    s.endItem = ({ s with cyc := s.cyc.dropCurrent } : State).choose :=
  State.continueWork_running (s := { s with cyc := s.cyc.dropCurrent }) rfl hm

/-! ### A batch that closes, or goes on (R35, R36) -/

/-- R36's four conditions. -/
theorem State.batchCloses_iff {s : State} {slot : Nat} :
    s.batchCloses slot = true ↔ s.cyc.batchLimit ≤ s.sst.measureList.length ∨ s.sst.queue = [] ∨
      (∃ site rest, s.sst.queue = .remeasure site :: rest) ∨
      (∃ j rest, s.sst.queue = .indent j :: rest ∧ j.fields.indenter ≠ slot) := by
  unfold State.batchCloses
  cases s.sst.queue with
  | nil => simp
  | cons i rest => cases i <;> simp

/-- With a batch open, its close is followed by another choice, and else the store is asked (R35 rule 2, R36). -/
theorem State.chooseOnce_batched {s : State} {slot : Nat} (hb : s.cyc.batch = some slot) :
    s.chooseOnce =
      if s.batchCloses slot = true then ({ s with cyc.cue := .none, cyc.batch := none }, true)
      else ({ s with cyc.cue := .none } : State).askSelection := by
  unfold State.chooseOnce
  simp only [hb]
  rfl

/-- A batch that closes gives a fresh choice from rule 1 (R35, R36). -/
theorem State.choose_closes {s t : State} {slot : Nat} (hb : s.cyc.batch = some slot) (hc : s.batchCloses slot = true)
    (h : ({ s with cyc.cue := .none, cyc.batch := none } : State).chooseUnbatched = (t, false)) : s.choose = t := by
  let closed : State := { s with cyc.cue := .none, cyc.batch := none }
  have first : s.chooseOnce = (closed, true) := (State.chooseOnce_batched hb).trans (if_pos hc)
  have second : closed.chooseOnce = (t, false) := (State.chooseOnce_unbatched (s := closed) rfl).trans h
  rw [State.choose, State.chooseUpTo_again _ first]
  exact State.chooseUpTo_stops _ second

/-- A batch that stays open asks the store (R35 rule 2). -/
theorem State.choose_inBatch {s t : State} {slot : Nat} (hb : s.cyc.batch = some slot) (hc : ¬s.batchCloses slot = true)
    (h : ({ s with cyc.cue := .none } : State).askSelection = (t, false)) : s.choose = t :=
  State.chooseUpTo_stops _ ((State.chooseOnce_batched hb).trans ((if_neg hc).trans h))

/-! ### An impression completed (R12, R37) -/

/-- The flags a completed hold writes (R12, R134). -/
def State.completedFlags (s : State) (mark : TickSource) : IndentFlags :=
  { s.cyc.gatheredIndent with
    dwellUntraceable := s.cyc.gatheredIndent.dwellUntraceable || (s.frc.holdSource.isNone && mark == .internal) }

/-- The station once the entry of a completed impression is written and QUIET released (R12, R37). -/
def State.impressionWritten (s : State) (i : IndentItem) (mark : TickSource) : State :=
  { s with
    sst.map := s.mapWith i.fields.site (Entry.completed (s.completedFlags mark) s.frc.holdMean)
    fcu.claim := .none, fcu.claimRefresh := none, fcu.collided := []
    fli := s.fli.released .quiet }

theorem State.completedFlags_eq {s : State} {mark : TickSource} (hm : s.cyc.contactMark = some mark) :
    s.cyc.gatheredIndent.union s.dwellFlags = s.completedFlags mark := by
  rw [State.dwellFlags_eq hm, IndentFlags.union_dwell]
  rfl

/-- A completed INDENT is written and released before its item goes on (R12, R37). -/
theorem State.indentCompleted_written {s : State} {i : IndentItem} {mark : TickSource} (hm : s.cyc.contactMark = some mark)
    (hc : s.fcu.claim = .held .quiet) (hn : s.fcu.need = none) :
    s.indentCompleted i = (s.impressionWritten i mark).afterIndent (.indent i) := by
  have write : s.writeCompleted i.fields =
      { s with sst.map := s.mapWith i.fields.site (Entry.completed (s.completedFlags mark) s.frc.holdMean) } := by
    rw [State.writeCompleted, State.completedFlags_eq hm]
    rfl
  rw [State.indentCompleted, if_pos (by rw [hm]; rfl), write]
  exact congrArg (State.afterIndent · _) (State.release_held (s := { s with
    sst.map := s.mapWith i.fields.site (Entry.completed (s.completedFlags mark) s.frc.holdMean) }) hc hn)

/-- The completed write moves no entry on or off the measure list (R12). -/
theorem State.impressionWritten_measureList (s : State) (i : IndentItem) (mark : TickSource) :
    (s.impressionWritten i mark).sst.measureList = s.sst.measureList := by
  simp only [Store.measureList, State.impressionWritten, State.mapWith]
  induction s.sst.map with
  | nil => rfl
  | cons e es ih =>
    have kept : (if e.fields.site = i.fields.site then Entry.completed (s.completedFlags mark) s.frc.holdMean e else e).outcome =
        e.outcome ∧
        (if e.fields.site = i.fields.site then Entry.completed (s.completedFlags mark) s.frc.holdMean e else e).fields =
          e.fields := by
      split <;> exact ⟨rfl, rfl⟩
    simp only [List.map_cons, List.filter_cons, kept.1]
    split
    · simp only [List.map_cons, kept.2, ih]
    · exact ih

/-- The completed write makes no conflict (R20, R21). -/
theorem State.impressionWritten_spacing {s : State} {f : SiteFields} (i : IndentItem) (mark : TickSource)
    (hlen : s.sst.map.length < 256) (hcon : ∀ d ∈ s.sst.map, s.cfg.conflicts f d = false) :
    ∀ u : State, u.cfg = s.cfg → u.sst.map = (s.impressionWritten i mark).sst.map → u.spacing f = .proceed := by
  intro u hcfg hmap
  refine State.spacing_proceeds ?_ fun d hd => ?_
  · rw [hmap]
    simpa [State.impressionWritten, State.mapWith] using hlen
  · rw [hmap] at hd
    rw [hcfg]
    obtain ⟨e, he, rfl⟩ := List.mem_map.mp hd
    split
    · exact hcon e he
    · exact hcon e he

/-- An entry that waits for its measurement is on the measure list. -/
theorem Store.mem_measureList {st : Store} {site : Nat} {e : Entry} (he : st.entry? site = some e)
    (ho : e.outcome = .awaitingMeasure) : site ∈ st.measureList := by
  have found : e.fields.site = site := by simpa using List.find?_some he
  refine List.mem_map.mpr ⟨e, List.mem_filter.mpr ⟨List.mem_of_find?_eq_some he, ?_⟩, found⟩
  simp [ho]

/-! ### RETRACTED at each item -/

/-- A view with no mark opposes nothing. -/
theorem Fcu.unopposed_of_none {f : Fcu} (h : ∀ v ∈ f.view, v.claim = none ∧ v.holdoff = none) : f.unopposed := fun v hv =>
  ⟨fun m hm => by simp [(h v hv).1] at hm, fun m hm => by simp [(h v hv).2] at hm⟩

/-- With no item in hand RETRACTED changes nothing more (R46, R48). -/
theorem State.onRetracted_nothing {s : State} (hc : s.cyc.current = none) (hm : s.cyc.mode ≠ .start)
    (hm' : s.cyc.mode ≠ .pausing) : s.onRetracted = s := by
  rw [State.onRetracted_item hm, State.retractedAtItem_idle hc, State.checkPaused_elsewhere hm']

/-- RETRACTED ends a START that waited for it (R30). -/
theorem State.onRetracted_start {s : State} (hc : s.cyc.current = none) (hf : s.frc.state = .retracted)
    (hm : s.cyc.mode = .start) (hr : s.cyc.configReading = false) (hi : s.cyc.imageHeld = true)
    (hh : s.cyc.haltSeen = false) :
    s.onRetracted = ({ s with cyc.mode := .ready } : State).enterListenIn s.cyc.startCause := by
  rw [State.onRetracted, State.tryEndStart_ready hm hf hr hi hh, State.retractedAtItem_idle (by exact hc),
    State.checkPaused_elsewhere (by rintro ⟨⟩)]

/-- A motion phase that waited for RETRACTED claims MOTION (R32, R48, R55). -/
theorem State.onRetracted_claims {s : State} {w : Work} {p : Phase} (hp : p = .toSite ∨ p = .toView)
    (hc : s.cyc.current = some { work := w, phase := p, step := .waiting }) (hm : s.cyc.mode ≠ .start)
    (h : s.mayClaimMotion) : s.onRetracted = s.claimingMotion w p := by
  obtain ⟨hf, hstop, himg, hact, hdoubt, hneed, hclaim, hview⟩ := h
  have kind : p.claim = some .motion := by rcases hp with rfl | rfl <;> rfl
  have ready : s.phaseReady p = true := by rcases hp with rfl | rfl <;> rfl
  have claims := State.trySetNeed_claims hc rfl kind hneed (State.atRest_iff.mpr ⟨hf, hstop, himg⟩) ready hclaim
    (Fcu.motionPermitted hact hdoubt hview)
  have same : s.cyc = { s.cyc with current := some { work := w, phase := p, step := .waiting } } := by rw [← hc]
  rw [State.onRetracted_item hm, State.retractedAtItem_motion hp hc, claims, State.checkPaused_busy (by exact hc),
    State.claimingMotion, ← same]

/-- The station once the item of an INDENT phase has ended and released QUIET (R39). -/
def State.indentEnded (s : State) : State :=
  { s with
    fcu.claim := .none, fcu.claimRefresh := none, fcu.collided := []
    fli := s.fli.released .quiet
    cyc := s.cyc.dropCurrent }

/-- RETRACTED ends the item in ENDING, and the Cycle Controller goes on (R39, R44). -/
theorem State.onRetracted_ending {s : State} {w : Work} (hm : s.cyc.mode ≠ .start)
    (hc : s.cyc.current = some { work := w, phase := .indent, step := .ending }) (hclaim : s.fcu.claim = .held .quiet)
    (hneed : s.fcu.need = none) : s.onRetracted = s.indentEnded.continueWork.checkPaused := by
  rw [State.onRetracted_item hm, State.retractedAtItem_ending hc, State.release_held hclaim hneed]
  rfl

/-- What a force deadline leaves, by R50 and R125: nothing but the record `f` where the station is FAULTED already. -/
theorem exec_forceDeadline {s : State} {c : Instr} {f : Frc} {cause : FaultCause}
    (he : exec c s = .next (({ s with frc := f } : State).stationFault cause)) :
    s.cyc.mode = .faulted → exec c s = .next { s with frc := f } := fun hm =>
  he.trans (congrArg _ (State.stationFault_faulted (s := { s with frc := f }) hm cause))

/-- Settles O54: the deadlines, each pair of the retract, and RETRACTED by the current item. -/
theorem withdrawalsEnd : Obligations.WithdrawalsEnd := by
  unfold Obligations.WithdrawalsEnd
  intro s d hl
  have hr := hl.1
  refine ⟨fun hd hdue => ?_, fun hd hearly => ?_, fun p q hs => ?_⟩
  · intro ahead fast retract stopped faulted
    have isDue : due s.frc.deadline s.now = true := by
      rw [hd]
      exact due_reached hdue
    have entered : s.frc.enterRetract s.now = retract := Frc.enterRetract_eq ..
    have ends : ∀ (c : Instr) (cause : FaultCause) (f : Frc), f.state.inCycle = false → f.holdMean = s.frc.holdMean →
        f.holdSource = s.frc.holdSource →
        exec c s = .next (({ s with frc := f } : State).stationFault cause) → faulted c cause f := by
      intro c cause f hf hmean hsource he
      refine ⟨exec_forceDeadline he, fun hm => ⟨_, he, ?_⟩⟩
      obtain ⟨hmode, hcause, hcur, hfrc, hqueue, htbu, hcfg, hclaim, hending, hworking⟩ :=
        State.forceFault_facts (s := s) (f := f) cause hm hf
      refine ⟨hmode, hcause, hcur, hfrc, hqueue, htbu, hcfg, hclaim, hending, fun i hc hroom => ?_⟩
      refine ⟨(hworking i hc hroom).1, fun mark e hmark he => ?_⟩
      have same : ({ s with frc := f } : State).impressionAbandoned mark = s.impressionAbandoned mark := by
        funext e
        simp only [State.impressionAbandoned, hmean, hsource]
      have wrote := (hworking i hc hroom).2 mark e hmark he
      rw [same] at wrote
      exact wrote
    refine ⟨fun hs => ends .unloadTimeout .unloadTimeout fast rfl rfl rfl ?_,
      fun hs => ends .fastUnloadTimeout .unloadTimeout retract rfl rfl rfl ?_,
      fun hs => ends .retractTimeout .retractTimeout stopped ?_ rfl rfl ?_⟩
    · have unloads : s.frc.unloadTimeout s.now = (fast, [.unloadTimeout]) := if_pos ⟨hs, isDue⟩
      exact State.timeout_faults (by rw [exec_unloadTimeout, State.act_live hr]) unloads
        State.onForceReport_unloadTimeout
    · have retracts : s.frc.fastUnloadTimeout s.now = (retract, [.unloadTimeout]) :=
        (if_pos ⟨hs, isDue⟩).trans (by rw [entered])
      exact State.timeout_faults (by rw [exec_fastUnloadTimeout, State.act_live hr]) retracts
        State.onForceReport_unloadTimeout
    · rw [show stopped.state = .retract from hs]
      rfl
    · have stops : s.frc.retractTimeout s.now = (stopped, [.retractTimeout]) := if_pos ⟨hs, isDue⟩
      exact State.timeout_faults (by rw [exec_retractTimeout, State.act_live hr]) stops
        State.onForceReport_retractTimeout
  · refine exec_forceTimeouts_early hr ?_
    rw [hd]
    exact due_early hearly
  · intro reading read retracted
    have pairs : ∀ f : Frc, read.retractPair s.cfg p.toInt q.toInt = (f, []) → exec (.samplePair p q) s = .next { s with frc := f } :=
      fun f hf => exec_samplePair_silent hr ((Frc.takePair_retract hs ..).trans hf)
    refine ⟨fun z hdrive hz => ?_, ?_⟩
    · refine (exec_samplePair_silent hr ((Frc.takePair_retract hs ..).trans
        (Frc.retractPair_running (f := read) hdrive hz ..))).trans ?_
      rfl
    intro free
    have isFree : free ↔ s.cfg.free p.toInt = true ∧ s.cfg.free q.toInt = true := by
      simp only [free, ConfigImage.free_iff, and_assoc]
    refine ⟨fun hdrive hn => pairs _ (Frc.retractPair_homeDrive (f := read) hdrive hn ..), fun hdrive hn hfree => ?_,
      fun hdrive hfree => ?_, fun hdrive => pairs _ (Frc.retractPair_stopped (f := read) hdrive ..),
      exec_homeDriveDone_named hr hs p q, exec_freeTestPass_named hr hs p q, fun hdrive hn => ?_,
      fun hdrive hn h1 h2 h3 h4 => ?_⟩
    · obtain ⟨hp, hq⟩ := isFree.mp hfree
      exact pairs _ ((Frc.retractPair_freeTest (f := read) hdrive ..).trans (Frc.freePair_free (f := read) hp hq hn))
    · exact pairs _ ((Frc.retractPair_freeTest (f := read) hdrive ..).trans
        (Frc.freePair_disturbed (f := read) (hfree ∘ isFree.mpr)))
    · rw [exec_homeDriveDone_named hr hs, if_pos ⟨hdrive, hn⟩]
      exact pairs _ (Frc.retractPair_homeDriveEnds (f := read) hdrive hn ..)
    obtain ⟨hp, hq⟩ := isFree.mp ⟨h1, h2, h3, h4⟩
    let u : State := { s with frc := retracted }
    have retracts : exec (.freeTestPass p q) s = .next u.onRetracted :=
      exec_freeTestPass_retracts hr hs hdrive hn hp hq
    refine ⟨fun hc => ⟨fun hm hm' => ?_, fun hm hread hheld hhalt => ?_⟩,
      fun w p' hp' hc hm hclaim hneed hact hdoubt hview hstop himg => ?_, fun w hc hclaim hneed hb hu => ?_,
      fun i mark e hc hmark he ho hm hclaim hneed hact hdoubt hview hstop himg => ?_⟩
    · exact retracts.trans (congrArg _ (State.onRetracted_nothing (s := u) hc hm hm'))
    · exact retracts.trans (congrArg _ (State.onRetracted_start (s := u) hc rfl hm hread hheld hhalt))
    · have claims := State.onRetracted_claims (s := u) hp' hc hm
        ⟨rfl, hstop, himg, hact, hdoubt, hneed, hclaim, Fcu.unopposed_of_none hview⟩
      refine retracts.trans (congrArg _ (claims.trans ?_))
      rw [State.claimingMotion, ← hc]
    · intro freed
      have notStart : s.cyc.mode = .pausing ∨ s.cyc.mode = .running → s.cyc.mode ≠ .start := by
        rintro (h | h) <;> rw [h] <;> decide
      have ended : ∀ t : State, s.cyc.mode = .pausing ∨ s.cyc.mode = .running → freed.continueWork = t →
          t.checkPaused = t → exec (.freeTestPass p q) s = .next t := fun t hm hgoes hstays =>
        retracts.trans (congrArg _ ((State.onRetracted_ending (s := u) (notStart hm) hc hclaim hneed).trans
          ((congrArg State.checkPaused hgoes).trans hstays)))
      have running : ∀ t : State, s.cyc.mode = .running → t.cyc.mode = .running → freed.choose = t →
          exec (.freeTestPass p q) s = .next t := fun t hm ht hgoes =>
        ended t (.inr hm) ((State.continueWork_running (s := freed) rfl hm).trans hgoes)
          (State.checkPaused_elsewhere (by simp [ht]))
      refine ⟨fun hm => ?_, fun hm hq => ?_, fun j rest hm hw hq hlen hcon hact hdoubt hview hstop himg => ?_⟩
      · exact ended _ (.inl hm) (State.continueWork_paused (s := freed) rfl hm hu (by simp [freed]) hneed rfl)
          (State.checkPaused_elsewhere (by rintro ⟨⟩))
      · exact running _ hm hm (State.choose_nothing (s := freed) hb hu hq)
      · have may : ({ freed.headTaken rest with cyc.cue := .none } : State).mayClaimMotion :=
          ⟨rfl, hstop, himg, hact, hdoubt, hneed, rfl, Fcu.unopposed_of_none hview⟩
        exact running _ hm hm ((State.choose_proceeds (s := freed) hb hu hw hq
          (State.spacing_proceeds (s := freed) hlen hcon)).trans (State.enterPhase_claiming (.inl rfl) may))
    · intro g flags completed dropped
      let written : State := u.impressionWritten i mark
      have goes : ∀ t : State, t.cyc.mode = .running → written.afterIndent (.indent i) = t →
          exec (.freeTestPass p q) s = .next t := fun t ht hgoes => by
        refine retracts.trans (congrArg _ ?_)
        rw [State.onRetracted_item (s := u) (by rw [show u.cyc.mode = .running from hm]; decide),
          State.retractedAtItem_working (s := u) hc, State.indentCompleted_written (s := u) hmark hclaim hneed]
        exact (congrArg State.checkPaused hgoes).trans (State.checkPaused_elsewhere (by simp [ht]))
      have list : written.sst.measureList = s.sst.measureList := State.impressionWritten_measureList ..
      have may : written.mayClaimMotion :=
        ⟨rfl, hstop, himg, hact, hdoubt, hneed, rfl, Fcu.unopposed_of_none hview⟩
      refine ⟨fun hw => ?_, fun slot hw hb => ?_⟩
      · have onList : (Work.indent i).site ∈ written.sst.measureList := by
          rw [list]
          exact Store.mem_measureList he ho
        exact goes _ hm ((if_pos ⟨hw, onList⟩).trans (State.enterPhase_claiming (.inr rfl) may))
      · intro closes
        let ended : State := { written with cyc := written.cyc.dropCurrent }
        have elsewhere : ¬(written.cyc.workMode = .perSite ∧ (Work.indent i).site ∈ written.sst.measureList) := by
          rw [show written.cyc.workMode = .batch from hw]
          rintro ⟨⟨⟩, _⟩
        have chosen : ∀ t : State, t.cyc.mode = .running → ended.choose = t → exec (.freeTestPass p q) s = .next t :=
          fun t ht hchosen => goes t ht ((if_neg elsewhere).trans ((State.endItem_running (s := written) hm).trans hchosen))
        have closing : ended.batchCloses slot = true ↔ closes := by
          rw [State.batchCloses_iff, show ended.sst.measureList = s.sst.measureList from list]
          rfl
        refine ⟨fun first hcloses hfirst => ?_, fun j rest hopen hq hlen hcon => ?_⟩
        · let fresh : State := { ended with cyc.cue := .none, cyc.batch := none }
          have undelivered : fresh.undelivered? = some first := by
            unfold State.undelivered?
            rw [show fresh.sst.measureList = s.sst.measureList from list]
            exact hfirst
          have mayFresh : fresh.mayClaimMotion := may
          exact chosen (fresh.claimingMotion (.listed first) .toView) hm (State.choose_closes (s := ended) hb (closing.mpr hcloses)
            ((State.chooseUnbatched_listed (s := fresh) undelivered).trans
              (congrArg (·, false) (State.enterPhase_claiming (.inr rfl) mayFresh))))
        · let fresh : State := { ended with cyc.cue := .none }
          let taken : State := fresh.headTaken rest
          have kept : fresh.cyc.batchFor j = fresh.cyc.batch := by
            simp only [Cyc.batchFor, show fresh.cyc.workMode = .batch from hw, show fresh.cyc.batch = some slot from hb]
          have proceeds := State.askSelection_proceeds (s := fresh) hq
            (State.impressionWritten_spacing i mark hlen hcon fresh rfl rfl)
          rw [kept] at proceeds
          have mayTaken : taken.mayClaimMotion := may
          exact chosen (taken.claimingMotion (.indent j) .toSite) hm (State.choose_inBatch (s := ended) hb (hopen ∘ closing.mp)
            (proceeds.trans (congrArg (·, false) (State.enterPhase_claiming (.inl rfl) mayTaken))))

end Sys2Proof.Machine
end

section
/-!
PROOFS. How the IMAGE work ends, and a capture attempt (O56).
-/

-- One theorem after another: each one elaborated beside the others takes a thread with a stack of its own.
set_option Elab.async false

namespace Sys2Proof.Machine

/-! ### Nothing else to do after an item (R35, R46) -/

/-- In RUNNING nothing is queued and no batch is open; in PAUSING the head is withdrawn. -/
def State.workDone (s : State) : Prop :=
  (s.cyc.mode = .running ∧ s.cyc.batch = none ∧ s.sst.queue = []) ∨ (s.cyc.mode = .pausing ∧ s.frc.state = .retracted)

/-- The station with nothing else to do: RUNNING waits with cue PLAN, PAUSING is PAUSED (R35, R46). -/
def State.idled (s : State) : State :=
  if s.cyc.mode = .running then { s with cyc.cue := .plan } else { s with cyc.mode := .paused }

theorem State.continueWork_idles {s : State} (h : s.workDone) (hc : s.cyc.current = none) (hu : s.undelivered? = none)
    (hclaim : s.fcu.claim = .none) (hn : s.fcu.need = none) : s.continueWork = s.idled := by
  rcases h with ⟨hm, hb, hq⟩ | ⟨hm, hf⟩
  · rw [State.continueWork_running hc hm, State.choose_nothing hb hu hq, State.idled, if_pos hm]
  · rw [State.continueWork_paused hc hm hu (by simp [hclaim]) hn hf, State.idled, if_neg (by simp [hm])]

/-- Nothing but the mode and the cue change. -/
theorem State.idled_rest (s : State) : ∃ mode cue, s.idled = { s with cyc.mode := mode, cyc.cue := cue } := by
  unfold State.idled
  split
  · exact ⟨_, _, rfl⟩
  · exact ⟨_, _, rfl⟩

theorem State.idled_cyc {s : State} (h : s.workDone) :
    s.idled.cyc.mode = (if s.cyc.mode = .running then .running else .paused) ∧
      (s.cyc.mode = .running → s.idled.cyc.cue = .plan) := by
  unfold State.idled
  rcases h with ⟨hm, -, -⟩ | ⟨hm, -⟩
  · rw [if_pos hm, if_pos hm]
    exact ⟨hm, fun _ => rfl⟩
  · rw [if_neg (by simp [hm]), if_neg (by simp [hm])]
    exact ⟨rfl, by simp [hm]⟩

/-! ### The end of the IMAGE work (R42, R147) -/

/-- The station once the IMAGE work has delivered, released QUIET and its item has ended. -/
def State.imageDelivered (s : State) (name : SlotName) (d : Delivery) : State :=
  { s with
    mea := s.mea.set name (.ready d)
    img := s.img.ended
    fcu.claim := .none, fcu.claimRefresh := none, fcu.collided := []
    fli := s.fli.released .quiet
    cyc := { s.cyc with delivered := s.cyc.delivered ++ [d.site] }.dropCurrent }

theorem State.imageEnded_delivers {s : State} {name : SlotName} {c : Current} {f : SiteFields} (hi : s.img.reserved = some name)
    (hc : s.cyc.current = some c) (hf : s.fieldsOf c.work = some f) (hclaim : s.fcu.claim = .held .quiet)
    (hn : s.fcu.need = none) (e : ImageEnding) (haltDue : Bool) :
    s.imageEnded e haltDue =
      ((s.imageDelivered name (s.delivery f e)).computeDelivered haltDue).continueWork := by
  have released := State.release_held (s := s.deliver name (s.delivery f e)) hclaim hn
  simp only [State.imageEnded, hi, hc, hf]
  rw [released]
  rfl

/-- The IMAGE work in hand is that of the only entry, and nothing else is to do after it. -/
structure State.LastImage (s : State) (site : Nat) (name : SlotName) (e : Entry) : Prop where
  current : s.cyc.current = some { work := .listed site, phase := .image, step := .working }
  reserved : s.img.reserved = some name
  slots : s.mea = Mea.set { slotA := .free, slotB := .free } name (.filling site)
  map : s.sst.map = [e]
  site : e.fields.site = site
  claim : s.fcu.claim = .held .quiet
  need : s.fcu.need = none
  delivered : s.cyc.delivered = []
  done : s.workDone

/-- What the end of the IMAGE work leaves where nothing else is to do: the unit dark and IDLE, the claim released, no item, and
the rest of the station but for the slots and what a write changes (R35, R46, R147). -/
def State.imageLeft (s t : State) : Prop :=
  t.cyc.mode = (if s.cyc.mode = .running then .running else .paused) ∧ t.cyc.current = none ∧
    (s.cyc.mode = .running → t.cyc.cue = .plan) ∧ t.img = s.img.ended ∧ t.fcu.claim = .none ∧
    t.fli.notices = (s.fli.released .quiet).notices ∧ t.mot = s.mot ∧ t.frc = s.frc ∧ t.tbu = s.tbu ∧ t.cfg = s.cfg ∧
    t.sst.queue = s.sst.queue

/-- A station left as `imageLeft` says, but not yet idled, is so once it is. -/
theorem State.imageLeft_idled {s v : State} (h : v.workDone)
    (hv : v.cyc.mode = s.cyc.mode ∧ v.cyc.current = none ∧ v.img = s.img.ended ∧ v.fcu.claim = .none ∧
      v.fli.notices = (s.fli.released .quiet).notices ∧ v.mot = s.mot ∧ v.frc = s.frc ∧ v.tbu = s.tbu ∧ v.cfg = s.cfg ∧
      v.sst.queue = s.sst.queue) : s.imageLeft v.idled := by
  obtain ⟨hmode, hcur, rest⟩ := hv
  obtain ⟨mode, cue⟩ := State.idled_cyc h
  rw [hmode] at mode cue
  obtain ⟨m, q, he⟩ := v.idled_rest
  refine ⟨mode, ?_, cue, ?_⟩
  · rw [he]
    exact hcur
  · rw [he]
    exact rest

section LastImage
variable {s : State} {site : Nat} {name : SlotName} {e : Entry}

theorem State.LastImage.fields (h : s.LastImage site name e) : s.fieldsOf (.listed site) = some e.fields := by
  simp [State.fieldsOf, ← h.site, Store.entry?_single h.map]

/-- The slot of the work becomes READY, or as `slot` says. -/
theorem State.LastImage.slots_set (h : s.LastImage site name e) (slot : ProfileSlot) :
    s.mea.set name slot = Mea.set { slotA := .free, slotB := .free } name slot := by
  rw [h.slots]
  cases name <;> rfl

theorem State.LastImage.permits (h : s.LastImage site name e) : s.cyc.mode.permits = true := by
  rcases h.done with ⟨hm, -, -⟩ | ⟨hm, -⟩ <;> rw [hm] <;> rfl

theorem State.LastImage.delivers (h : s.LastImage site name e) (x : ImageEnding) (haltDue : Bool) :
    s.imageEnded x haltDue =
      ((s.imageDelivered name (s.delivery e.fields x)).computeDelivered haltDue).continueWork :=
  State.imageEnded_delivers h.reserved h.current h.fields h.claim h.need x haltDue

/-- The delivered entry is the only one, so nothing is undelivered. -/
theorem State.LastImage.undelivered (h : s.LastImage site name e) (x : ImageEnding) :
    (s.imageDelivered name (s.delivery e.fields x)).undelivered? = none :=
  State.undelivered_none (by
    intro e' he' _
    have same : e' = e := by simpa [State.imageDelivered, h.map] using he'
    rw [same]
    simp [State.imageDelivered, Cyc.dropCurrent, State.delivery])

/-- A delivery left READY, as a HALT that falls due together leaves it (R149; log 51). -/
theorem State.LastImage.ready (h : s.LastImage site name e) (x : ImageEnding) :
    let t := s.imageEnded x true
    s.imageLeft t ∧ t.sst = s.sst ∧ t.cyc.delivered = [site] ∧ t.evc = s.evc ∧ t.fli.messages = s.fli.messages ∧
      t.mea = Mea.set { slotA := .free, slotB := .free } name (.ready (s.delivery e.fields x)) := by
  let v : State := s.imageDelivered name (s.delivery e.fields x)
  have idles : s.imageEnded x true = v.idled :=
    (h.delivers x true).trans (State.continueWork_idles h.done rfl (h.undelivered x) rfl h.need)
  have left : s.imageLeft v.idled := State.imageLeft_idled h.done ⟨rfl, rfl, rfl, rfl, rfl, rfl, rfl, rfl, rfl, rfl⟩
  have delivered : v.cyc.delivered = [site] := by
    simp [v, State.imageDelivered, Cyc.dropCurrent, h.delivered, State.delivery, h.site]
  obtain ⟨mode, cue, rest⟩ := v.idled_rest
  intro t
  rw [show t = v.idled from idles]
  refine ⟨left, ?_⟩
  rw [rest]
  exact ⟨rfl, delivered, rfl, rfl, h.slots_set _⟩

/-- Delivered profiles start their computation (R152). -/
theorem State.LastImage.computing (h : s.LastImage site name e) (p : Profiles) :
    let t := s.imageEnded (.delivered p) false
    s.imageLeft t ∧ t.sst = s.sst ∧ t.cyc.delivered = [site] ∧ t.evc = s.evc ∧
      t.mea = Mea.set { slotA := .free, slotB := .free } name (.computing (s.delivery e.fields (.delivered p))) := by
  let d : Delivery := s.delivery e.fields (.delivered p)
  let u : State := s.imageDelivered name d
  let v : State := { u with mea := Mea.set { slotA := .free, slotB := .free } name (.computing d) }
  have mea : u.mea = Mea.set { slotA := .free, slotB := .free } name (.ready d) := h.slots_set _
  have profiled : ∀ (n : SlotName) (d' : Delivery), u.mea.get n = .ready d' → d'.profiles ≠ none := by
    intro n d' hd
    rw [mea] at hd
    cases name <;> cases n <;> cases hd <;> simp [d, State.delivery, ImageEnding.profiles]
  have started : u.mea.started = v.mea := by
    rw [mea]
    cases name <;> rfl
  have starts : u.startComputations = v := by
    rw [State.startComputations_profiled (s := u) h.permits profiled, started]
  have idles : s.imageEnded (.delivered p) false = v.idled :=
    (h.delivers _ false).trans ((congrArg State.continueWork starts).trans
      (State.continueWork_idles (s := v) h.done rfl (h.undelivered _) rfl h.need))
  have left : s.imageLeft v.idled := State.imageLeft_idled h.done ⟨rfl, rfl, rfl, rfl, rfl, rfl, rfl, rfl, rfl, rfl⟩
  have delivered : v.cyc.delivered = [site] := by
    simp [v, u, State.imageDelivered, Cyc.dropCurrent, h.delivered, d, State.delivery, h.site]
  obtain ⟨mode, cue, rest⟩ := v.idled_rest
  intro t
  rw [show t = v.idled from idles]
  refine ⟨left, ?_⟩
  rw [rest]
  exact ⟨rfl, delivered, rfl, rfl⟩

/-- The entry of a work that failed (R9, R147). -/
def Entry.imageFailed (e : Entry) (flags : MeasureFlags) : Entry :=
  { e with
    outcome := .measureFailed, measureFlags := flags, d1 := none, d2 := none, hardness := none, count := 1 }

/-- A failed work of an entry that waits for its measurement is written at once (R14, R147, R152). -/
theorem State.LastImage.written (h : s.LastImage site name e) {x : ImageEnding} (hp : x.profiles = none)
    (hx : (x.flags s.cyc.gatheredMeasure).failed = true) (ho : e.outcome = .awaitingMeasure) (hr : s.hasMessageRoom 1)
    (hcue : s.cyc.cue = .none) :
    let t := s.imageEnded x false
    let w := e.imageFailed (x.flags s.cyc.gatheredMeasure)
    s.imageLeft t ∧ t.sst.map = [w] ∧ t.cyc.delivered = [] ∧ t.mea = { slotA := .free, slotB := .free } ∧
      t.fli.messages = s.fli.messages ++ [{ message := .siteDone w .measureFailed w.measureFlags, restart := false }] := by
  intro t w
  let d : Delivery := s.delivery e.fields x
  let u : State := s.imageDelivered name d
  let v : State := u.bareCompleted d w
  have mea : u.mea = Mea.set { slotA := .free, slotB := .free } name (.ready d) := h.slots_set _
  have completed : u.completeSlot name d = v := State.completeSlot_bare (s := u) hr mea hp hx h.map rfl ho
  have cue : v.cyc.cue = .none := by
    simp [v, u, State.bareCompleted, State.reported, State.imageDelivered, Cyc.dropCurrent, hcue, State.answered]
  have computed : u.startComputations = v :=
    (State.startComputations_bare (s := u) h.permits mea hp).trans
      ((congrArg _ completed).trans (State.afterWrite_idle rfl cue rfl))
  have nothing : v.undelivered? = none :=
    State.undelivered_none (by simp [v, State.bareCompleted, State.reported, w, Entry.imageFailed])
  have idles : t = v.idled :=
    (h.delivers x false).trans ((congrArg State.continueWork computed).trans
      (State.continueWork_idles h.done rfl nothing rfl h.need))
  have left : s.imageLeft v.idled := State.imageLeft_idled h.done ⟨rfl, rfl, rfl, rfl, rfl, rfl, rfl, rfl, rfl, rfl⟩
  have delivered : v.cyc.delivered = [] := by
    simp [v, u, State.bareCompleted, State.reported, State.answered, State.imageDelivered, Cyc.dropCurrent, h.delivered, d]
  obtain ⟨mode, cue, rest⟩ := v.idled_rest
  rw [idles]
  refine ⟨left, ?_⟩
  rw [rest]
  exact ⟨rfl, delivered, rfl, rfl⟩

end LastImage

/-! ### Capture attempts (R141 to R143) -/

theorem exec_fvalRise_live {s : State} (hr : s.resetHeld = false) : exec .fvalRise s = .next { s with img := s.img.frameStart } := by
  rw [exec_fvalRise, State.act_live hr]

/-- A stall or a short frame of a frame being received fails the attempt (R142). -/
theorem exec_frameFails {s : State} {c : Instr} {halt : Bool} (hr : s.resetHeld = false)
    (hc : c = .pclkStall halt ∨ c = .shortFrame halt) : exec c s = .next (s.frameFails halt) := by
  rcases hc with rfl | rfl
  · rw [exec_pclkStall, State.act_live hr]
  · rw [exec_shortFrame, State.act_live hr]

/-- An attempt fails at the stall or the short frame of the frame received, and where no frame came in time (R142). -/
theorem exec_attemptFails {s : State} {c : Instr} {halt : Bool} (hr : s.resetHeld = false) (hs : s.img.state = .capture)
    (h : ((c = .pclkStall halt ∨ c = .shortFrame halt) ∧ s.img.frameWaitEnd = none) ∨
      (c = .frameWaitEnd halt ∧
        ∃ d, s.img.frameWaitEnd = some d ∧ d.interval ≤ (s.tbu.stationTime - d.setAt).toNat)) :
    exec c s = .next (State.withImage s.attemptFailed halt) := by
  rcases h with ⟨hc, hw⟩ | ⟨rfl, d, hw, hd⟩
  · have receiving : s.img.receiving = true := by simp [Img.receiving, hs, hw]
    rw [exec_frameFails hr hc, State.frameFails, if_pos receiving]
  · have isDue : due s.img.frameWaitEnd s.now = true := by
      rw [hw]
      exact due_reached hd
    rw [exec_frameWaitEnd, State.act_live hr, State.noFrame, if_pos ⟨hs, isDue⟩]

/-- Settles O56: what ends the wait, the retries, and the last failure. -/
theorem captureAttempts : Obligations.CaptureAttempts := by
  unfold Obligations.CaptureAttempts
  intro s hl waitEnd
  have hr := hl.1
  refine ⟨fun d hs hd hdue => ?_, fun hs => ?_, fun hs => ?_, fun c halt hs hc => ⟨fun hn => ?_, ?_⟩⟩
  · have isDue : due s.img.settleEnd s.now = true := by
      rw [hd]
      exact due_reached hdue
    rw [exec_focusSettleEnd, State.act_live hr, State.focusSettleEnd, if_pos ⟨hs, isDue⟩]
    rfl
  · rw [exec_fvalRise_live hr, Img.frameStart, if_pos hs]
  · have idle : s.img.receiving = false := by simp [Img.receiving, hs]
    have stays : ∀ halt, s.frameFails halt = s := fun halt => if_neg (by simp [idle])
    refine ⟨?_, fun halt => ⟨?_, ?_⟩⟩
    · rw [exec_fvalRise_live hr, Img.frameStart, if_neg hs]
    · rw [exec_frameFails hr (.inl rfl), stays]
    · rw [exec_frameFails hr (.inr rfl), stays]
  · rw [exec_attemptFails hr hs hc, State.attemptFailed, if_pos hn]
    simp only [State.withImage, State.beginAttempt, ← hs]
    rfl
  · intro site name e hn hcur hi hmea hmap he ho hq hclaim hneed hm hb hcue hdel hroom written ended
    have fails : exec c s = .next (s.imageEnded .captureStall halt) := by
      rw [exec_attemptFails hr hs hc, State.attemptFailed, if_neg (Nat.not_lt.mpr hn)]
      rfl
    have last : s.LastImage site name e := ⟨hcur, hi, hmea, hmap, he, hclaim, hneed, hdel, .inl ⟨hm, hb, hq⟩⟩
    have leaves : ∀ v : State, s.imageLeft v → ended v := by
      intro v hv
      obtain ⟨-, hcur, hcue, himg, hclaim, hnot, hmot, hfrc, htbu, hcfg, hqueue⟩ := hv
      refine ⟨hcur, hcue hm, hqueue.trans hq, ?_, ?_, ?_, ?_, hclaim, hnot, hmot, hfrc, htbu, hcfg⟩
      all_goals
        rw [himg]
        rfl
    refine ⟨fun hh => ?_, fun hh => ?_⟩
    · subst hh
      obtain ⟨left, wrote⟩ := last.written (x := .captureStall) rfl (by simp [ImageEnding.flags, MeasureFlags.failed]) ho
        hroom hcue
      exact ⟨_, fails, leaves _ left, wrote⟩
    · subst hh
      obtain ⟨left, hsst, hdelivered, -, hmessages, hslots⟩ := last.ready .captureStall
      exact ⟨_, _, fails, leaves _ left, hsst, hdelivered, hslots, he, rfl, rfl, rfl, rfl, hmessages⟩

end Sys2Proof.Machine
end

section
/-!
PROOFS. The window, its profiles and their sharpness, and what a whole window does (O57).
-/

-- One theorem after another: each one elaborated beside the others takes a thread with a stack of its own.
set_option Elab.async false

namespace Sys2Proof.Machine

/-! ### The window and its profiles (R138, R139) -/

/-- A stretch of a list, element by element. -/
theorem take_drop_eq_map_range {α : Type} {l : List α} {a n : Nat} (h : ∀ i < n, a + i < l.length) (d : α) :
    (l.drop a).take n = (List.range n).map fun i => l.getD (a + i) d := by
  refine List.ext_getElem ?_ fun i h1 h2 => ?_
  · cases n with
    | zero => simp
    | succ m =>
      have last := h m (Nat.lt_succ_self m)
      simp only [List.length_take, List.length_drop, List.length_map, List.length_range]
      omega
  · have hi : i < n := by simpa using h2
    simp [List.getElem_take, List.getElem_drop, h i hi]

/-- Where the lines hold the whole window, its rows are their pixels (R138). -/
theorem ObjectiveRecord.window_eq {o : ObjectiveRecord} {lines : List (List Pixel)}
    (h : ∀ r, r < o.height → ∃ line, lines[o.originRow + r]? = some line ∧ o.originColumn + o.width ≤ line.length) :
    o.window lines = (List.range o.height).map fun r => (List.range o.width).map fun c =>
      ((lines.getD (o.originRow + r) []).getD (o.originColumn + c) 0#10).toNat := by
  have rows : ∀ r < o.height, o.originRow + r < lines.length := by
    intro r hr
    obtain ⟨line, hline, -⟩ := h r hr
    exact (List.getElem?_eq_some_iff.mp hline).1
  rw [ObjectiveRecord.window, take_drop_eq_map_range rows [], List.map_map]
  refine List.map_congr_left fun r hr => ?_
  obtain ⟨line, hline, hlen⟩ := h r (List.mem_range.mp hr)
  have row : lines.getD (o.originRow + r) [] = line := by simp [List.getD_eq_getElem?_getD, hline]
  have pixels : ∀ c < o.width, o.originColumn + c < line.length := fun c hc => by omega
  simp only [Function.comp_apply, row, take_drop_eq_map_range pixels 0#10, List.map_map]
  rfl

/-- The band lies in its side of the window (R139). -/
theorem bandStart_add_lt {side band : Nat} (h : band ≤ side) : ∀ b < band, bandStart side band + b < side := by
  intro b hb
  unfold bandStart
  omega

theorem horizontalProfile_of_rows {o : ObjectiveRecord} {band : Nat} {window : List (List Nat)} {pixel : Nat → Nat → Nat}
    (h : band ≤ o.height) (hw : window = (List.range o.height).map fun r => (List.range o.width).map fun c => pixel r c) :
    horizontalProfile o band window =
      (List.range o.width).map fun c => ((List.range band).map fun b => pixel (bandStart o.height band + b) c).sum := by
  have rows : ∀ b < band, bandStart o.height band + b < window.length := by
    simpa [hw] using bandStart_add_lt h
  rw [horizontalProfile, take_drop_eq_map_range rows []]
  refine List.map_congr_left fun c hc => congrArg List.sum ?_
  rw [List.map_map]
  refine List.map_congr_left fun b hb => ?_
  have inside := bandStart_add_lt h b (List.mem_range.mp hb)
  have column := List.mem_range.mp hc
  simp [hw, List.getD_eq_getElem?_getD, inside, column]

theorem verticalProfile_of_rows {o : ObjectiveRecord} {band : Nat} {window : List (List Nat)} {pixel : Nat → Nat → Nat}
    (h : band ≤ o.width) (hw : window = (List.range o.height).map fun r => (List.range o.width).map fun c => pixel r c) :
    verticalProfile o band window =
      (List.range o.height).map fun r => ((List.range band).map fun b => pixel r (bandStart o.width band + b)).sum := by
  rw [verticalProfile, hw, List.map_map]
  refine List.map_congr_left fun r _ => congrArg List.sum ?_
  have columns : ∀ b < band, bandStart o.width band + b < ((List.range o.width).map fun c => pixel r c).length := by
    simpa using bandStart_add_lt h
  rw [take_drop_eq_map_range columns 0]
  refine List.map_congr_left fun b hb => ?_
  have inside := bandStart_add_lt h b (List.mem_range.mp hb)
  simp [List.getD_eq_getElem?_getD, inside]

/-- A sum over the band of 10-bit pixels (R139). -/
theorem bandSum_le {band : Nat} {value : Nat → Nat} (h : ∀ b, value b ≤ 1023) :
    ((List.range band).map value).sum ≤ band * 1023 := by
  have bound := List.sum_le_card_nsmul ((List.range band).map value) 1023 (by simpa using fun b _ => h b)
  simpa using bound

/-- The steps between neighbours of a profile (R145). -/
theorem stepSum_eq (p : List Nat) :
    stepSum p = ((List.range (p.length - 1)).map fun i => ((p.getD (i + 1) 0 : Int) - p.getD i 0).natAbs).sum := by
  induction p with
  | nil => rfl
  | cons a rest ih =>
    cases rest with
    | nil => rfl
    | cons b rest =>
      rw [stepSum, ih]
      simp [List.range_succ_eq_map, Function.comp_def]

/-! ### A whole window (R141, R145, R146) -/

theorem ObjectiveRecord.windowWhole_iff {o : ObjectiveRecord} {lines : List (List Pixel)} :
    o.windowWhole lines = true ↔
      ∀ r, r < o.height → ∃ line, lines[o.originRow + r]? = some line ∧ o.originColumn + o.width ≤ line.length := by
  simp only [ObjectiveRecord.windowWhole, List.all_eq_true, List.mem_range]
  refine forall₂_congr fun r _ => ?_
  cases h : lines[o.originRow + r]? with
  | none => simp [ObjectiveRecord.rowWhole, h]
  | some line => simp [ObjectiveRecord.rowWhole, h]

/-- The best position once a position is scored; a tie goes to the one visited first (R145). -/
def Img.bestAfter (i : Img) (score : Nat) : BestFocus :=
  let here : BestFocus := { index := i.index, z := i.reachedZ, sharpness := score }
  match i.best with
  | some b => if b.sharpness < score then here else b
  | none => here

theorem Img.scored_eq (i : Img) (score : Nat) : i.scored score = some (i.bestAfter score) := by
  cases h : i.best with
  | none => simp only [Img.scored, Img.bestAfter, h]
  | some b =>
    simp only [Img.scored, Img.bestAfter, h]
    split
    · rfl
    · rfl

/-- The station once a position is scored (R145). -/
def State.focusKept (s : State) (score : Nat) : State :=
  { s with img := { s.img with attempt := 0, ph := [], pv := [], best := some (s.img.bestAfter score) } }

section Received
variable {s : State} {o : ObjectiveRecord} {lines : List (List Pixel)}

/-- A window that is not whole has no effect (log 5). -/
theorem State.windowReceived_partial (ho : s.objectiveInUse = some o) (h : ¬o.windowWhole lines = true) :
    s.windowReceived lines = (s, none) := by
  simp [State.windowReceived, ho, h]

/-- A whole window completes the attempt in hand (R141). -/
theorem State.windowReceived_whole (ho : s.objectiveInUse = some o) (hs : s.img.receiving = true)
    (h : o.windowWhole lines = true) :
    s.windowReceived lines =
      s.attemptDone o (horizontalProfile o s.cfg.band (o.window lines)) (verticalProfile o s.cfg.band (o.window lines)) := by
  simp [State.windowReceived, ho, hs, h]

/-- A whole window of FINAL is delivered (R147). -/
theorem State.attemptDone_final (hs : s.img.stage = .final) (ph pv : List Nat) :
    s.attemptDone o ph pv =
      ({ s with img := { s.img with attempt := 0, ph := ph, pv := pv } },
        some (.delivered { width := o.width, height := o.height, ph := ph, pv := pv })) := by
  simp only [State.attemptDone, hs]

/-- A whole window of FOCUS is scored, and the next position taken in hand or the search ended (R145, R146). -/
theorem State.attemptDone_focus (hs : s.img.stage = .focus) (ph pv : List Nat) :
    s.attemptDone o ph pv =
      if s.img.index + 1 < o.focusCount then
        ((s.focusKept (sharpness ph pv)).takePosition (s.img.index + 1), none)
      else (s.focusKept (sharpness ph pv)).searchEnd o := by
  have scored : s.attemptDone o ph pv =
      State.positionScored { s with img := { s.img with attempt := 0, ph := ph, pv := pv } } o (sharpness ph pv) := by
    rw [State.attemptDone]
    dsimp only
    rw [hs]
  rw [scored, State.positionScored, Img.scored_eq]
  rfl

/-- A position of the list taken in hand asks for its height (R145). -/
theorem State.takePosition_next {i : Nat} {heights : List Int} {target : Int} (hp : s.img.positions = some heights)
    (ht : heights[i]? = some target) : s.takePosition i = ({ s with img.index := i } : State).askStep target := by
  have next : heights.getD i 0 = target := by simp [List.getD_eq_getElem?_getD, ht]
  rw [State.takePosition, hp, Option.getD_some, next]

/-- The search ends by the best position kept (R146). -/
theorem State.searchEnd_kept (score : Nat) :
    (s.focusKept score).searchEnd o =
      if (s.img.bestAfter score).sharpness < o.minSharpness then (s.focusKept score, some .focusFailed)
      else (({ s.focusKept score with img.stage := .final } : State).askStep (s.img.bestAfter score).z, none) := rfl

/-- A fine step asked with Z at rest; at the height at which Z stands it completes at once (R103, R145). -/
theorem State.askStep_homed (ho : s.objectiveInUse = some o) (hz : s.mot.zHomed = true) (ha : s.mot.zActivity = .idle)
    (hs : s.mot.stopping = false) (target : Int) :
    s.askStep target =
      if s.mot.z ≠ fineTarget target then
        { s with
          img.state := .step
          mot :=
            { s.mot with
              zActivity := .fine (fineTarget target)
              moveDeadline := some { setAt := s.tbu.stationTime, interval := s.cfg.moveTimeout } } }
      else if o.focusSettle = 0 then
        { s with
          img :=
            { s.img with
              state := .capture, reachedZ := fineTarget target, ph := [], pv := [], settleEnd := none
              frameWaitEnd := some { setAt := s.tbu.stationTime, interval := 250 } } }
      else
        { s with
          img :=
            { s.img with
              state := .settle, reachedZ := fineTarget target
              settleEnd := some { setAt := s.tbu.stationTime, interval := o.focusSettle } } } := by
  by_cases h : s.mot.z = fineTarget target
  · have there : s.mot.fineStep s.cfg s.now target = (s.mot, some s.mot.z) := by
      simp [Mot.fineStep, hz, ha, hs, h]
    have use : ({ s with img.state := .step } : State).objectiveInUse = some o := ho
    rw [if_neg (not_not_intro h)]
    simp only [State.askStep, there, State.stepReported, use, h]
    split
    · rfl
    · rfl
  · have moves : s.mot.fineStep s.cfg s.now target =
        ({ s.mot with
          zActivity := .fine (fineTarget target)
          moveDeadline := some { setAt := s.tbu.stationTime, interval := s.cfg.moveTimeout } }, none) := by
      simp only [Mot.fineStep, hz, ha, hs, and_self, if_true, if_neg h]
      rfl
    rw [if_pos h]
    simp only [State.askStep, moves]

end Received

/-- Settles O57: the lists element by element, and a whole window by its stage. -/
theorem windowComplete : Obligations.WindowComplete := by
  unfold Obligations.WindowComplete
  refine ⟨fun o band lines hh hw hwhole => ?_, fun ph pv => ?_, fun s o slot lines halt hl hs hwait hobj hslot => ?_⟩
  · intro pixel bandRow bandColumn
    have window := ObjectiveRecord.window_eq hwhole
    have horizontal := horizontalProfile_of_rows hh window
    have vertical := verticalProfile_of_rows hw window
    refine ⟨window, horizontal, vertical, fun v hv => ?_⟩
    have small : ∀ r c, pixel r c ≤ 1023 := fun r c => Nat.le_of_lt_succ (BitVec.isLt _)
    rw [horizontal, vertical] at hv
    rcases List.mem_append.mp hv with h | h
    · obtain ⟨c, -, rfl⟩ := List.mem_map.mp h
      exact bandSum_le fun b => small _ c
    · obtain ⟨r, -, rfl⟩ := List.mem_map.mp h
      exact bandSum_le fun b => small r _
  · intro steps
    simp only [sharpness, stepSum_eq, steps]
  · intro whole ph pv score here best scored asked
    have hr := hl.1
    have use : s.objectiveInUse = some o := by
      simp [State.objectiveInUse, hobj, ConfigImage.objective?, hslot]
    have receiving : s.img.receiving = true := by simp [Img.receiving, hs, hwait]
    have runs : exec (.windowComplete lines halt) s = .next (State.withImage (s.windowReceived lines) halt) := by
      rw [exec_windowComplete, State.act_live hr]
    have received : whole → s.windowReceived lines = s.attemptDone o ph pv := fun h =>
      State.windowReceived_whole use receiving (ObjectiveRecord.windowWhole_iff.mpr h)
    refine ⟨fun h => ?_, fun h hstage hz hact hstop => ?_, fun site name e h hcur hi hmea hmap he hkind hclaim hneed hdel hfrc
      hmode => ?_⟩
    · rw [runs, State.windowReceived_partial use (h ∘ ObjectiveRecord.windowWhole_iff.mp)]
      rfl
    · have focus := (received h).trans (State.attemptDone_focus hstage ph pv)
      have asks : ∀ (j : Img) (target : Int), j.objective = s.img.objective →
          s.windowReceived lines = (({ s with img := { j with ph := [], pv := [] } } : State).askStep target, none) →
          asked { j with ph := [], pv := [] } target := by
        intro j target hj hw
        have use' : ({ s with img := { j with ph := [], pv := [] } } : State).objectiveInUse = some o := by
          simpa [State.objectiveInUse, hj] using use
        rw [hw] at runs
        exact runs.trans (congrArg _ (State.askStep_homed use' hz hact hstop target))
      refine ⟨fun heights target hn hp ht => asks { scored with index := s.img.index + 1 } target rfl ?_,
        fun hn hb => asks { scored with stage := .final } best.z rfl ?_⟩
      · rw [focus, if_pos hn, State.takePosition_next (s := s.focusKept _) hp ht]
        rfl
      · exact focus.trans ((if_neg (Nat.not_lt.mpr hn)).trans ((State.searchEnd_kept _).trans (if_neg (Nat.not_lt.mpr hb))))
    · intro ended
      have done : s.workDone := by
        rcases hmode with hm | ⟨hm, hb, hq⟩
        · exact .inr ⟨hm, hfrc⟩
        · exact .inl ⟨hm, hb, hq⟩
      have last : ∀ i : Img, i.reserved = s.img.reserved → ({ s with img := i } : State).LastImage site name e := fun i hri =>
        ⟨hcur, hri.trans hi, hmea, hmap, he, hclaim, hneed, hdel, done⟩
      have leaves : ∀ (i : Img) (v : State), ({ s with img := i } : State).imageLeft v → ended v := by
        intro i v hv
        obtain ⟨hmode, hcur, hcue, himg, hclaim, hnot, hmot, hfrc, htbu, hcfg, hqueue⟩ := hv
        refine ⟨hmode, hcur, hcue, ?_, ?_, ?_, ?_, hclaim, hnot, hmot, hfrc, htbu, hcfg, hqueue⟩
        all_goals
          rw [himg]
          rfl
      have ends : ∀ (i : Img) (x : ImageEnding), s.windowReceived lines = ({ s with img := i }, some x) →
          exec (.windowComplete lines halt) s = .next (({ s with img := i } : State).imageEnded x halt) := by
        intro i x hw
        rw [runs, hw]
        rfl
      have kind : ∀ x : ImageEnding, some (s.delivery e.fields x).kind = s.cfg.indenterKind? e.fields.indenter := by
        intro x
        obtain ⟨k, hk⟩ := Option.ne_none_iff_exists'.mp hkind
        simp [State.delivery, hk]
      refine ⟨fun hstage => ?_, fun hstage hn hb ho hroom hcue => ?_⟩
      · let i : Img := { s.img with attempt := 0, ph := ph, pv := pv }
        let p : Profiles := { width := o.width, height := o.height, ph := ph, pv := pv }
        have delivers := ends i (.delivered p) ((received h).trans (State.attemptDone_final hstage ph pv))
        cases halt with
        | false =>
          obtain ⟨left, hsst, hdelivered, hevc, hslots⟩ := (last i rfl).computing p
          exact ⟨_, _, delivers, leaves i _ left, hslots, he, kind _, rfl, rfl, rfl, rfl, hdelivered, hsst, hevc⟩
        | true =>
          obtain ⟨left, hsst, hdelivered, hevc, -, hslots⟩ := (last i rfl).ready (.delivered p)
          exact ⟨_, _, delivers, leaves i _ left, hslots, he, kind _, rfl, rfl, rfl, rfl, hdelivered, hsst, hevc⟩
      · intro written
        have failed := ends scored .focusFailed ((received h).trans ((State.attemptDone_focus hstage ph pv).trans
          ((if_neg (Nat.not_lt.mpr hn)).trans ((State.searchEnd_kept _).trans (if_pos hb)))))
        refine ⟨fun hh => ?_, fun hh => ?_⟩
        · subst hh
          obtain ⟨left, wrote⟩ := (last scored rfl).written (x := .focusFailed) rfl
            (by simp [ImageEnding.flags, MeasureFlags.failed]) ho hroom hcue
          exact ⟨_, failed, leaves scored _ left, wrote⟩
        · subst hh
          obtain ⟨left, hsst, hdelivered, -, hmessages, hslots⟩ := (last scored rfl).ready .focusFailed
          exact ⟨_, _, failed, leaves scored _ left, hsst, hdelivered, hslots, he, kind _, rfl, rfl, rfl, rfl, hmessages⟩

end Sys2Proof.Machine
end

section
/-!
PROOFS. A computation that completes: what it writes and what the write wakes (O58).
-/

-- One theorem after another: each one elaborated beside the others takes a thread with a stack of its own.
set_option Elab.async false

namespace Sys2Proof.Machine

/-! ### What a result writes (R9, R14, R16) -/

theorem IndentFlags.any_iff {f : IndentFlags} : f.any = true ↔ f ≠ .none := by
  rcases f with ⟨a, b, c, d, e, g, h⟩
  simp [IndentFlags.any, IndentFlags.bits, IndentFlags.none]
  grind

theorem MeasureFlags.any_iff {f : MeasureFlags} : f.any = true ↔ f ≠ .none := by
  rcases f with ⟨a, b, c, d, e, g, h, i, j, k, l⟩
  simp [MeasureFlags.any, MeasureFlags.bits, MeasureFlags.none]
  grind

/-- The outcome of a measurement, by the flags (R9). -/
theorem measuredOutcome_eq (indent : IndentFlags) (measure : MeasureFlags) :
    measuredOutcome indent measure =
      if measure.failed = true then .measureFailed else if indent ≠ .none ∨ measure ≠ .none then .flagged else .valid := by
  simp only [measuredOutcome, Bool.or_eq_true, IndentFlags.any_iff, MeasureFlags.any_iff]

/-- The numbers stand with a measurement that did not fail (R9). -/
theorem measuredOutcome_measured (indent : IndentFlags) (measure : MeasureFlags) :
    (measuredOutcome indent measure).measured = !measure.failed := by
  rw [measuredOutcome_eq]
  split
  · simp_all [SiteOutcome.measured]
  · split <;> simp_all [SiteOutcome.measured]

/-- The site of a delivery is that of its result. -/
theorem ConfigImage.resultOf_site (c : ConfigImage) (d : Delivery) : (c.resultOf d).site = d.site := by
  unfold ConfigImage.resultOf
  split
  · split
    · unfold knoopResult
      dsimp only
      split <;> rfl
    · unfold vickersResult
      dsimp only
      split <;> rfl
  · rfl

/-- An entry measured is on no measure list (R9, R13). -/
theorem Entry.measuredWith_done (r : MeasureResult) (n : Nat) (e : Entry) :
    (e.measuredWith r n).outcome ≠ .awaitingMeasure := by
  have outcome : (e.measuredWith r n).outcome = measuredOutcome e.indentFlags r.flags := rfl
  rw [outcome, measuredOutcome_eq]
  split
  · simp
  · split <;> simp

/-- A result written takes its site off the measure list (R13). -/
theorem Store.measureList_measured (st : Store) (site : Nat) (r : MeasureResult) (n : Nat) :
    (st.update site (.measuredWith r n)).measureList = st.measureList.filter fun id => id != site := by
  simp only [Store.measureList, Store.update]
  induction st.map with
  | nil => rfl
  | cons e es ih =>
    by_cases hs : e.fields.site = site
    · have off : (if e.fields.site = site then Entry.measuredWith r n e else e).outcome ≠ .awaitingMeasure := by
        rw [if_pos hs]
        exact Entry.measuredWith_done r n e
      rw [List.map_cons, List.filter_cons_of_neg (by simpa using off), ih]
      by_cases ho : e.outcome = .awaitingMeasure
      · simp [ho, hs]
      · simp [ho]
    · rw [List.map_cons, if_neg hs]
      by_cases ho : e.outcome = .awaitingMeasure
      · simp [ho, hs, ih]
      · simp [ho, ih]

/-! ### What a write wakes (R35, R37, R42) -/

theorem State.trySetNeed_idle {s : State} (h : ∀ c, s.cyc.current = some c → c.step ≠ .waiting ∨ s.fcu.need ≠ none) :
    s.trySetNeed = s := by
  unfold State.trySetNeed
  split
  · rename_i c hc
    split
    · refine if_neg ?_
      rintro ⟨hs, hn, -⟩
      rcases h c hc with h | h
      · exact h hs
      · exact h hn
    · rfl
  · rfl

/-- A write wakes nothing where neither room nor a slot is waited for. -/
theorem State.afterWrite_unheard {s : State} (hcue : s.cyc.cue ≠ .room) (hbuf : s.cyc.bufferFull = false)
    (hwait : s.cyc.cue = .result → s.cyc.mode = .running → s.cyc.current ≠ none)
    (h : ∀ c, s.cyc.current = some c → c.step ≠ .waiting ∨ s.fcu.need ≠ none) : s.afterWrite = s := by
  have unheard : ¬s.cyc.waitsWith .result = true := by
    simp only [Cyc.waitsWith, Bool.and_eq_true, beq_iff_eq, Option.isNone_iff_eq_none]
    rintro ⟨⟨hr, hm⟩, hc⟩
    exact hwait hr hm hc
  simp only [State.afterWrite, Cyc.afterWrite_idle hcue hbuf, State.trySetNeed_idle h]
  exact if_neg unheard

/-- A choice that waits with cue RESULT is made (R35). -/
theorem State.afterWrite_chooses {s : State} (hcur : s.cyc.current = none) (hcue : s.cyc.cue = .result)
    (hm : s.cyc.mode = .running) (hbuf : s.cyc.bufferFull = false) : s.afterWrite = s.choose := by
  have notRoom : s.cyc.cue ≠ .room := by simp [hcue]
  have idle : s.trySetNeed = s := State.trySetNeed_idle (by simp [hcur])
  have waits : s.cyc.waitsWith .result = true := by simp [Cyc.waitsWith, hcue, hm, hcur]
  simp only [State.afterWrite, Cyc.afterWrite_idle notRoom hbuf, idle]
  exact if_pos waits

/-- A slot set FREE is found. -/
theorem Mea.freeSlot_isSome (m : Mea) (name : SlotName) : (m.set name .free).freeSlot?.isSome = true := by
  cases name with
  | a => rfl
  | b =>
    have free : (m.set .b .free).slotB.isFree = true := rfl
    rw [Mea.freeSlot?, free]
    split
    · rfl
    · rfl

/-- An ACTIVE unit out of doubt with no mark in its view may claim QUIET (R55). -/
theorem Fcu.quietPermitted {f : Fcu} (ha : f.state = .active) (hd : f.doubtUntil = none)
    (hv : ∀ v ∈ f.view, v.claim = none ∧ v.holdoff = none) : f.firstFailure .quiet = none :=
  Fcu.firstFailure_none ha hd (fun v h m hm => by simp [(hv v h).1] at hm) (fun v h m hm => by simp [(hv v h).2] at hm)

/-- A phase that is not ready sets no need (R37, R42). -/
theorem State.trySetNeed_notReady {s : State} {c : Current} (hc : s.cyc.current = some c)
    (h : s.phaseReady c.phase = false) : s.trySetNeed = s := by
  unfold State.trySetNeed
  rw [hc]
  dsimp only
  split
  · exact if_neg (by simp [h])
  · rfl

section Waits
variable {s : State} {c : Current}

/-- The two steps of `afterWrite` where no choice waits for a result: the cues and the episode it ends, and the need it sets. -/
theorem State.afterWrite_steps {t : State} {cyc : Cyc}
    (hcyc : ({ s.cyc.afterWrite s.hasRoom with bufferFull := s.cyc.bufferFull && s.mea.freeSlot?.isNone } : Cyc) = cyc)
    (ht : ({ s with cyc := cyc } : State).trySetNeed = t) (hcue : t.cyc.cue ≠ .result) : s.afterWrite = t := by
  have unheard : ¬t.cyc.waitsWith .result = true := by simp [Cyc.waitsWith, hcue]
  simp only [State.afterWrite, hcyc, ht]
  exact if_neg unheard

/-- An INDENT with cue ROOM whose wait goes on: the write ends a buffer-full episode alone (R37, R42). -/
theorem State.afterWrite_noRoom (hc : s.cyc.current = some c) (hp : c.phase = .indent) (hcue : s.cyc.cue = .room)
    (hroom : s.hasRoom = false) (hfree : s.mea.freeSlot?.isSome = true) :
    s.afterWrite = { s with cyc.bufferFull := false } := by
  have taken : s.mea.freeSlot?.isNone = false := by simpa using hfree
  have notReady : ({ s with cyc.bufferFull := false } : State).phaseReady c.phase = false := by
    rw [hp]
    exact hroom
  refine State.afterWrite_steps (cyc := { s.cyc with bufferFull := false }) ?_ (State.trySetNeed_notReady hc notReady) ?_
  · simp [Cyc.afterWrite, hroom, taken]
  · simp [hcue]

/-- A phase that waits for room or for a slot claims QUIET once the write has made it (R37, R42, R55). -/
theorem State.afterWrite_claims (hc : s.cyc.current = some c) (hs : c.step = .waiting) (hn : s.fcu.need = none)
    (hready : (c.phase = .indent ∧ s.cyc.cue = .room ∧ s.hasRoom = true) ∨ (c.phase = .image ∧ s.cyc.cue = .none))
    (hfree : s.mea.freeSlot?.isSome = true) (hrest : s.atRest = true) (h0 : s.fcu.claim = .none)
    (hf : s.fcu.firstFailure .quiet = none) :
    s.afterWrite =
      { s with
        cyc := { s.cyc with cue := .none, bufferFull := false }
        fcu := { s.fcu with need := some { kind := .quiet, since := s.tbu.stationTime }, claim := .pending .quiet, block := none }
        fli.notices := placeNotice (.claim .quiet) s.fli.notices } := by
  let v : State := { s with cyc := { s.cyc with cue := .none, bufferFull := false } }
  have taken : s.mea.freeSlot?.isNone = false := by simpa using hfree
  have kind : c.phase.claim = some .quiet := by
    rcases hready with ⟨hp, -⟩ | ⟨hp, -⟩ <;> rw [hp] <;> rfl
  have ready : v.phaseReady c.phase = true := by
    rcases hready with ⟨hp, -, hroom⟩ | ⟨hp, -⟩
    · rw [hp]
      exact hroom
    · rw [hp]
      exact hfree
  refine State.afterWrite_steps (cyc := v.cyc) ?_ (State.trySetNeed_claims (s := v) hc hs kind hn hrest ready h0 hf) (by simp)
  rcases hready with ⟨-, hcue, hroom⟩ | ⟨-, hcue⟩
  · simp [Cyc.afterWrite, hcue, hroom, taken, v]
  · simp [Cyc.afterWrite, hcue, taken, v]

end Waits

/-! ### The write of a result (R14, R16, R84) -/

/-- A measurement written into an entry, by the failure flags of its result (R9). -/
theorem Entry.measuredWith_eq (r : MeasureResult) (n : Nat) (e : Entry) :
    e.measuredWith r n =
      { e with
        outcome := measuredOutcome e.indentFlags r.flags, measureFlags := r.flags, count := n
        d1 := if r.flags.failed = true then none else r.d1, d2 := if r.flags.failed = true then none else r.d2
        hardness := if r.flags.failed = true then none else r.hardness } := by
  cases h : r.flags.failed <;> simp [Entry.measuredWith, measuredOutcome_measured, keptWhen, h]

/-- A result written with its count, and its SITE_DONE placed with the attempt's outcome (R17, R172). -/
def State.resultWritten (s : State) (r : MeasureResult) (n : Nat) (e : Entry) (attempt : SiteOutcome) : State :=
  ((s.rewrite r.site (.measuredWith r n)).signalOutcome (e.measuredWith r n)).placed
    (.siteDone (e.measuredWith r n) attempt r.flags)

section Results
variable {s : State} {r : MeasureResult} {e : Entry}

theorem State.writeResult_first (he : s.sst.entry? r.site = some e) (ho : e.outcome = .awaitingMeasure) :
    s.writeResult r = s.resultWritten r 1 e (measuredOutcome e.indentFlags r.flags) := by
  simp only [State.writeResult, he, if_pos ho, State.finish, State.handOver, State.send_placed]
  rfl

theorem State.writeResult_again (he : s.sst.entry? r.site = some e) (ho : e.outcome ≠ .awaitingMeasure)
    (hr : r.flags.failed = false) :
    s.writeResult r = s.resultWritten r (min (e.count + 1) 255) e (measuredOutcome .none r.flags) := by
  have good : r.good = true := by simp [MeasureResult.good, hr]
  simp only [State.writeResult, he, if_neg ho, if_pos good, State.send_placed]
  rfl

theorem State.writeResult_failed (he : s.sst.entry? r.site = some e) (ho : e.outcome ≠ .awaitingMeasure)
    (hr : r.flags.failed = true) : s.writeResult r = s.placed (.siteDone e .measureFailed r.flags) := by
  have bad : ¬r.good = true := by simp [MeasureResult.good, hr]
  have attempt : r.attemptOutcome = .measureFailed := by
    rw [MeasureResult.attemptOutcome, measuredOutcome_eq, if_pos hr]
  simp only [State.writeResult, he, if_neg ho, if_neg bad, State.send_placed, attempt]

end Results

/-- The message placed or dropped leaves the store as it is. -/
theorem State.placed_sst (s : State) (m : Message) : (s.placed m).sst = s.sst := by
  unfold State.placed
  split
  · rfl
  · rfl

theorem State.resultWritten_measureList (s : State) (r : MeasureResult) (n : Nat) (e : Entry) (o : SiteOutcome) :
    (s.resultWritten r n e o).sst.measureList = s.sst.measureList.filter fun id => id != r.site := by
  rw [State.resultWritten, State.placed_sst]
  exact Store.measureList_measured s.sst r.site r n

/-- Room by the measure list (R37). -/
theorem State.hasRoom_iff {s : State} :
    s.hasRoom = true ↔ (s.cyc.workMode = .perSite → s.sst.measureList = []) ∧
      (s.cyc.workMode = .batch → s.sst.measureList.length < s.cyc.batchLimit) := by
  unfold State.hasRoom
  cases s.cyc.workMode with
  | perSite => simp
  | batch => simp

/-- Settles O58: the write by the entry and the result's flags, and the wake by what waits. -/
theorem computeCompleteWrites : Obligations.ComputeCompleteWrites := by
  unfold Obligations.ComputeCompleteWrites
  intro s name hl
  have runs : exec (.computeComplete name) s = .next (s.computeDone name) := by
    rw [exec_computeComplete, State.act_live hl.1]
  refine ⟨fun h => ?_, fun d e hd he => ?_⟩
  · rw [runs, State.computeDone]
    split
    · rename_i d hd
      exact absurd hd (h d)
    · rfl
  · intro r failed derived written freed rewritten remaining writes room
    have completes : exec (.computeComplete name) s = .next (freed.writeResult r).afterWrite := by
      rw [runs, State.computeDone, hd]
      rfl
    have site : r.site = d.site := ConfigImage.resultOf_site ..
    have entry : freed.sst.entry? r.site = some e := by
      rw [site]
      exact he
    have outcome : ∀ f, measuredOutcome f r.flags = derived f := fun f => measuredOutcome_eq f r.flags
    have measured : ∀ n f, Entry.measuredWith r n f = written n f := by
      intro n f
      rw [Entry.measuredWith_eq, outcome]
      rfl
    have rewrites : ∀ n o, freed.resultWritten r n e o = rewritten n o := by
      intro n o
      have fn : Entry.measuredWith r n = written n := funext (measured n)
      rw [State.resultWritten, fn, site]
      rfl
    have wakes : ∀ P : State → List Nat → Prop,
        (∀ u, OnlyReports freed u → exec (.computeComplete name) s = .next u.afterWrite → P u u.sst.measureList) →
        writes P := by
      intro P h
      have only : OnlyReports freed (freed.writeResult r) := .writeResult freed r
      have all := h _ only completes
      refine ⟨fun ho => ?_, fun ho hf => ?_, fun ho hf => ?_⟩
      · rw [State.writeResult_first entry ho, State.resultWritten_measureList, rewrites, outcome, site] at all
        exact all
      · rw [State.writeResult_again entry ho hf, State.resultWritten_measureList, rewrites, outcome, site] at all
        exact all
      · rw [State.writeResult_failed entry ho hf, State.placed_sst] at all
        exact all
    refine ⟨fun hwait hcue hbuf hc => wakes (fun u _ => exec (.computeComplete name) s = .next u) fun u hu hx => ?_, fun hcur hcue hm hbuf =>
      wakes (fun u _ => exec (.computeComplete name) s = .next u.choose) fun u hu hx => ?_, ?_⟩
    · obtain ⟨map, messages, overflow, evc, rfl⟩ := hu
      exact hx.trans (congrArg _ (State.afterWrite_unheard hcue hbuf hwait hc))
    · obtain ⟨map, messages, overflow, evc, rfl⟩ := hu
      exact hx.trans (congrArg _ (State.afterWrite_chooses hcur hcue hm hbuf))
    · intro c hc hstep hn claims
      have free : freed.mea.freeSlot?.isSome = true := s.mea.freeSlot_isSome name
      have claiming : ∀ u, OnlyReports freed u → exec (.computeComplete name) s = .next u.afterWrite →
          (c.phase = .indent ∧ u.cyc.cue = .room ∧ u.hasRoom = true) ∨ (c.phase = .image ∧ u.cyc.cue = .none) →
          claims u := by
        rintro u ⟨map, messages, overflow, evc, rfl⟩ hx hready hf hstop himg hact hdoubt hclaim hview
        exact hx.trans (congrArg _ (State.afterWrite_claims hc hstep hn hready free
          (State.atRest_iff.mpr ⟨hf, hstop, himg⟩) hclaim (Fcu.quietPermitted hact hdoubt hview)))
      refine ⟨fun hp hcue => wakes (fun u list => (room list → claims u) ∧
          (¬room list → exec (.computeComplete name) s = .next { u with cyc.bufferFull := false })) fun u hu hx =>
            ⟨fun hroom => ?_, fun hroom => ?_⟩,
        fun hp hcue hbuf => wakes (fun u _ => claims u) fun u hu hx => ?_⟩
      · have cyc : u.cyc = freed.cyc := by
          obtain ⟨map, messages, overflow, evc, rfl⟩ := hu
          rfl
        have has : u.hasRoom = true := State.hasRoom_iff.mpr (by rw [cyc]; exact hroom)
        exact claiming u hu hx (.inl ⟨hp, by rw [cyc]; exact hcue, has⟩)
      · obtain ⟨map, messages, overflow, evc, rfl⟩ := hu
        exact hx.trans (congrArg _ (State.afterWrite_noRoom hc hp hcue
          (by rw [← Bool.not_eq_true]; exact hroom ∘ State.hasRoom_iff.mp) free))
      · have cyc : u.cyc = freed.cyc := by
          obtain ⟨map, messages, overflow, evc, rfl⟩ := hu
          rfl
        exact claiming u hu hx (.inr ⟨hp, by rw [cyc]; exact hcue⟩)

end Sys2Proof.Machine
end

section
/-!
PROOFS. What Frame Coordination keeps of the laws of claims (O5): its state, a HELD claim, no need but the one it had, and that a
silent unit holds nothing.
-/

-- One theorem after another: each one elaborated beside the others takes a thread with a stack of its own.
set_option Elab.async false

namespace Sys2Proof.Machine

/-! ### What the laws ask of Frame Coordination -/

/-- INACTIVE or HALTED: the unit takes part in nothing (R53, R75). -/
def Fcu.silent (f : Fcu) : Prop := f.state = .halted ∨ f.state = .inactive

/-- A silent unit holds nothing (R53, R75). -/
def Fcu.emptyIfSilent (f : Fcu) : Prop := f.silent → f.holdsNothing = true

/-- What an operation of the unit keeps: the state, a HELD claim, the need unless it is cleared, and that a silent unit holds
nothing. -/
structure Fcu.Follows (f g : Fcu) : Prop where
  state : g.state = f.state
  need : g.need = none ∨ g.need = f.need
  held : ∀ k, f.claim = .held k → g.claim = .held k
  empty : f.emptyIfSilent → g.emptyIfSilent

theorem Fcu.Follows.same (f : Fcu) : f.Follows f := ⟨rfl, .inr rfl, fun _ => id, id⟩

theorem Fcu.Follows.trans {f g h : Fcu} (a : f.Follows g) (b : g.Follows h) : f.Follows h where
  state := b.state.trans a.state
  need := by
    rcases b.need with hn | hn
    · exact .inl hn
    · exact hn ▸ a.need
  held k := b.held k ∘ a.held k
  empty := b.empty ∘ a.empty

theorem Fcu.Follows.needless {f g : Fcu} (a : f.Follows g) (h : f.need = none) : g.need = none := by
  rcases a.need with hn | hn
  · exact hn
  · exact hn.trans h

/-- What a unit that holds nothing holds. -/
theorem Fcu.holdsNothing_iff {f : Fcu} :
    f.holdsNothing = true ↔ f.need = none ∧ f.claim = .none ∧ f.holdoff = .none ∧ f.collided = [] ∧ f.block = none ∧
      f.doubtUntil = none ∧ f.listenEnd = none ∧ f.claimRefresh = none ∧ f.holdoffRefresh = none ∧ f.view = emptied f.view := by
  simp only [Fcu.holdsNothing, Bool.and_eq_true, Option.isNone_iff_eq_none, beq_iff_eq, List.isEmpty_iff, and_assoc]

/-- Whether something is going on in the unit: a need, a claim or a holdoff stands, or the unit takes part in the traffic. -/
def Fcu.engaged (f : Fcu) : Prop := f.need ≠ none ∨ f.claim ≠ .none ∨ f.holdoff ≠ .none ∨ ¬f.silent

theorem Fcu.engaged.awake {f : Fcu} (h : f.engaged) (he : f.emptyIfSilent) : ¬f.silent := by
  intro hs
  obtain ⟨hn, hc, hh, _⟩ := Fcu.holdsNothing_iff.mp (he hs)
  rcases h with h | h | h | h
  · exact h hn
  · exact h hc
  · exact h hh
  · exact h hs

/-- Where something is going on the unit is not silent, so that an operation may change what a silent unit holds. -/
theorem Fcu.engaged.follows {f g : Fcu} (h : f.engaged) (state : g.state = f.state := by rfl)
    (need : g.need = none ∨ g.need = f.need := by exact .inr rfl)
    (held : ∀ k, f.claim = .held k → g.claim = .held k := by exact fun _ => id) : f.Follows g where
  state := state
  need := need
  held := held
  empty he hg := absurd (by rwa [Fcu.silent, state] at hg) (h.awake he)

theorem Fcu.engaged_of_need {f : Fcu} {n : Need} (h : f.need = some n) : f.engaged := .inl (by simp [h])

theorem Fcu.engaged_of_claim {f : Fcu} (h : f.claim ≠ .none) : f.engaged := .inr (.inl h)

theorem Fcu.engaged_of_holdoff {f : Fcu} (h : f.holdoff ≠ .none) : f.engaged := .inr (.inr (.inl h))

theorem Fcu.engaged_of_state {f : Fcu} (h : f.state = .listenIn ∨ f.state = .active) : f.engaged :=
  .inr (.inr (.inr (by rcases h with h | h <;> simp [Fcu.silent, h])))

/-! ### The operations of the unit -/

theorem State.blockOn_follows {s : State} {n : Need} (h : s.fcu.need = some n) (c : BlockCause) :
    s.fcu.Follows (s.blockOn c).fcu := by
  rw [State.blockOn_fcu]
  exact (Fcu.engaged_of_need h).follows

theorem State.tryHoldoff_follows (s : State) : s.fcu.Follows s.tryHoldoff.fcu := by
  unfold State.tryHoldoff
  split
  · rename_i n hn
    split
    · exact (Fcu.engaged_of_need hn).follows
    · exact .same _
  · exact .same _

theorem State.permitTest_follows (s : State) : s.fcu.Follows s.permitTest.fcu := by
  unfold State.permitTest
  split
  · rename_i n hn
    split
    · rename_i hc
      split
      · refine (Fcu.engaged_of_need hn).follows rfl (.inr rfl) fun k hk => ?_
        rw [hc] at hk
        cases hk
      · exact (s.blockOn_follows hn _).trans (State.tryHoldoff_follows _)
    · exact .same _
  · exact .same _

@[simp] theorem State.withdrawClaim_fcu (s : State) : s.withdrawClaim.fcu = s.fcu := by
  rw [State.withdrawClaim_of, State.withdrawnOf_fcu]

@[simp] theorem State.withdrawHoldoff_fcu (s : State) : s.withdrawHoldoff.fcu = s.fcu := by
  rw [State.withdrawHoldoff_of, State.withdrawnOf_fcu]

theorem State.dropQueuedHoldoff_follows (s : State) : s.fcu.Follows s.dropQueuedHoldoff.fcu := by
  unfold State.dropQueuedHoldoff
  split
  · rename_i k hk
    simp only [State.markStale_fcu, State.withdrawHoldoff_fcu]
    exact (Fcu.engaged_of_holdoff (by simp [hk])).follows
  · exact .same _

theorem State.endHoldoff_follows (s : State) : s.fcu.Follows s.endHoldoff.fcu := by
  unfold State.endHoldoff
  split
  · exact .same _
  · rename_i hh
    simp only [State.markStale_fcu, State.withdrawHoldoff_fcu]
    exact (Fcu.engaged_of_holdoff hh).follows

theorem State.withdrawPending_follows (s : State) : s.fcu.Follows s.withdrawPending.fcu := by
  unfold State.withdrawPending
  split
  · rename_i k hk
    split
    · simp only [State.withdrawClaim_fcu]
      exact (Fcu.engaged_of_claim (by simp [hk])).follows (held := fun j hj => by simp [hk] at hj)
    · exact .same _
  · exact .same _

theorem State.clearNeed_follows (s : State) : s.fcu.Follows s.clearNeed.fcu := by
  have cleared : s.fcu.Follows { s.fcu with need := none, block := none } := by
    refine ⟨rfl, .inl rfl, fun _ => id, fun he hs => ?_⟩
    obtain ⟨_, hc, hh, hl, _, hd, hli, hcr, hhr, hv⟩ := Fcu.holdsNothing_iff.mp (he hs)
    exact Fcu.holdsNothing_iff.mpr ⟨rfl, hc, hh, hl, rfl, hd, hli, hcr, hhr, hv⟩
  exact (cleared.trans (State.endHoldoff_follows { s with fcu.need := none, fcu.block := none })).trans
    (State.withdrawPending_follows _)

theorem State.clearNeed_need (s : State) : s.clearNeed.fcu.need = none :=
  ((State.endHoldoff_follows { s with fcu.need := none, fcu.block := none }).trans (State.withdrawPending_follows _)).needless rfl

theorem State.recheckPending_follows (s : State) : s.fcu.Follows s.recheckPending.fcu := by
  unfold State.recheckPending
  split
  · rename_i k hk
    split
    · refine Fcu.Follows.trans ?_ (State.permitTest_follows _)
      simp only [State.withdrawClaim_fcu]
      exact (Fcu.engaged_of_claim (by simp [hk])).follows (held := fun j hj => by simp [hk] at hj)
    · exact .same _
  · exact .same _

theorem State.blockNeed_follows (s : State) : s.fcu.Follows s.blockNeed.fcu := by
  unfold State.blockNeed
  split
  · exact s.blockOn_follows (by assumption) _
  · exact .same _

theorem State.beginDoubt_follows (s : State) : s.fcu.Follows s.beginDoubt.fcu := by
  unfold State.beginDoubt
  split
  · rename_i hs
    have doubted : s.fcu.Follows { s.fcu with doubtUntil := some (s.ahead s.cfg.doubtInterval) } :=
      (Fcu.engaged_of_state hs).follows
    exact ((doubted.trans (State.recheckPending_follows { s with fcu.doubtUntil := some (s.ahead s.cfg.doubtInterval) })).trans
      (State.dropQueuedHoldoff_follows _)).trans (State.blockNeed_follows _)
  · exact .same _

theorem Fcu.engaged_of_listening {f : Fcu} (h : f.listening = true) : f.engaged :=
  Fcu.engaged_of_state (by simpa [Fcu.listening] using h)

theorem State.takeBackClaim_follows {s : State} {j : ClaimKind} (h : s.fcu.claim = .pending j) (k : ClaimKind) :
    s.fcu.Follows (s.takeBackClaim k).fcu := by
  refine Fcu.Follows.trans ?_ (State.permitTest_follows _)
  exact (Fcu.engaged_of_claim (by simp [h])).follows (held := fun i hi => by simp [h] at hi)

theorem State.grantClaim_follows {s : State} {j : ClaimKind} (h : s.fcu.claim = .pending j) (k : ClaimKind) :
    s.fcu.Follows (s.grantClaim k).fcu :=
  (Fcu.engaged_of_claim (by simp [h])).follows (state := s.endHoldoff_follows.state) (need := .inl rfl)
    (held := fun i hi => by simp [h] at hi)

theorem State.claimCompleted_follows (s : State) (k : ClaimKind) : s.fcu.Follows (s.claimCompleted k).1.fcu := by
  unfold State.claimCompleted
  split
  · rename_i j hj
    split
    · split
      · exact State.grantClaim_follows hj k
      · exact State.takeBackClaim_follows hj k
    · exact .same _
  · rename_i j hj
    split
    · exact (Fcu.engaged_of_claim (by simp [hj])).follows
    · exact .same _
  · exact .same _

theorem State.holdoffCompleted_follows (s : State) : s.fcu.Follows s.holdoffCompleted.fcu := by
  unfold State.holdoffCompleted
  split
  · exact (Fcu.engaged_of_holdoff (by simp [*])).follows
  · exact (Fcu.engaged_of_holdoff (by simp [*])).follows
  · exact .same _

theorem State.noticeCompleted_follows (s : State) (n : Notice) (stale : Bool) :
    s.fcu.Follows (s.noticeCompleted n stale).1.fcu := by
  unfold State.noticeCompleted
  split
  · split
    · exact s.claimCompleted_follows _
    · exact s.holdoffCompleted_follows
    · exact .same _
  · exact .same _

theorem State.claimFailed_follows (s : State) : s.fcu.Follows s.claimFailed.fcu := by
  unfold State.claimFailed
  split
  · rename_i k hk
    split
    · exact .same _
    · refine Fcu.Follows.trans ?_ (State.permitTest_follows _)
      exact (Fcu.engaged_of_claim (by simp [hk])).follows (held := fun j hj => by simp [hk] at hj)
  · rename_i k hk
    exact (Fcu.engaged_of_claim (by simp [hk])).follows
  · exact .same _

theorem State.noticeFailed_follows (s : State) (n : Notice) : s.fcu.Follows (s.noticeFailed n).fcu := by
  unfold State.noticeFailed
  split
  · rename_i hl
    split
    · exact s.beginDoubt_follows.trans (State.claimFailed_follows _)
    · have doubted := s.beginDoubt_follows
      exact (Fcu.engaged_of_listening hl).follows doubted.state doubted.need doubted.held
    · exact s.beginDoubt_follows
  · exact .same _

theorem State.meetHoldoff_follows (s : State) (w : ClaimKind) : s.fcu.Follows (s.meetHoldoff w).fcu := by
  unfold State.meetHoldoff
  split
  · split
    · exact s.dropQueuedHoldoff_follows
    · exact .same _
  · rename_i k hk
    split
    · exact (Fcu.engaged_of_holdoff (by simp [hk])).follows
    · exact .same _
  · exact .same _

end Sys2Proof.Machine
end

section
/-!
PROOFS. The laws of claims at the operations of the Cycle Controller (O5): coordination, the end of an item, the begin of a phase,
choices, results, faults and start-up.
-/

-- One theorem after another: each one elaborated beside the others takes a thread with a stack of its own.
set_option Elab.async false

namespace Sys2Proof.Machine

/-! ### The laws, as proofs use them -/

theorem State.Lawful.emptyIfSilent {s : State} (h : s.Lawful) : s.fcu.emptyIfSilent := fun hs => (h.silentHoldsNothing hs).1

/-- Where the mode is one in which work goes on the unit takes part (R53, R75). -/
theorem State.Lawful.not_silent {s : State} (h : s.Lawful)
    (hm : s.cyc.mode ≠ .start ∧ s.cyc.mode ≠ .halted ∧ s.cyc.mode ≠ .faulted) : ¬s.fcu.silent := by
  intro hs
  obtain ⟨h1, h2, h3⟩ := hm
  rcases (h.silentHoldsNothing hs).2 with hm | hm | hm
  · exact h1 hm
  · exact h2 hm
  · exact h3 hm

/-- With an item current the mode is RUNNING or PAUSING (R27). -/
theorem State.Lawful.mode_of_current {s : State} (h : s.Lawful) {c : Current} (hc : s.cyc.current = some c) :
    s.cyc.mode = .running ∨ s.cyc.mode = .pausing := h.worksInMode (by simp [hc])

theorem State.Lawful.idle_of_mode {s : State} (h : s.Lawful) (hr : s.cyc.mode ≠ .running) (hp : s.cyc.mode ≠ .pausing) :
    s.cyc.current = none := by
  by_contra hc
  rcases h.worksInMode (Option.isSome_iff_ne_none.mpr hc) with hm | hm
  · exact hr hm
  · exact hp hm

theorem State.currentIn_iff {s : State} {phases : List Phase} {step : CycStep} :
    s.currentIn phases step = true ↔ ∃ c, s.cyc.current = some c ∧ c.phase ∈ phases ∧ c.step = step := by
  unfold State.currentIn
  split
  · rename_i c hc
    simp [hc]
  · rename_i hc
    simp [hc]

theorem State.needFits_of_none {s : State} (h : s.fcu.need = none) : s.needFits = true := by
  simp only [State.needFits, h]

/-- With a need set the current item waits for it, at rest (R32, R48). -/
theorem State.Lawful.of_need {s : State} (h : s.Lawful) {n : Need} (hn : s.fcu.need = some n) :
    ∃ c, s.cyc.current = some c ∧ c.step = .waiting ∧ c.phase.claim = some n.kind ∧ s.atRest = true := by
  have hf := h.need
  simp only [State.needFits, hn] at hf
  split at hf
  · rename_i hnone
    cases hnone
  · rename_i m c hm hc
    obtain rfl := Option.some.inj hm
    obtain ⟨⟨hw, hk⟩, hr⟩ : (c.step = .waiting ∧ c.phase.claim = some n.kind) ∧ s.atRest = true := by simpa using hf
    exact ⟨c, hc, hw, hk, hr⟩
  · cases hf

/-- No need is set but for a WAITING item. -/
theorem State.Lawful.needless {s : State} (h : s.Lawful) (hc : ∀ c, s.cyc.current = some c → c.step ≠ .waiting) :
    s.fcu.need = none := by
  by_contra hn
  obtain ⟨n, hn⟩ := Option.ne_none_iff_exists'.mp hn
  obtain ⟨c, hcur, hw, _⟩ := h.of_need hn
  exact hc c hcur hw

theorem State.Lawful.needless_idle {s : State} (h : s.Lawful) (hc : s.cyc.current = none) : s.fcu.need = none :=
  h.needless (by simp [hc])

/-- No work is in hand that needs a claim: no force cycle, no sequence, no image work (R96, R112, R144). -/
def State.workless (s : State) : Prop :=
  s.frc.state.inCycle = false ∧ s.mot.sequence = none ∧ s.img.state.working = false

/-- A force cycle, a sequence and the IMAGE work each stand in a WORKING item of their phases. -/
theorem State.Lawful.workless {s : State} (h : s.Lawful) (hf : s.currentIn [.indent] .working = false)
    (hm : s.currentIn [.toSite, .toView] .working = false) (hi : s.currentIn [.image] .working = false) : s.workless := by
  refine ⟨?_, ?_, ?_⟩
  · by_contra hc
    rw [(h.forceUnderQuiet (by simpa using hc)).2] at hf
    cases hf
  · by_contra hs
    rw [(h.motionUnderMotion (Option.isSome_iff_ne_none.mpr hs)).2.1] at hm
    cases hm
  · by_contra hs
    rw [(h.imageUnderQuiet (by simpa using hs)).2] at hi
    cases hi

theorem State.Lawful.workless_resting {s : State} (h : s.Lawful) (hc : ∀ c, s.cyc.current = some c → c.step ≠ .working) :
    s.workless := by
  have none : ∀ phases, s.currentIn phases .working = false := by
    intro phases
    rw [← Bool.not_eq_true, State.currentIn_iff]
    rintro ⟨c, hcur, _, hs⟩
    exact hc c hcur hs
  exact h.workless (none _) (none _) (none _)

theorem State.Lawful.workless_idle {s : State} (h : s.Lawful) (hc : s.cyc.current = none) : s.workless :=
  h.workless_resting (by simp [hc])

/-- An item in a phase has in hand at most the work of that phase. -/
theorem State.Lawful.phase_work {s : State} (h : s.Lawful) {c : Current} (hc : s.cyc.current = some c) :
    (c.phase ≠ .indent → s.frc.state.inCycle = false) ∧
      (c.phase ≠ .toSite → c.phase ≠ .toView → s.mot.sequence = none) ∧
        (c.phase ≠ .image → s.img.state.working = false) := by
  have inPhase : ∀ phases, s.currentIn phases .working = true → c.phase ∈ phases := by
    intro phases hin
    obtain ⟨d, hd, hp, _⟩ := State.currentIn_iff.mp hin
    obtain rfl := Option.some.inj (hc.symm.trans hd)
    exact hp
  refine ⟨fun hp => ?_, fun h1 h2 => ?_, fun hp => ?_⟩
  · by_contra hf
    exact hp (by simpa using inPhase _ (h.forceUnderQuiet (by simpa using hf)).2)
  · by_contra hs
    have := inPhase _ (h.motionUnderMotion (Option.isSome_iff_ne_none.mpr hs)).2.1
    simp [h1, h2] at this
  · by_contra hi
    exact hp (by simpa using inPhase _ (h.imageUnderQuiet (by simpa using hi)).2)

theorem State.Lawful.settleless {s : State} (h : s.Lawful) (hs : s.mot.sequence = none) : s.mot.settleEnd = none := by
  by_contra hd
  have := h.settleInSequence (Option.isSome_iff_ne_none.mpr hd)
  simp [hs] at this

/-- A state of the Force Unit before contact is one of a cycle. -/
theorem ForceState.beforeContact_inCycle {f : ForceState} (h : f.inCycle = false) : f.beforeContact = false := by
  cases f <;> simp_all [ForceState.inCycle, ForceState.beforeContact]

/-- The laws where no work is in hand and no need is set: they are those of the item, the mode and the unit. -/
theorem State.Lawful.of_workless {s : State} (work : s.workless) (settle : s.mot.settleEnd = none) (need : s.fcu.need = none)
    (mode : s.cyc.current.isSome → s.cyc.mode = .running ∨ s.cyc.mode = .pausing) (phases : s.phaseFits = true)
    (contact : s.contactFits = true)
    (silent : s.fcu.silent → s.fcu.holdsNothing = true ∧ (s.cyc.mode = .start ∨ s.cyc.mode = .halted ∨ s.cyc.mode = .faulted))
    (start : s.cyc.mode = .start → s.fcu.state = .inactive) (held : s.resetHeld = true → s.cyc.current = none)
    (sync : s.fli.engine = .sync → s.fli.idleCount ≠ 12) : s.Lawful where
  worksInMode := mode
  phases := phases
  contact := contact
  contactToCome hb := by
    rw [ForceState.beforeContact_inCycle work.1] at hb
    cases hb
  need := State.needFits_of_none need
  forceUnderQuiet hf := by
    rw [work.1] at hf
    cases hf
  motionUnderMotion hs := by
    rw [work.2.1] at hs
    cases hs
  settleInSequence hs := by
    rw [settle] at hs
    cases hs
  imageUnderQuiet hi := by
    rw [work.2.2] at hi
    cases hi
  silentHoldsNothing := silent
  startIsInactive := start
  heldIsIdle := held
  syncIsBusy := sync

/-- The laws where nothing is current. -/
theorem State.Lawful.of_idle {s : State} (current : s.cyc.current = none) (mark : s.cyc.contactMark = none)
    (work : s.workless) (settle : s.mot.settleEnd = none) (need : s.fcu.need = none)
    (silent : s.fcu.silent → s.fcu.holdsNothing = true ∧ (s.cyc.mode = .start ∨ s.cyc.mode = .halted ∨ s.cyc.mode = .faulted))
    (start : s.cyc.mode = .start → s.fcu.state = .inactive)
    (sync : s.fli.engine = .sync → s.fli.idleCount ≠ 12) : s.Lawful :=
  .of_workless work settle need (by simp [current]) (by simp [State.phaseFits, current])
    (by simp [State.contactFits, mark]) silent start (fun _ => current) sync

/-! ### Operations that the laws do not see -/

/-- The laws at a station whose RESET_N is released, where commands have their effects. -/
structure State.Obeys (s : State) : Prop extends s.Lawful where
  released : s.resetHeld = false

/-- Frame Coordination keeps the laws where it keeps what they ask of it. -/
theorem State.Obeys.coordinated {s t : State} (h : s.Obeys) (ho : OnlyCoordination s t) (hf : s.fcu.Follows t.fcu) :
    t.Obeys := by
  obtain ⟨fcu, _, _, _, rfl, _⟩ := ho
  refine { h with need := ?_, forceUnderQuiet := ?_, motionUnderMotion := ?_, imageUnderQuiet := ?_,
                  silentHoldsNothing := ?_, startIsInactive := ?_ }
  · rcases hf.need with hn | hn
    · exact State.needFits_of_none hn
    · have := h.need
      simp only [State.needFits] at this ⊢
      rwa [show fcu.need = s.fcu.need from hn]
  · exact fun hc => ⟨hf.held _ (h.forceUnderQuiet hc).1, (h.forceUnderQuiet hc).2⟩
  · exact fun hs => ⟨hf.held _ (h.motionUnderMotion hs).1, (h.motionUnderMotion hs).2⟩
  · exact fun hi => ⟨hf.held _ (h.imageUnderQuiet hi).1, (h.imageUnderQuiet hi).2⟩
  · intro hs
    have hs' : s.fcu.silent := by rwa [show fcu.state = s.fcu.state from hf.state] at hs
    exact ⟨hf.empty h.emptyIfSilent hs, (h.silentHoldsNothing hs').2⟩
  · exact fun hm => hf.state.trans (h.startIsInactive hm)

/-- Entries, messages and counters are not in the laws. -/
theorem State.Obeys.reported {s t : State} (h : s.Obeys) (ho : OnlyReports s t) : t.Obeys := by
  obtain ⟨_, _, _, _, rfl⟩ := ho
  exact { h with }

theorem State.Obeys.permitTest {s : State} (h : s.Obeys) : s.permitTest.Obeys :=
  h.coordinated (.permitTest s) s.permitTest_follows

theorem State.Obeys.recheckPending {s : State} (h : s.Obeys) : s.recheckPending.Obeys :=
  h.coordinated (.recheckPending s) s.recheckPending_follows

theorem State.Obeys.beginDoubt {s : State} (h : s.Obeys) : s.beginDoubt.Obeys :=
  h.coordinated (.beginDoubt s) s.beginDoubt_follows

theorem State.Obeys.clearNeed {s : State} (h : s.Obeys) : s.clearNeed.Obeys :=
  h.coordinated (.clearNeed s) s.clearNeed_follows

theorem State.Obeys.send {s : State} (h : s.Obeys) (m : Message) : (s.send m).Obeys := h.reported (.send s m)

theorem State.Obeys.signal {s : State} (h : s.Obeys) (k : EventKind) (b : BitVec 20) : (s.signal k b).Obeys :=
  h.reported (.signal s k b)

/-! ### A release (R61) -/

/-- A release leaves the unit's state and an absent need, and a silent unit empty. -/
theorem State.release_fcu (s : State) :
    s.release.fcu.state = s.fcu.state ∧ (s.fcu.need = none → s.release.fcu.need = none) ∧
      (s.fcu.emptyIfSilent → s.release.fcu.emptyIfSilent) := by
  unfold State.release
  split
  · rename_i k hk
    have follows := State.permitTest_follows ({ (s.removeClaim.markStale Notice.isClaim) with
      fcu.claim := .none, fcu.claimRefresh := none, fcu.collided := [] }.queueNotice (.release k))
    refine ⟨follows.state, follows.needless, fun he hs => absurd ?_ ((Fcu.engaged_of_claim (by simp [hk])).awake he)⟩
    rw [Fcu.silent, follows.state] at hs
    exact hs
  · exact ⟨rfl, id, id⟩

/-- A claim may be released where no work stands under it. -/
theorem State.Obeys.release {s : State} (h : s.Obeys) (hw : s.workless) : s.release.Obeys := by
  unfold State.release
  split
  · rename_i k hk
    have awake : ¬s.fcu.silent := (Fcu.engaged_of_claim (by simp [hk])).awake h.emptyIfSilent
    refine State.Obeys.permitTest ?_
    refine { h with forceUnderQuiet := ?_, motionUnderMotion := ?_, imageUnderQuiet := ?_, silentHoldsNothing := ?_ }
    · exact fun hf => absurd hf (by simp [hw.1])
    · exact fun hs => absurd hs (by simp [hw.2.1])
    · exact fun hi => absurd hi (by simp [hw.2.2])
    · exact fun hs => absurd hs awake
  · exact h

theorem OnlyCoordination.workless {s t : State} (ho : OnlyCoordination s t) (hw : s.workless) : t.workless := by
  obtain ⟨_, _, _, _, rfl, _⟩ := ho
  exact hw

/-! ### The item that is current -/

/-- Another item, or none, may be current where no work is in hand and no need is set. -/
theorem State.Obeys.recast {s : State} (h : s.Obeys) (hw : s.workless) (hn : s.fcu.need = none) {c : Cyc}
    (hm : c.mode = s.cyc.mode) (mode : c.current.isSome → c.mode = .running ∨ c.mode = .pausing)
    (phases : ({ s with cyc := c } : State).phaseFits = true) (contact : ({ s with cyc := c } : State).contactFits = true) :
    ({ s with cyc := c } : State).Obeys := by
  refine ⟨.of_workless hw (h.settleless hw.2.1) hn mode phases contact (fun hs => ?_) (fun hs => ?_) (fun hr => ?_) h.syncIsBusy,
    h.released⟩
  · rw [show ({ s with cyc := c } : State).cyc.mode = s.cyc.mode from hm]
    exact h.silentHoldsNothing hs
  · exact h.startIsInactive (hm.symm.trans hs)
  · exact absurd (h.released.symm.trans hr) (by decide)

/-- An item may cease to be current where no work is in hand and no need is set. -/
theorem State.Obeys.dropCurrent {s : State} (h : s.Obeys) (hw : s.workless) (hn : s.fcu.need = none) :
    ({ s with cyc := s.cyc.dropCurrent } : State).Obeys :=
  h.recast hw hn rfl (fun hs => by cases hs) rfl rfl

/-- A WAITING phase sets its need only at rest (R32, R48). -/
theorem State.Obeys.trySetNeed {s : State} (h : s.Obeys) : s.trySetNeed.Obeys := by
  unfold State.trySetNeed
  split
  · rename_i c hc
    split
    · rename_i k hk
      split
      · rename_i hw
        obtain ⟨hstep, hneed, hrest, _⟩ := hw
        have awake : ¬s.fcu.silent := by
          refine h.not_silent ?_
          rcases h.mode_of_current hc with hm | hm <;> simp [hm]
        refine State.Obeys.permitTest { h with need := ?_, silentHoldsNothing := fun hs => absurd hs awake }
        simp only [State.needFits, hc, hk, hstep, beq_self_eq_true, Bool.true_and]
        exact hrest
      · exact h
    · exact h
  · exact h

/-- Where a phase may begin: the mode is one in which work goes on, no work is in hand and no need is set. -/
structure State.MayEnter (s : State) (w : Work) (p : Phase) : Prop where
  mode : s.cyc.mode = .running ∨ s.cyc.mode = .pausing
  work : s.workless
  need : s.fcu.need = none
  fits : p = .toSite ∨ p = .indent → w.isIndent = true ∧ s.cyc.contactMark = none

/-- A phase begins WAITING (R26, R32). -/
theorem State.Obeys.enterPhase {s : State} (h : s.Obeys) {w : Work} {p : Phase} (he : s.MayEnter w p) :
    (s.enterPhase w p).Obeys := by
  have begun : ({ s with
      cyc := { s.cyc.startGathering p with current := some { work := w, phase := p, step := .waiting } } } : State).Obeys := by
    have gathering : (s.cyc.startGathering p).mode = s.cyc.mode ∧ (s.cyc.startGathering p).contactMark = s.cyc.contactMark := by
      cases p <;> exact ⟨rfl, rfl⟩
    refine h.recast he.work he.need gathering.1 (fun _ => ?_) ?_ ?_
    · exact gathering.1.symm ▸ he.mode
    · cases p <;> simp_all [State.phaseFits, he.fits]
    · cases p <;> simp_all [State.contactFits, he.fits]
  have cued : ∀ u : State, u.Obeys → (u.cueRoom p).Obeys := by
    intro u hu
    unfold State.cueRoom
    split
    · exact { hu with }
    · exact hu
  have opened : ∀ u : State, u.Obeys → (u.openBufferFull p).Obeys := by
    intro u hu
    unfold State.openBufferFull
    split
    · exact State.Obeys.signal (s := { u with cyc.bufferFull := true }) { hu with } _ _
    · exact hu
  exact (opened _ (cued _ begun)).trySetNeed

/-! ### Choices (R35, R36, R46) -/

theorem State.Lawful.unmarked_idle {s : State} (h : s.Lawful) (hc : s.cyc.current = none) : s.cyc.contactMark = none := by
  have := h.contact
  simpa [State.contactFits, hc] using this

/-- A station that is to choose: RUNNING, with nothing current. -/
structure State.Chooses (s : State) : Prop extends s.Obeys where
  running : s.cyc.mode = .running
  idle : s.cyc.current = none

/-- With nothing current a phase may begin for work that fits it. -/
theorem State.Obeys.mayEnter_idle {s : State} (h : s.Obeys) (hm : s.cyc.mode = .running ∨ s.cyc.mode = .pausing)
    (hc : s.cyc.current = none) {w : Work} {p : Phase} (hp : p = .toSite ∨ p = .indent → w.isIndent = true) : s.MayEnter w p where
  mode := hm
  work := h.workless_idle hc
  need := h.needless_idle hc
  fits hi := ⟨hp hi, h.unmarked_idle hc⟩

/-- What one choice answers: a state that keeps the laws, and one that is to choose where it is to be made again. -/
def choiceObeys (r : State × Bool) : Prop := r.1.Obeys ∧ (r.2 = true → r.1.Chooses)

theorem State.Chooses.enterPhase {s : State} (h : s.Chooses) {w : Work} {p : Phase}
    (hp : p = .toSite ∨ p = .indent → w.isIndent = true) : choiceObeys (s.enterPhase w p, false) :=
  ⟨h.toObeys.enterPhase (h.mayEnter_idle (.inl h.running) h.idle hp), fun hf => by cases hf⟩

theorem State.Chooses.waitFor {s : State} (h : s.Chooses) (cue : Cue) : choiceObeys (s.waitFor cue) := by
  unfold State.waitFor
  split
  · exact ⟨{ h with }, fun _ => { h with }⟩
  · exact ⟨{ h with }, fun _ => { h with }⟩

theorem State.Chooses.reported {s t : State} (h : s.Chooses) (ho : OnlyReports s t) : t.Chooses where
  toObeys := h.toObeys.reported ho
  running := by rw [ho.cyc, h.running]
  idle := by rw [ho.cyc, h.idle]

theorem State.Chooses.defer {s : State} (h : s.Chooses) (r : DeferralReason) : (s.defer r).Chooses := by
  unfold State.defer
  split
  · exact h
  · exact State.Chooses.reported (s := { s with sst.deferral := some { reason := r, since := s.now } }) { h with } (.signal _ _ _)

theorem State.Chooses.askSelection {s : State} (h : s.Chooses) : choiceObeys s.askSelection := by
  have taken : s.takeHead.Chooses := { h with }
  unfold State.askSelection State.select
  split
  rename_i answer t he
  split at he
  · obtain ⟨rfl, rfl⟩ := Prod.mk.inj he
    exact h.waitFor _
  · obtain ⟨rfl, rfl⟩ := Prod.mk.inj he
    exact taken.enterPhase (by simp)
  · rename_i i _
    split at he <;> obtain ⟨rfl, rfl⟩ := Prod.mk.inj he
    · exact State.Chooses.enterPhase (s := { s.takeHead with cyc.batch := s.takeHead.cyc.batchFor i }) { taken with }
        fun _ => rfl
    · rename_i r _
      cases r
      · exact (h.defer _).waitFor _
      · exact (h.defer _).waitFor _
    · have rejected := taken.reported (.createUnmade _ i.fields .rejectedSpacing .none)
      exact ⟨rejected.toObeys, fun _ => rejected⟩

theorem State.Chooses.chooseUnbatched {s : State} (h : s.Chooses) : choiceObeys s.chooseUnbatched := by
  unfold State.chooseUnbatched State.chooseInBatchMode
  split
  · exact h.enterPhase (by simp)
  · split
    · split
      · split
        · exact h.askSelection
        · exact h.waitFor _
      · exact h.askSelection
    · exact h.askSelection

theorem State.Chooses.chooseOnce {s : State} (h : s.Chooses) : choiceObeys s.chooseOnce := by
  have uncued : ({ s with cyc.cue := .none } : State).Chooses := { h with }
  unfold State.chooseOnce
  dsimp only
  split
  · split
    · exact ⟨{ h with }, fun _ => { h with }⟩
    · exact uncued.askSelection
  · exact uncued.chooseUnbatched

theorem State.Chooses.chooseUpTo (n : Nat) {s : State} (h : s.Chooses) : (State.chooseUpTo n s).Obeys := by
  induction n generalizing s with
  | zero => exact h.toObeys
  | succ n ih =>
    obtain ⟨once, again⟩ := h.chooseOnce
    unfold State.chooseUpTo
    split
    · rename_i t ht
      rw [ht] at again
      exact ih (again rfl)
    · rename_i t ht
      rw [ht] at once
      exact once

theorem State.Chooses.choose {s : State} (h : s.Chooses) : s.choose.Obeys := h.chooseUpTo _

theorem State.Obeys.wake {s : State} (h : s.Obeys) (q : Cue) : (s.wake q).Obeys := by
  unfold State.wake
  split
  · rename_i hw
    simp only [Cyc.waitsWith, Bool.and_eq_true, beq_iff_eq, Option.isNone_iff_eq_none] at hw
    exact State.Chooses.choose ⟨h, hw.1.2, hw.2⟩
  · exact h

theorem State.Obeys.checkPaused {s : State} (h : s.Obeys) : s.checkPaused.Obeys := by
  unfold State.checkPaused
  split
  · rename_i hp
    obtain ⟨hm, hf⟩ := hp
    have idle : s.cyc.current = none := by
      simp only [State.nothingToFinish, Bool.and_eq_true, Option.isNone_iff_eq_none] at hf
      exact hf.1.1.1.1
    exact { h with
      worksInMode := fun hc => by simp [idle] at hc
      silentHoldsNothing := fun hs => absurd hs (h.not_silent (by simp [hm]))
      startIsInactive := fun hs => by cases hs }
  · exact h

theorem State.Obeys.continueWork {s : State} (h : s.Obeys) : s.continueWork.Obeys := by
  unfold State.continueWork
  split
  · exact State.Chooses.choose ⟨h, by assumption, by assumption⟩
  · rename_i hc hm
    unfold State.pausingNext
    split
    · exact h.enterPhase (h.mayEnter_idle (.inr hm) hc (by simp))
    · exact h.checkPaused
  · exact h

theorem State.Obeys.endItem {s : State} (h : s.Obeys) (hw : s.workless) (hn : s.fcu.need = none) : s.endItem.Obeys :=
  (h.dropCurrent hw hn).continueWork

/-- An item whose work is over gives up its claim and ends. -/
theorem State.Obeys.releaseEnd {s : State} (h : s.Obeys) (hw : s.workless) (hn : s.fcu.need = none) :
    s.release.endItem.Obeys :=
  (h.release hw).endItem ((OnlyCoordination.release s).workless hw) (s.release_fcu.2.1 hn)

/-! ### Results and computations (R43, R152, R153) -/

theorem State.Obeys.afterWrite {s : State} (h : s.Obeys) : s.afterWrite.Obeys := by
  have cued : ({ s with
      cyc := { s.cyc.afterWrite s.hasRoom with bufferFull := s.cyc.bufferFull && s.mea.freeSlot?.isNone } } : State).Obeys := by
    unfold Cyc.afterWrite
    split
    · exact { h with }
    · exact { h with }
  unfold State.afterWrite
  dsimp only
  split
  · rename_i hw
    simp only [Cyc.waitsWith, Bool.and_eq_true, beq_iff_eq, Option.isNone_iff_eq_none] at hw
    exact State.Chooses.choose ⟨cued.trySetNeed, hw.1.2, hw.2⟩
  · exact cued.trySetNeed

theorem State.Obeys.completeSlot {s : State} (h : s.Obeys) (name : SlotName) (d : Delivery) : (s.completeSlot name d).Obeys :=
  State.Obeys.reported (s := { s with mea := s.mea.set name .free, cyc.delivered := s.cyc.delivered.erase d.site }) { h with }
    (.writeResult _ _)

theorem State.Obeys.startSlot {s : State} (h : s.Obeys) (name : SlotName) : (s.startSlot name).1.Obeys := by
  unfold State.startSlot
  split
  · split
    · split
      · exact { h with }
      · exact h.completeSlot _ _
    · exact h
  · exact h

theorem State.Obeys.startComputations {s : State} (h : s.Obeys) : s.startComputations.Obeys := by
  have both := (h.startSlot .a).startSlot .b
  unfold State.startComputations
  dsimp only
  split
  · exact both.afterWrite
  · exact both

theorem State.Obeys.computeDone {s : State} (h : s.Obeys) (name : SlotName) : (s.computeDone name).Obeys := by
  unfold State.computeDone
  split
  · exact (h.completeSlot _ _).afterWrite
  · exact h

end Sys2Proof.Machine
end

section
/-!
PROOFS. The laws of claims at faults, at start-up and at the reports of the Force Unit (O5).
-/

-- One theorem after another: each one elaborated beside the others takes a thread with a stack of its own.
set_option Elab.async false

namespace Sys2Proof.Machine

/-! ### Stops -/

/-- A stop order ends a force cycle (R125). -/
theorem Frc.stopForFault_inCycle (f : Frc) (c : ConfigImage) (now : Time) :
    (f.stopForFault c now).1.state.inCycle = false := by
  unfold Frc.stopForFault
  cases h : f.state <;> simp [Frc.enterRetract, Frc.enterFastUnload, ForceState.inCycle, h]

theorem Frc.stopForAbort_inCycle (f : Frc) (c : ConfigImage) (now : Time) :
    (f.stopForAbort c now).1.state.inCycle = false := by
  unfold Frc.stopForAbort
  cases h : f.state <;> simp [Frc.enterRetract, Frc.enterFastUnload, ForceState.inCycle, h]

/-- A stop leaves no sequence and no settle; where one is under way already none was left (R105). -/
theorem Mot.stop_sequence {m : Mot} (hq : m.sequence.isSome → m.stopping = false) (hs : m.settleEnd.isSome → m.sequence.isSome) :
    m.stop.1.sequence = none ∧ m.stop.1.settleEnd = none := by
  by_cases h : m.stopping = true
  · have hn : m.sequence = none := by
      by_contra hm
      rw [hq (Option.isSome_iff_ne_none.mpr hm)] at h
      cases h
    rw [Mot.stop_again h]
    refine ⟨hn, ?_⟩
    by_contra hm
    have := hs (Option.isSome_iff_ne_none.mpr hm)
    simp [hn] at this
  · obtain ⟨h1, h2, _⟩ := Mot.stop_ends (m := m) (by simpa using h)
    exact ⟨h1, h2⟩

theorem State.Lawful.stopped {s : State} (h : s.Lawful) : s.mot.stop.1.sequence = none ∧ s.mot.stop.1.settleEnd = none :=
  Mot.stop_sequence (fun hs => (h.motionUnderMotion hs).2.2) h.settleInSequence

/-- An abandonment leaves the Image Unit in IDLE or ENDING (R148). -/
theorem State.abandonImage_rests (s : State) :
    ∃ mea img, s.abandonImage = { s with mea := mea, img := img } ∧ img.state.working = false := by
  unfold State.abandonImage
  split
  · rename_i hi
    exact ⟨s.mea, s.img, rfl, by rcases hi with hi | hi <;> rw [hi] <;> rfl⟩
  · obtain ⟨mea, hm, _⟩ := s.freeReserved_slots
    rw [hm]
    refine ⟨mea, _, rfl, ?_⟩
    dsimp only
    split <;> rfl

/-! ### Faults (R50) -/

/-- In FAULTED, with the item dropped and the force cycle stopped, the end of the need, the claim and the work leaves nothing that
the laws speak of. -/
theorem State.Obeys.of_faulted {v : State} (mode : v.cyc.mode = .faulted) (idle : v.cyc.current = none)
    (mark : v.cyc.contactMark = none) (force : v.frc.state.inCycle = false) (released : v.resetHeld = false)
    (empty : v.fcu.emptyIfSilent) (hq : v.mot.sequence.isSome → v.mot.stopping = false)
    (hs : v.mot.settleEnd.isSome → v.mot.sequence.isSome) (sync : v.fli.engine = .sync → v.fli.idleCount ≠ 12) :
    ({ v.clearNeed.release.abandonImage with mot := v.clearNeed.release.abandonImage.mot.stop.1 } : State).Obeys := by
  obtain ⟨_, need, silent⟩ := State.release_fcu v.clearNeed
  obtain ⟨mea, img, hi, rests⟩ := State.abandonImage_rests v.clearNeed.release
  obtain ⟨_, _, _, _, hc, _⟩ := (OnlyCoordination.clearNeed v).trans (.release _)
  have holds : v.clearNeed.release.fcu.emptyIfSilent := silent (v.clearNeed_follows.empty empty)
  have needless : v.clearNeed.release.fcu.need = none := need (State.clearNeed_need _)
  obtain ⟨hseq, hset⟩ := Mot.stop_sequence hq hs
  rw [hi]
  rw [hc] at holds needless ⊢
  refine ⟨.of_idle idle mark ⟨force, hseq, rests⟩ hset needless (fun hsil => ⟨holds hsil, .inr (.inr mode)⟩) (fun h => ?_) sync,
    released⟩
  exact absurd (mode.symm.trans h) (by decide)

/-- A fault drops the item, ends its need and its claim and stops every block (R50). -/
theorem State.stationFault_obeys {s : State} (hm : s.cyc.mode ≠ .faulted) (released : s.resetHeld = false)
    (empty : s.fcu.emptyIfSilent) (hq : s.mot.sequence.isSome → s.mot.stopping = false)
    (hs : s.mot.settleEnd.isSome → s.mot.sequence.isSome) (sync : s.fli.engine = .sync → s.fli.idleCount ≠ 12)
    (cause : FaultCause) : (s.stationFault cause).Obeys := by
  simp only [State.stationFault, hm, if_false]
  obtain ⟨_, _, _, _, hw⟩ := OnlyReports.writeAbandoned (s.withForceStop (s.frc.stopForFault s.cfg s.now))
  rw [hw]
  exact .of_faulted rfl rfl rfl (Frc.stopForFault_inCycle _ _ _) released empty hq hs sync

theorem State.Obeys.stationFault {s : State} (h : s.Obeys) (cause : FaultCause) : (s.stationFault cause).Obeys := by
  by_cases hm : s.cyc.mode = .faulted
  · rw [State.stationFault_faulted hm]
    exact h
  · exact State.stationFault_obeys hm h.released h.emptyIfSilent (fun hs => (h.motionUnderMotion hs).2.2) h.settleInSequence
      h.syncIsBusy cause

/-- A fault that the Motion Unit reports once its sequence has ended keeps the laws (R97, R106). -/
theorem State.Obeys.motionFault {s : State} (h : s.Obeys) {m : Mot} (hq : m.sequence = none) (hs : m.settleEnd = none)
    (cause : FaultCause) : (({ s with mot := m } : State).stationFault cause).Obeys := by
  by_cases hm : s.cyc.mode = .faulted
  · rw [State.stationFault_faulted (by exact hm)]
    have idle : s.cyc.current = none := h.idle_of_mode (by simp [hm]) (by simp [hm])
    obtain ⟨hf, _, hi⟩ := h.workless_idle idle
    exact ⟨.of_idle idle (h.unmarked_idle idle) ⟨hf, hq, hi⟩ hs (h.needless_idle idle) h.silentHoldsNothing h.startIsInactive
      h.syncIsBusy, h.released⟩
  · exact State.stationFault_obeys (s := { s with mot := m }) hm h.released h.emptyIfSilent (fun hs => by simp [hq] at hs)
      (fun hd => by simp [hs] at hd) h.syncIsBusy cause

/-! ### Start-up (R29 to R31) -/

/-- The unit that a HALT or an end of START silences holds nothing (R75). -/
theorem Fcu.halt_holdsNothing (f : Fcu) : f.halt.holdsNothing = true := by
  simp [Fcu.halt, Fcu.reset, Fcu.holdsNothing, emptied, ViewEntry.cleared]

theorem State.Obeys.enterListenIn {s : State} (h : s.Obeys) (hm : s.cyc.mode = .start ∨ s.cyc.mode = .halted)
    (cause : HelloCause) : (({ s with cyc.mode := .ready } : State).enterListenIn cause).Obeys := by
  have idle : s.cyc.current = none := by
    refine h.idle_of_mode ?_ ?_ <;> rcases hm with hm | hm <;> simp [hm]
  refine ⟨.of_idle idle (h.unmarked_idle idle) (h.workless_idle idle) (h.settleless (h.workless_idle idle).2.1)
    (h.needless_idle idle) (fun hs => ?_) (fun hs => by cases hs) h.syncIsBusy, h.released⟩
  rcases hs with hs | hs <;> cases hs

theorem State.Obeys.tryEndStart {s : State} (h : s.Obeys) : s.tryEndStart.Obeys := by
  unfold State.tryEndStart
  split
  · rename_i ho
    have hm : s.cyc.mode = .start := by
      simp only [State.startOver, Bool.and_eq_true, beq_iff_eq] at ho
      exact ho.1.1
    have idle : s.cyc.current = none := h.idle_of_mode (by simp [hm]) (by simp [hm])
    split
    · exact { h with
        worksInMode := fun hc => by simp [idle] at hc
        silentHoldsNothing := fun hs => ⟨h.emptyIfSilent hs, .inr (.inr rfl)⟩
        startIsInactive := fun hs => by cases hs }
    · split
      · exact ⟨.of_idle idle (h.unmarked_idle idle) (h.workless_idle idle) (h.settleless (h.workless_idle idle).2.1) rfl
          (fun _ => ⟨Fcu.halt_holdsNothing _, .inr (.inl rfl)⟩) (fun hs => by cases hs) h.syncIsBusy, h.released⟩
      · exact h.enterListenIn (.inl hm) _
  · exact h

/-! ### RETRACTED (R39, R48) -/

theorem State.Obeys.afterIndent {s : State} (h : s.Obeys) (hm : s.cyc.mode = .running ∨ s.cyc.mode = .pausing)
    (hw : s.workless) (hn : s.fcu.need = none) (w : Work) : (s.afterIndent w).Obeys := by
  unfold State.afterIndent
  split
  · exact h.enterPhase ⟨hm, hw, hn, by simp⟩
  · exact h.endItem hw hn

theorem State.Obeys.retractedAtItem {s : State} (h : s.Obeys) (hf : s.frc.state.inCycle = false) : s.retractedAtItem.Obeys := by
  have indent : ∀ {w step}, s.cyc.current = some { work := w, phase := .indent, step := step } → s.workless := by
    intro w step hc
    obtain ⟨_, hs, hi⟩ := h.phase_work hc
    exact ⟨hf, hs (by simp) (by simp), hi (by simp)⟩
  unfold State.retractedAtItem
  split
  · rename_i hc
    exact h.releaseEnd (indent hc) (h.needless (by simp [hc]))
  · rename_i i hc
    have hn : s.fcu.need = none := h.needless (by simp [hc])
    unfold State.indentCompleted
    split
    · have written : (s.writeCompleted i.fields).Obeys := h.reported (.rewrite _ _ _)
      refine (written.release (indent hc)).afterIndent ?_ ((OnlyCoordination.release _).workless (indent hc))
        ((State.release_fcu _).2.1 hn) _
      rw [(OnlyCoordination.release _).cyc]
      exact h.mode_of_current hc
    · exact h.releaseEnd (indent hc) hn
  · exact h.trySetNeed

theorem State.tryEndStart_frc (s : State) : s.tryEndStart.frc = s.frc := by
  unfold State.tryEndStart
  repeat' split
  all_goals rfl

theorem State.Obeys.onRetracted {s : State} (h : s.Obeys) (hf : s.frc.state.inCycle = false) : s.onRetracted.Obeys :=
  (h.tryEndStart.retractedAtItem (by rw [s.tryEndStart_frc, hf])).checkPaused

/-! ### Reports of the Force Unit (R34, R39, R49) -/

/-- Which force states may follow one: none enters a cycle, or the part of it before contact, from elsewhere, and none leaves
home (R109, R112). -/
structure ForceState.MayBecome (f g : ForceState) : Prop where
  cycle : g.inCycle = true → f.inCycle = true
  before : g.beforeContact = true → f.beforeContact = true
  home : f = .retracted → g = .retracted

/-- Which reports fit a change of the force state: a contact and an end of the item come of a cycle, a contact leaves the states
before it and an end the cycle, RETRACTED is no state of a cycle, and what ends the item or faults the station comes last. -/
def ForceState.reportsFit (f g : ForceState) : List ForceReport → Prop
  | [] => True
  | .contact :: rest => f.inCycle = true ∧ g.beforeContact = false ∧ reportsFit f g rest
  | .strokeExhausted :: rest => f.inCycle = true ∧ g.inCycle = false ∧ g ≠ .retracted ∧ rest = []
  | .overload _ :: rest => f.inCycle = true ∧ g.inCycle = false ∧ g ≠ .retracted ∧ rest = []
  | .forceDisagree :: rest => reportsFit f g rest
  | .lostContact :: rest => reportsFit f g rest
  | .holdResults _ _ :: rest => reportsFit f g rest
  | .retracted :: rest => g.inCycle = false ∧ rest = []
  | .sensorOpen :: rest => rest = []
  | .unloadTimeout :: rest => rest = []
  | .retractTimeout :: rest => rest = []

/-- An answer of the Force Unit whose state may follow and whose reports fit. -/
def Frc.answers (f : Frc) (r : Frc × List ForceReport) : Prop :=
  f.state.MayBecome r.1.state ∧ f.state.reportsFit r.1.state r.2

/-- An item of INDENT ends where no force cycle is in hand and the Force Unit is not yet home. -/
theorem State.Obeys.endingIndent {s : State} (h : s.Obeys) (hf : s.frc.state.inCycle = false)
    (hin : s.currentIn [.indent] .working = true) : ({ s with cyc := s.cyc.setStep .ending } : State).Obeys := by
  obtain ⟨c, hc, hp, hs⟩ := State.currentIn_iff.mp hin
  replace hp : c.phase = .indent := by simpa using hp
  obtain ⟨_, hseq, himg⟩ := h.phase_work hc
  refine h.recast ⟨hf, hseq (by simp [hp]) (by simp [hp]), himg (by simp [hp])⟩ (h.needless ?_) rfl
    (fun _ => h.mode_of_current hc) ?_ ?_
  · intro d hd
    obtain rfl := Option.some.inj (hc.symm.trans hd)
    simp [hs]
  · have := h.phases
    simpa [State.phaseFits, Cyc.setStep, hc] using this
  · simp [State.contactFits, Cyc.setStep, hc, hp]

theorem State.Obeys.onContact {s : State} (h : s.Obeys) (hf : s.frc.state.beforeContact = false)
    (hin : s.currentIn [.indent] .working = true) : s.onContact.Obeys := by
  unfold State.onContact
  split
  · rename_i i step hc
    obtain ⟨c, hc', _, hs⟩ := State.currentIn_iff.mp hin
    obtain rfl := Option.some.inj (hc.symm.trans hc')
    obtain rfl : step = .working := hs
    refine { h.reported (.createMade s i.fields s.cyc.gatheredIndent) with contact := ?_, contactToCome := fun hb => ?_ }
    · have : (s.createMade i.fields s.cyc.gatheredIndent).cyc.current = s.cyc.current := rfl
      simp [State.contactFits, this, hc]
    · exact absurd (hf.symm.trans hb) (by decide)
  · exact h

theorem State.Obeys.onStrokeExhausted {s : State} (h : s.Obeys) (hf : s.frc.state.inCycle = false)
    (hin : s.currentIn [.indent] .working = true) : s.onStrokeExhausted.Obeys := by
  unfold State.onStrokeExhausted
  split
  · obtain ⟨_, _, _, _, hw⟩ := OnlyReports.createUnmade s _ .noContact s.cyc.gatheredIndent
    rw [hw]
    exact { h.endingIndent hf hin with }
  · exact h

/-- A report leaves the force record; a note and a contact leave the item too. -/
theorem State.Obeys.forceReports {f : ForceState} (reports : List ForceReport) {u : State} (h : u.Obeys)
    (hin : f.inCycle = true → u.currentIn [.indent] .working = true) (hr : f.reportsFit u.frc.state reports) :
    (reports.foldl State.onForceReport u).Obeys := by
  induction reports generalizing u with
  | nil => exact h
  | cons r rest ih =>
    have gathered : ({ u with cyc.gatheredIndent := u.cyc.gatheredIndent.gather r } : State).Obeys := { h with }
    rw [List.foldl_cons]
    cases r with
    | contact =>
      obtain ⟨hf, hb, hr⟩ := hr
      have contacted := gathered.onContact hb (hin hf)
      have frame : ∀ v : State, v.onContact.frc = v.frc ∧ v.onContact.cyc.current = v.cyc.current := by
        intro v
        unfold State.onContact
        split <;> exact ⟨rfl, rfl⟩
      refine ih contacted (fun hf => ?_) ?_
      · simp only [State.currentIn, State.onForceReport, (frame _).2]
        exact hin hf
      · simp only [State.onForceReport, (frame _).1]
        exact hr
    | strokeExhausted =>
      obtain ⟨hf, hg, _, rfl⟩ := hr
      exact gathered.onStrokeExhausted hg (hin hf)
    | overload after =>
      obtain ⟨hf, hg, _, rfl⟩ := hr
      have written := OnlyReports.writeAbandoned { u with cyc.gatheredIndent := u.cyc.gatheredIndent.gather (.overload after) }
      obtain ⟨_, _, _, _, hw⟩ := written
      simp only [List.foldl_nil, State.onForceReport, State.onOverload]
      rw [hw]
      exact { gathered.endingIndent hg (hin hf) with }
    | forceDisagree => exact ih gathered hin hr
    | lostContact => exact ih gathered hin hr
    | holdResults _ _ => exact ih gathered hin hr
    | sensorOpen =>
      obtain rfl : rest = [] := hr
      exact gathered.stationFault _
    | unloadTimeout =>
      obtain rfl : rest = [] := hr
      exact gathered.stationFault _
    | retractTimeout =>
      obtain rfl : rest = [] := hr
      exact gathered.stationFault _
    | retracted =>
      obtain ⟨hg, rfl⟩ := hr
      exact gathered.onRetracted hg

/-- An answer of the Force Unit keeps the laws. -/
theorem State.Obeys.withForce {s : State} (h : s.Obeys) {r : Frc × List ForceReport} (ha : s.frc.answers r) :
    (s.withForce r).Obeys := by
  obtain ⟨⟨cycle, before, home⟩, fit⟩ := ha
  refine State.Obeys.forceReports (u := { s with frc := r.1 }) r.2 ?_ (fun hf => (h.forceUnderQuiet hf).2) fit
  refine { h with
    contactToCome := fun hb => h.contactToCome (before hb)
    forceUnderQuiet := fun hf => h.forceUnderQuiet (cycle hf)
    need := ?_ }
  cases hn : s.fcu.need with
  | none => exact State.needFits_of_none hn
  | some n =>
    obtain ⟨c, hc, hs, hk, hr⟩ := h.of_need hn
    simp only [State.atRest, Bool.and_eq_true, beq_iff_eq] at hr
    simp [State.needFits, hn, hc, hs, hk, State.atRest, hr, home hr.1.1]

/-! ### The answers of the Force Unit (R112 to R124) -/

theorem Frc.answers_silent {f g : Frc} (h : f.state.MayBecome g.state) : f.answers (g, []) := ⟨h, trivial⟩

theorem ForceState.MayBecome.same (f : ForceState) : f.MayBecome f := ⟨id, id, id⟩

/-- From a cycle every state past contact may follow. -/
theorem ForceState.MayBecome.past {f g : ForceState} (hf : f.inCycle = true) (hg : g.beforeContact = false) : f.MayBecome g where
  cycle _ := hf
  before h := absurd (hg.symm.trans h) (by decide)
  home h := by
    rw [h] at hf
    cases hf

/-- From a state that is not home every state outside a cycle may follow. -/
theorem ForceState.MayBecome.out {f g : ForceState} (hf : f ≠ .retracted) (hg : g.inCycle = false) : f.MayBecome g where
  cycle h := absurd (hg.symm.trans h) (by decide)
  before h := absurd ((ForceState.beforeContact_inCycle hg).symm.trans h) (by decide)
  home h := absurd h hf

/-- An overload in a cycle: FAST_UNLOAD, with the hold results where the state was HOLD (R121). -/
theorem Frc.overload_answers {f g : Frc} (hf : f.state.inCycle = true) (c : ConfigImage) (now : Time) :
    f.answers (g.overload c now) := by
  refine ⟨.past hf rfl, ?_⟩
  unfold Frc.overload Frc.cutHold Frc.holdReport
  split <;> exact ⟨hf, rfl, by simp [Frc.enterFastUnload], rfl⟩

theorem Frc.wirePair_answers {f : Frc} (hf : f.state = .wireTest) (c : ConfigImage) (p q : Int) (now : Time) :
    f.answers (f.wirePair c p q now) := by
  simp only [Frc.wirePair]
  repeat' split
  · exact Frc.answers_silent (.same _)
  · exact Frc.answers_silent (.same _)
  · exact ⟨.out (by simp [hf]) rfl, rfl⟩
  · exact Frc.answers_silent (.same _)
  · exact Frc.answers_silent ⟨fun _ => by rw [hf]; rfl, fun _ => by rw [hf]; rfl, fun h => by simp [hf] at h⟩

theorem Frc.approachPair_answers {f : Frc} (hf : f.state = .approach) (c : ConfigImage) (k : ForceCycle) (now : Time) :
    f.answers (f.approachPair c k now) := by
  have cycle : f.state.inCycle = true := by rw [hf]; rfl
  simp only [Frc.approachPair]
  split
  · split
    · obtain ⟨state, reports⟩ := Frc.overload_answers (f := f)
        (g := { f with contact := true, state := .load, pairs := 0, setPoint := k.contactAt }) cycle c now
      exact ⟨state, cycle, rfl, reports⟩
    · exact ⟨.past cycle rfl, cycle, rfl, trivial⟩
  · split
    · exact Frc.overload_answers cycle c now
    · split
      · exact ⟨.past cycle rfl, cycle, rfl, by simp [Frc.enterRetract], rfl⟩
      · exact Frc.answers_silent (.same _)

theorem Frc.loadPair_answers {f : Frc} (hf : f.state = .load) (c : ConfigImage) (k : ForceCycle) (mark : TickSource) (now : Time) :
    f.answers (f.loadPair c k mark now) := by
  have cycle : f.state.inCycle = true := by rw [hf]; rfl
  simp only [Frc.loadPair]
  split
  · exact Frc.overload_answers cycle c now
  · split
    · exact Frc.answers_silent (.past cycle rfl)
    · exact Frc.answers_silent (.same _)

theorem Frc.holdPair_answers {f : Frc} (hf : f.state = .hold) (c : ConfigImage) (k : ForceCycle) (mark : TickSource) (now : Time) :
    f.answers (f.holdPair c k mark now) := by
  have cycle : f.state.inCycle = true := by rw [hf]; rfl
  have unloads : f.state.MayBecome .unload := .past cycle rfl
  have checked : ∀ g : Frc, (g.crossCheck k).1.state = g.state ∧
      ((g.crossCheck k).2 = [] ∨ (g.crossCheck k).2 = [.forceDisagree]) := by
    intro g
    unfold Frc.crossCheck
    split
    · dsimp only
      split <;> simp
    · split <;> simp
  obtain ⟨state, reports⟩ := checked (f.countHold mark).accumulate
  simp only [Frc.holdPair]
  split
  · exact Frc.overload_answers cycle c now
  · split
    · exact ⟨unloads, trivial⟩
    · split
      · refine ⟨unloads, ?_⟩
        rcases reports with hr | hr <;> rw [hr] <;> trivial
      · refine ⟨by rw [state]; exact ForceState.MayBecome.same _, ?_⟩
        rcases reports with hr | hr <;> rw [hr] <;> trivial

theorem Frc.unloadPair_answers {f : Frc} (hf : f.state = .unload) (c : ConfigImage) (k : ForceCycle) (now : Time) :
    f.answers (f.unloadPair c k now) := by
  have cycle : f.state.inCycle = true := by rw [hf]; rfl
  simp only [Frc.unloadPair]
  split
  · exact Frc.overload_answers cycle c now
  · split
    · exact Frc.answers_silent (.past cycle rfl)
    · exact Frc.answers_silent (.same _)

theorem Frc.retractPair_answers {f : Frc} (hf : f.state = .retract) (c : ConfigImage) (p q : Int) :
    f.answers (f.retractPair c p q) := by
  have stays : ∀ g : Frc, g.state = f.state → f.answers (g, []) := by
    intro g hg
    exact Frc.answers_silent (hg ▸ ForceState.MayBecome.same _)
  unfold Frc.retractPair Frc.freePair
  split
  · split
    · exact stays _ rfl
    · exact stays _ rfl
  · split
    · exact stays _ rfl
    · exact stays _ rfl
  · split
    · split
      · exact ⟨.out (by simp [hf]) rfl, rfl, rfl⟩
      · exact stays _ rfl
    · exact stays _ rfl
  · exact stays _ rfl

theorem Frc.fastUnloadPair_answers {f : Frc} (hf : f.state = .fastUnload) (k : ForceCycle) (now : Time) :
    f.answers (f.fastUnloadPair k now, []) := by
  unfold Frc.fastUnloadPair
  split
  · exact Frc.answers_silent (.out (by simp [hf]) rfl)
  · exact Frc.answers_silent (.same _)

theorem Frc.tarePair_answers {f : Frc} (hf : f.state = .tare) (c : ConfigImage) (p q : Int) :
    f.answers (f.tarePair c p q, []) := by
  simp only [Frc.tarePair]
  split
  · exact Frc.answers_silent ⟨fun _ => by rw [hf]; rfl, fun _ => by rw [hf]; rfl, fun h => by simp [hf] at h⟩
  · exact Frc.answers_silent (.same _)

/-- The force loop's move leaves the state (R112). -/
theorem Frc.afterTests_state (f : Frc) (c : ConfigImage) (before : ForceState) : (f.afterTests c before).state = f.state := by
  unfold Frc.afterTests Frc.loopStep
  repeat' split
  all_goals rfl

/-- A sample pair answers by the force state. -/
theorem Frc.takePair_answers (f : Frc) (c : ConfigImage) (p q : Int) (mark : TickSource) (now : Time) :
    f.answers (f.takePair c p q mark now) := by
  have hs : (f.record c p q).state = f.state := rfl
  have stays : f.answers (f.record c p q, []) := Frc.answers_silent (.same _)
  have moved : ∀ r : Frc × List ForceReport, f.answers r → f.answers (r.1.afterTests c f.state, r.2) := by
    intro r hr
    unfold Frc.answers
    rw [Frc.afterTests_state]
    exact hr
  unfold Frc.takePair Frc.testPair Frc.cyclePair
  rw [hs]
  split
  · exact Frc.answers_silent (.same _)
  · split
    · exact stays
    · exact Frc.tarePair_answers (f := f.record c p q) (by assumption) c p q
    · exact Frc.wirePair_answers (f := f.record c p q) (by assumption) c p q now
    · exact Frc.retractPair_answers (f := f.record c p q) (by assumption) c p q
    · exact stays
    · split
      · rename_i k _
        refine moved _ ?_
        split
        · exact Frc.approachPair_answers (f := f.record c p q) (by assumption) c k now
        · exact Frc.loadPair_answers (f := f.record c p q) (by assumption) c k mark now
        · exact Frc.holdPair_answers (f := f.record c p q) (by assumption) c k mark now
        · exact Frc.unloadPair_answers (f := f.record c p q) (by assumption) c k now
        · exact Frc.fastUnloadPair_answers (f := f.record c p q) (by assumption) k now
        · exact stays
      · exact stays

theorem Frc.unloadTimeout_answers (f : Frc) (now : Time) : f.answers (f.unloadTimeout now) := by
  unfold Frc.unloadTimeout
  split
  · rename_i h
    exact ⟨.out (by simp [h.1]) rfl, rfl⟩
  · exact Frc.answers_silent (.same _)

theorem Frc.fastUnloadTimeout_answers (f : Frc) (now : Time) : f.answers (f.fastUnloadTimeout now) := by
  unfold Frc.fastUnloadTimeout
  split
  · rename_i h
    exact ⟨.out (by simp [h.1]) rfl, rfl⟩
  · exact Frc.answers_silent (.same _)

theorem Frc.retractTimeout_answers (f : Frc) (now : Time) : f.answers (f.retractTimeout now) := by
  unfold Frc.retractTimeout
  split
  · exact ⟨ForceState.MayBecome.same _, rfl⟩
  · exact Frc.answers_silent (.same _)

theorem State.Obeys.namedPair {s : State} (h : s.Obeys) (named : Bool) (p q : RawSample) : (s.namedPair named p q).Obeys := by
  unfold State.namedPair
  split
  · exact h.withForce (Frc.takePair_answers _ _ _ _ _ _)
  · exact h

end Sys2Proof.Machine
end

section
/-!
PROOFS. The laws of claims at the reports of the Motion and Image Units, at grants, aborts, HALT and RESTART (O5).
-/

-- One theorem after another: each one elaborated beside the others takes a thread with a stack of its own.
set_option Elab.async false

namespace Sys2Proof.Machine

/-! ### Answers of the Motion Unit (R96 to R106) -/

/-- The station has the claim and the item that a sequence needs (R96). -/
def State.sequenceAllowed (s : State) : Prop :=
  s.fcu.claim = .held .motion ∧ s.currentIn [.toSite, .toView] .working = true ∧ s.mot.stopping = false

/-- An answer of the Motion Unit that the laws allow: one report at most, with the sequence over, and a sequence in hand or just done
only where it is allowed. -/
structure State.Moves (s : State) (r : Mot × List MotionReport) : Prop where
  one : oneReport r.2
  stopping : r.1.stopping = s.mot.stopping
  settle : r.1.settleEnd.isSome → r.1.sequence.isSome
  ended : r.2 ≠ [] → r.1.sequence = none
  allowed : r.1.sequence.isSome ∨ r.2 = [.sequenceDone] → s.sequenceAllowed

/-- A sequence done: its claim is released and the next phase begins (R38, R41). -/
theorem State.Obeys.onSequenceDone {s : State} (h : s.Obeys) (ha : s.sequenceAllowed) (hq : s.mot.sequence = none) :
    s.onSequenceDone.Obeys := by
  obtain ⟨_, hin, _⟩ := ha
  obtain ⟨c, hc, hp, hs⟩ := State.currentIn_iff.mp hin
  have moving : c.phase ≠ .indent ∧ c.phase ≠ .image := by
    constructor <;> intro hne <;> simp [hne] at hp
  obtain ⟨hf, _, hi⟩ := h.phase_work hc
  have hw : s.workless := ⟨hf moving.1, hq, hi moving.2⟩
  have hn : s.fcu.need = none := by
    refine h.needless ?_
    intro d hd
    obtain rfl := Option.some.inj (hc.symm.trans hd)
    simp [hs]
  have next : ∀ {w p}, (p = .toSite ∨ p = .indent → w.isIndent = true ∧ s.cyc.contactMark = none) →
      (s.release.enterPhase w p).Obeys := by
    intro w p fits
    have hcyc := (OnlyCoordination.release s).cyc
    refine (h.release hw).enterPhase ⟨?_, (OnlyCoordination.release s).workless hw, s.release_fcu.2.1 hn, ?_⟩
    · rw [hcyc]
      exact h.mode_of_current hc
    · rw [hcyc]
      exact fits
  have phases := h.phases
  have contact := h.contact
  unfold State.onSequenceDone
  split
  · rename_i hcur
    simp only [State.phaseFits, State.contactFits, hcur] at phases contact
    exact next fun _ => ⟨by simpa using phases, by simpa using contact⟩
  · exact next (by simp)
  · exact h

/-- The laws of the motion record where a sequence in hand is allowed. -/
theorem State.Obeys.withMot {s : State} (h : s.Obeys) {m : Mot} (stopping : m.stopping = s.mot.stopping)
    (settle : m.settleEnd.isSome → m.sequence.isSome) (allowed : m.sequence.isSome → s.sequenceAllowed) :
    ({ s with mot := m } : State).Obeys := by
  refine { h with need := ?_, motionUnderMotion := fun hs => ?_, settleInSequence := settle }
  · have := h.need
    simp only [State.needFits, State.atRest] at this ⊢
    rwa [stopping]
  · obtain ⟨hc, hin, hstop⟩ := allowed hs
    exact ⟨hc, hin, stopping.trans hstop⟩

theorem State.Obeys.withMotion {s : State} (h : s.Obeys) {r : Mot × List MotionReport} (hr : s.Moves r) :
    (s.withMotion r).Obeys := by
  have moved : ({ s with mot := r.1 } : State).Obeys := h.withMot hr.stopping hr.settle fun hs => hr.allowed (.inl hs)
  unfold State.withMotion
  rcases hr.one with hn | ⟨cause, hf⟩ | hd
  · rw [hn]
    exact moved
  · have hq : r.1.sequence = none := hr.ended (by simp [hf])
    have hs : r.1.settleEnd = none := by
      by_contra hs
      have := hr.settle (Option.isSome_iff_ne_none.mpr hs)
      simp [hq] at this
    rw [hf]
    exact h.motionFault hq hs cause
  · obtain ⟨hc, hin, hstop⟩ := hr.allowed (.inr hd)
    rw [hd]
    exact moved.onSequenceDone ⟨hc, hin, hr.stopping.trans hstop⟩ (hr.ended (by simp [hd]))

/-- What the pieces in hand leave of the record, and what a report of theirs ends. -/
theorem Mot.runPieces_record (m : Mot) (c : ConfigImage) (i : Bool) (now : Time) (pieces : List Piece)
    (hs : m.settleEnd = none) :
    (m.runPieces c i now pieces).1.stopping = m.stopping ∧
      ((m.runPieces c i now pieces).1.settleEnd.isSome → (m.runPieces c i now pieces).1.sequence.isSome) ∧
        ((m.runPieces c i now pieces).2 ≠ [] → (m.runPieces c i now pieces).1.sequence = none) := by
  have driven : ∀ (n : Mot) (p : Piece), (n.drive c now p).stopping = n.stopping ∧
      (n.drive c now p).sequence = n.sequence := by
    intro n p
    unfold Mot.drive
    repeat' split
    all_goals exact ⟨rfl, rfl⟩
  fun_induction Mot.runPieces m c i now pieces with
  | case1 => exact ⟨rfl, fun h => by simp [hs] at h, fun _ => rfl⟩
  | case2 =>
    unfold Mot.startSettle
    split
    · exact ⟨rfl, fun h => by simp [hs] at h, fun _ => rfl⟩
    · exact ⟨rfl, fun _ => rfl, fun h => absurd rfl h⟩
  | case3 p rest _ _ ih => exact ih
  | case4 p rest _ _ =>
    unfold Mot.startPiece
    split
    · obtain ⟨stop, sequence⟩ := driven { m with sequence := some (m.inHand p rest) } p
      exact ⟨stop, fun _ => by rw [sequence]; rfl, fun h => absurd rfl h⟩
    · exact ⟨rfl, fun h => by simp [hs] at h, fun _ => rfl⟩

/-- The pieces of a granted motion phase are handed out where a sequence is allowed and none was in hand. -/
theorem State.Obeys.handSequence {s : State} (h : s.Obeys) (ha : s.sequenceAllowed) (hq : s.mot.sequence = none)
    (pieces : List Piece) : (s.handSequence pieces).Obeys := by
  obtain ⟨stopping, settle, ended⟩ := s.mot.runPieces_record s.cfg s.interlockOpen s.now pieces (h.settleless hq)
  exact h.withMotion ⟨Mot.runPieces_reports _ _ _ _ _, stopping, settle, ended, fun _ => ha⟩

/-- A completion of the Motion Unit: an axis comes to a stand and the next piece of the sequence, where there is one, starts. -/
structure Mot.Completes (m : Mot) (r : Mot × List MotionReport) : Prop where
  one : oneReport r.2
  stopping : r.1.stopping = m.stopping
  settle : (m.settleEnd.isSome → m.sequence.isSome) → r.1.settleEnd.isSome → r.1.sequence.isSome
  ended : r.2 ≠ [] → r.1.sequence = none
  sequence : r.1.sequence.isSome ∨ r.2 = [.sequenceDone] → m.sequence.isSome

theorem State.Obeys.completes {s : State} (h : s.Obeys) {r : Mot × List MotionReport} (hr : s.mot.Completes r) :
    (s.withMotion r).Obeys :=
  h.withMotion ⟨hr.one, hr.stopping, hr.settle h.settleInSequence, hr.ended, fun hs => h.motionUnderMotion (hr.sequence hs)⟩

theorem Mot.completes_nothing (m : Mot) : m.Completes (m, []) :=
  ⟨.inl rfl, rfl, id, fun h => absurd rfl h, fun h => h.elim id fun h => by cases h⟩

theorem Mot.completes_nextPiece (m : Mot) {n : Mot} (c : ConfigImage) (i : Bool) (now : Time)
    (hq : n.sequence = m.sequence := by rfl) (hs : n.settleEnd = m.settleEnd := by rfl)
    (hp : n.stopping = m.stopping := by rfl) : m.Completes (n.nextPiece c i now) := by
  unfold Mot.nextPiece
  split
  · rename_i p rest hseq
    obtain ⟨stopping, settle, ended⟩ :=
      ({ n with moveDeadline := none, settleEnd := none } : Mot).runPieces_record c i now rest rfl
    exact ⟨Mot.runPieces_reports _ _ _ _ _, stopping.trans hp, fun _ => settle, ended, fun _ => by rw [← hq, hseq]; rfl⟩
  · refine ⟨.inl rfl, hp, fun h => ?_, fun h => absurd rfl h, fun h => h.elim (fun h => hq ▸ h) fun h => by cases h⟩
    show n.settleEnd.isSome → n.sequence.isSome
    rw [hs, hq]
    exact h

theorem Mot.turretHome_completes (m : Mot) (c : ConfigImage) (i : Bool) (now : Time) : m.Completes (m.turretHome c i now) := by
  unfold Mot.turretHome
  split
  · exact m.completes_nextPiece c i now
  · exact m.completes_nothing

theorem Mot.indexDone_completes (m : Mot) (c : ConfigImage) (i : Bool) (now : Time) (edges : Nat) :
    m.Completes (m.indexDone c i now edges) := by
  unfold Mot.indexDone
  split
  · split
    · exact m.completes_nextPiece c i now
    · exact m.completes_nothing
  · exact m.completes_nothing

theorem Mot.axisHome_completes (m : Mot) (c : ConfigImage) (i : Bool) (now : Time) (a : Axis) :
    m.Completes (m.axisHome c i now a) := by
  have recorded : ∀ n : Mot, n.sequence = m.sequence → n.settleEnd = m.settleEnd → n.stopping = m.stopping →
      m.Completes (n, []) := by
    intro n hq hs hp
    refine ⟨.inl rfl, hp, fun h => ?_, fun h => absurd rfl h, fun h => h.elim (fun h => hq ▸ h) fun h => by cases h⟩
    show n.settleEnd.isSome → n.sequence.isSome
    rw [hs, hq]
    exact h
  unfold Mot.axisHome Mot.carriageHome
  split
  · split
    · exact m.completes_nothing
    · split
      · exact m.completes_nextPiece c i now
      · exact recorded _ rfl rfl rfl
  · split
    · exact m.completes_nothing
    · split
      · exact m.completes_nextPiece c i now
      · exact recorded _ rfl rfl rfl
  · exact m.completes_nothing

theorem Mot.carriageDone_completes (m : Mot) (c : ConfigImage) (i : Bool) (now : Time) :
    m.Completes (m.carriageDone c i now) := by
  unfold Mot.carriageDone
  split
  · split
    · exact m.completes_nothing
    · exact m.completes_nextPiece c i now
  · exact m.completes_nothing

theorem Mot.zHome_completes (m : Mot) (c : ConfigImage) (i : Bool) (now : Time) : m.Completes (m.zHome c i now) := by
  unfold Mot.zHome
  split
  · exact m.completes_nextPiece c i now
  · exact m.completes_nothing

theorem Mot.rapidDone_completes (m : Mot) (c : ConfigImage) (i : Bool) (now : Time) : m.Completes (m.rapidDone c i now) := by
  unfold Mot.rapidDone
  split
  · split
    · exact m.completes_nothing
    · exact m.completes_nextPiece c i now
  · exact m.completes_nothing

theorem State.Obeys.settleDone {s : State} (h : s.Obeys) : (s.withMotion (s.mot.settleDone s.now)).Obeys := by
  obtain ⟨one, sequence⟩ := s.mot.settleDone_answers h.settleInSequence s.now
  refine h.completes ⟨one, ?_, ?_, ?_, ?_⟩
  all_goals unfold Mot.settleDone at sequence ⊢
  all_goals split
  · rfl
  · rfl
  · exact fun _ hd => by cases hd
  · exact id
  · exact fun _ => rfl
  · exact fun hd => absurd rfl hd
  · exact fun hd => hd.elim (fun hd => by cases hd) fun _ => sequence (by simp [*])
  · exact fun hd => hd.elim id fun hd => by cases hd

theorem State.Obeys.moveDeadline {s : State} (h : s.Obeys) : (s.withMotion (s.mot.deadlineReached s.now)).Obeys := by
  unfold Mot.deadlineReached
  split
  · obtain ⟨hq, hs⟩ := Mot.stop_sequence (m := s.mot.timedOut) (fun hs => (h.motionUnderMotion hs).2.2) h.settleInSequence
    exact h.motionFault hq hs _
  · exact h

/-! ### An item that ends -/

/-- An item may be set to ENDING where no work is in hand and no need is set. -/
theorem State.Obeys.setEnding {s : State} (h : s.Obeys) (hw : s.workless) (hn : s.fcu.need = none) :
    ({ s with cyc := s.cyc.setStep .ending } : State).Obeys := by
  refine h.recast hw hn rfl (fun hc => ?_) ?_ ?_
  · refine h.worksInMode ?_
    simpa [Cyc.setStep] using hc
  · have := h.phases
    cases hc : s.cyc.current <;> simp_all [State.phaseFits, Cyc.setStep]
  · have := h.contact
    cases hc : s.cyc.current <;> simp_all [State.contactFits, Cyc.setStep]
    exact this.imp id fun hp => hp.1

theorem State.Obeys.axesStopped {s : State} (h : s.Obeys) (x y : Int) (z : Nat) : (s.axesStopped x y z).Obeys := by
  have onStopped : ∀ u : State, u.Obeys → u.onStopped.Obeys := by
    intro u hu
    unfold State.onStopped
    split
    · exact hu
    · rename_i hc
      exact hu.releaseEnd (hu.workless_resting (by simp [hc])) (hu.needless (by simp [hc]))
    · exact hu.trySetNeed
  unfold State.axesStopped
  split
  · rename_i hs
    refine onStopped _ ?_
    have seq : s.mot.sequence = none := by
      by_contra hq
      rw [(h.motionUnderMotion (Option.isSome_iff_ne_none.mpr hq)).2.2] at hs
      cases hs
    have need : s.fcu.need = none := by
      by_contra hn
      obtain ⟨n, hn⟩ := Option.ne_none_iff_exists'.mp hn
      obtain ⟨_, _, _, _, hr⟩ := h.of_need hn
      simp [State.atRest, hs] at hr
    have working : s.img.stopped.state.working = true → s.img.state.working = true := by
      unfold Img.stopped
      split
      · intro hw
        cases hw
      · exact id
    exact { h with
      need := State.needFits_of_none need
      motionUnderMotion := fun hq => by simp [Mot.rest, seq] at hq
      settleInSequence := h.settleInSequence
      imageUnderQuiet := fun hi => h.imageUnderQuiet (working hi) }
  · exact h

end Sys2Proof.Machine
end

section
/-!
PROOFS. The laws of claims at the Image Unit's work, at grants, aborts, HALT and RESTART (O5).
-/

-- One theorem after another: each one elaborated beside the others takes a thread with a stack of its own.
set_option Elab.async false

namespace Sys2Proof.Machine

/-! ### The Image Unit's work (R141 to R147) -/

/-- The station has the claim and the item that the Image Unit's work needs (R144). -/
def State.imageAllowed (s : State) : Prop := s.fcu.claim = .held .quiet ∧ s.currentIn [.image] .working = true

/-- `t` is `s` but for the image record, the slots, the counters and what a fine step changes of the motion record. -/
def OnlyImage (s t : State) : Prop :=
  ∃ mot img mea evc, t = { s with mot := mot, img := img, mea := mea, evc := evc } ∧
    mot.sequence = s.mot.sequence ∧ mot.settleEnd = s.mot.settleEnd ∧ mot.stopping = s.mot.stopping

theorem OnlyImage.of_img (s : State) (img : Img) : OnlyImage s { s with img := img } := ⟨_, _, _, _, rfl, rfl, rfl, rfl⟩

theorem OnlyImage.trans {s t u : State} (h : OnlyImage s t) (g : OnlyImage t u) : OnlyImage s u := by
  obtain ⟨_, _, _, _, rfl, a, b, c⟩ := h
  obtain ⟨_, _, _, _, rfl, a', b', c'⟩ := g
  exact ⟨_, _, _, _, rfl, a'.trans a, b'.trans b, c'.trans c⟩

theorem OnlyImage.stepReported (s : State) (z : Nat) : OnlyImage s (s.stepReported z) := by
  obtain ⟨_, h⟩ := s.stepReported_frame z
  rw [h]
  exact .of_img _ _

theorem Mot.fineStep_rest (m : Mot) (c : ConfigImage) (now : Time) (target : Int) :
    (m.fineStep c now target).1.sequence = m.sequence ∧ (m.fineStep c now target).1.settleEnd = m.settleEnd ∧
      (m.fineStep c now target).1.stopping = m.stopping := by
  unfold Mot.fineStep
  repeat' split
  all_goals exact ⟨rfl, rfl, rfl⟩

theorem Mot.fineDone_rest (m : Mot) :
    m.fineDone.1.sequence = m.sequence ∧ m.fineDone.1.settleEnd = m.settleEnd ∧ m.fineDone.1.stopping = m.stopping := by
  unfold Mot.fineDone
  repeat' split
  all_goals exact ⟨rfl, rfl, rfl⟩

theorem OnlyImage.askStep (s : State) (target : Int) : OnlyImage s (s.askStep target) := by
  have rest := s.mot.fineStep_rest s.cfg s.now target
  unfold State.askStep
  split
  · rename_i m z hm
    rw [hm] at rest
    exact OnlyImage.trans (t := { s with mot := m, img.state := .step }) ⟨_, _, _, _, rfl, rest⟩ (.stepReported _ _)
  · rename_i m hm
    rw [hm] at rest
    exact ⟨_, _, _, _, rfl, rest⟩

theorem OnlyImage.takePosition (s : State) (i : Nat) : OnlyImage s (s.takePosition i) :=
  (OnlyImage.of_img s _).trans (.askStep _ _)

theorem OnlyImage.beginImage (s : State) (site slot : Nat) : OnlyImage s (s.beginImage site slot) := by
  unfold State.beginImage
  split
  · rename_i name o _ _
    exact OnlyImage.trans (t := { s with mea := s.mea.set name (.filling site), img := _ }) ⟨_, _, _, _, rfl, rfl, rfl, rfl⟩
      (.takePosition _ _)
  · exact .of_img s s.img

theorem OnlyImage.attemptFailed (s : State) : OnlyImage s s.attemptFailed.1 := by
  unfold State.attemptFailed
  split
  · exact ⟨_, _, _, _, rfl, rfl, rfl, rfl⟩
  · exact .of_img s s.img

theorem OnlyImage.windowReceived (s : State) (lines : List (List Pixel)) : OnlyImage s (s.windowReceived lines).1 := by
  have same : ∀ u : State, OnlyImage u u := fun u => .of_img u u.img
  have searched : ∀ (u : State) (o : ObjectiveRecord), OnlyImage u (u.searchEnd o).1 := by
    intro u o
    unfold State.searchEnd
    split
    · split
      · exact same u
      · exact (OnlyImage.of_img u _).trans (.askStep _ _)
    · exact same u
  have scored : ∀ (u : State) (o : ObjectiveRecord) (n : Nat), OnlyImage u (u.positionScored o n).1 := by
    intro u o n
    unfold State.positionScored
    dsimp only
    split
    · exact (OnlyImage.of_img u _).trans (.takePosition _ _)
    · exact (OnlyImage.of_img u _).trans (searched _ o)
  have done : ∀ (u : State) (o : ObjectiveRecord) (ph pv : List Nat), OnlyImage u (u.attemptDone o ph pv).1 := by
    intro u o ph pv
    unfold State.attemptDone
    dsimp only
    split
    · exact (OnlyImage.of_img u _).trans (scored _ _ _)
    · exact .of_img u _
    · exact .of_img u _
  unfold State.windowReceived
  split
  · split
    · exact done _ _ _ _
    · exact same s
  · exact same s

/-- Where the Image Unit may work, its work keeps the laws, and it may go on. -/
theorem State.Obeys.imaged {s t : State} (h : s.Obeys) (ha : s.imageAllowed) (ho : OnlyImage s t) : t.Obeys ∧ t.imageAllowed := by
  obtain ⟨_, _, _, _, rfl, seq, settle, stop⟩ := ho
  obtain ⟨c, hc, _, hs⟩ := State.currentIn_iff.mp ha.2
  have need : s.fcu.need = none := by
    refine h.needless ?_
    intro d hd
    obtain rfl := Option.some.inj (hc.symm.trans hd)
    simp [hs]
  refine ⟨{ h with
    need := State.needFits_of_none need
    motionUnderMotion := fun hq => ?_
    settleInSequence := fun hd => ?_
    imageUnderQuiet := fun _ => ha }, ha⟩
  · rw [seq] at hq
    rw [stop]
    exact h.motionUnderMotion hq
  · rw [settle] at hd
    rw [seq]
    exact h.settleInSequence hd

/-- The end of the IMAGE work: the claim is released and the item is no longer current (R42). -/
theorem State.Obeys.imageEnded {s : State} (h : s.Obeys) (ha : s.imageAllowed) (e : ImageEnding) (haltDue : Bool) :
    (s.imageEnded e haltDue).Obeys := by
  obtain ⟨c, hc, hp, hs⟩ := State.currentIn_iff.mp ha.2
  replace hp : c.phase = .image := by simpa using hp
  obtain ⟨hf, hq, _⟩ := h.phase_work hc
  have need : s.fcu.need = none := by
    refine h.needless ?_
    intro d hd
    obtain rfl := Option.some.inj (hc.symm.trans hd)
    simp [hs]
  have computed : ∀ u : State, u.Obeys → (u.computeDelivered haltDue).Obeys := by
    intro u hu
    unfold State.computeDelivered
    split
    · exact hu
    · exact hu.startComputations
  unfold State.imageEnded
  split
  · rename_i name d _ _
    split
    · rename_i f _
      have work : (s.deliver name (s.delivery f e)).workless := ⟨hf (by simp [hp]), hq (by simp [hp]) (by simp [hp]), rfl⟩
      have delivered : (s.deliver name (s.delivery f e)).Obeys :=
        { h with need := State.needFits_of_none need, imageUnderQuiet := fun hi => by cases hi }
      exact (computed _ ((delivered.release work).dropCurrent ((OnlyCoordination.release _).workless work)
        ((State.release_fcu _).2.1 need))).continueWork
    · exact h
  · exact h

/-- An answer of the Image Unit keeps the laws where its work is allowed. -/
theorem State.Obeys.withImage {s : State} (h : s.Obeys) (ha : s.imageAllowed) {r : State × Option ImageEnding}
    (ho : OnlyImage s r.1) (haltDue : Bool) : (State.withImage r haltDue).Obeys := by
  obtain ⟨obeys, allowed⟩ := h.imaged ha ho
  unfold State.withImage
  split
  · exact obeys.imageEnded allowed _ _
  · exact obeys

theorem State.Lawful.capturing {s : State} (h : s.Lawful) (hi : s.img.state = .capture) : s.imageAllowed :=
  h.imageUnderQuiet (by rw [hi]; rfl)

theorem Img.receiving_capture {i : Img} (h : i.receiving = true) : i.state = .capture := by
  simp only [Img.receiving, Bool.and_eq_true, beq_iff_eq] at h
  exact h.1

theorem State.Obeys.windowReceived {s : State} (h : s.Obeys) (lines : List (List Pixel)) (haltDue : Bool) :
    (State.withImage (s.windowReceived lines) haltDue).Obeys := by
  by_cases hr : s.img.receiving = true
  · exact h.withImage (h.capturing (Img.receiving_capture hr)) (.windowReceived s lines) haltDue
  · have nothing : s.windowReceived lines = (s, none) := by
      unfold State.windowReceived
      split
      · simp [hr]
      · rfl
    rw [nothing]
    exact h

theorem State.Obeys.frameFails {s : State} (h : s.Obeys) (haltDue : Bool) : (s.frameFails haltDue).Obeys := by
  unfold State.frameFails
  split
  · rename_i hr
    exact h.withImage (h.capturing (Img.receiving_capture hr)) (.attemptFailed s) haltDue
  · exact h

theorem State.Obeys.noFrame {s : State} (h : s.Obeys) (haltDue : Bool) : (s.noFrame haltDue).Obeys := by
  unfold State.noFrame
  split
  · rename_i hr
    exact h.withImage (h.capturing hr.1) (.attemptFailed s) haltDue
  · exact h

theorem State.Obeys.focusSettleEnd {s : State} (h : s.Obeys) : s.focusSettleEnd.Obeys := by
  unfold State.focusSettleEnd
  split
  · rename_i hr
    exact (h.imaged (h.imageUnderQuiet (by rw [hr.1]; rfl)) (.of_img s _)).1
  · exact h

theorem State.Obeys.frameStart {s : State} (h : s.Obeys) : ({ s with img := s.img.frameStart } : State).Obeys := by
  unfold Img.frameStart
  split
  · rename_i hi
    exact (h.imaged (h.capturing hi) (.of_img s _)).1
  · exact h

theorem State.Obeys.fineStepDone {s : State} (h : s.Obeys) : s.fineStepDone.Obeys := by
  obtain ⟨seq, settle, stop⟩ := s.mot.fineDone_rest
  have moved : ({ s with mot := s.mot.fineDone.1 } : State).Obeys := by
    refine h.withMot stop ?_ ?_
    · rw [settle, seq]
      exact h.settleInSequence
    · rw [seq]
      exact h.motionUnderMotion
  unfold State.fineStepDone
  split
  · rename_i m z hm
    rw [hm] at moved
    split
    · rename_i hi
      exact (moved.imaged (h.imageUnderQuiet (by rw [hi]; rfl)) (.stepReported _ _)).1
    · exact moved
  · rename_i m hm
    rw [hm] at moved
    exact moved

/-! ### Grants (R32, R58) -/

/-- What a granted phase stands in: its item waited at rest for the claim that is now held. -/
structure State.Granted (s : State) (k : ClaimKind) (c : Current) : Prop where
  held : s.fcu.claim = .held k
  need : s.fcu.need = none
  current : s.cyc.current = some c
  waiting : c.step = .waiting
  phase : c.phase.claim = some k
  rest : s.atRest = true

theorem State.Obeys.onGrant {s : State} (h : s.Obeys) {k : ClaimKind} {c : Current} (hg : s.Granted k c) : s.onGrant.Obeys := by
  obtain ⟨work, phase, step⟩ := c
  obtain ⟨held, need, current, rfl, claims, rest⟩ := hg
  simp only [State.atRest, Bool.and_eq_true, beq_iff_eq, Bool.not_eq_true'] at rest
  have resting : s.workless := h.workless_resting (by simp [current])
  have phases := h.phases
  have contact := h.contact
  simp only [State.phaseFits, State.contactFits, current] at phases contact
  have step : s.cyc.setStep .working = { s.cyc with current := some { work := work, phase := phase, step := .working } } := by
    simp [Cyc.setStep, current]
  have working : ({ s with cyc := s.cyc.setStep .working } : State).Obeys := by
    rw [step]
    refine h.recast resting need rfl (fun _ => h.mode_of_current current) ?_ ?_
    · simpa [State.phaseFits] using phases
    · simp only [State.contactFits]
      revert contact
      cases phase <;> simp
  have inPhase : ∀ phases, phase ∈ phases →
      ({ s with cyc := s.cyc.setStep .working } : State).currentIn phases .working = true := by
    intro phases hp
    rw [step]
    exact State.currentIn_iff.mpr ⟨_, rfl, hp, rfl⟩
  simp only [State.onGrant, current, if_true, State.handOut]
  split
  · obtain rfl := Option.some.inj claims
    exact working.handSequence ⟨held, inPhase _ (by simp), rest.1.2⟩ resting.2.1 _
  · obtain rfl := Option.some.inj claims
    exact working.handSequence ⟨held, inPhase _ (by simp), rest.1.2⟩ resting.2.1 _
  · obtain rfl := Option.some.inj claims
    exact { working with
      contactToCome := fun _ => show s.cyc.contactMark = none by simpa using contact
      need := State.needFits_of_none need
      forceUnderQuiet := fun _ => ⟨held, inPhase _ (by simp)⟩ }
  · obtain rfl := Option.some.inj claims
    exact (working.imaged ⟨held, inPhase _ (by simp)⟩ (.beginImage _ _ _)).1
  · exact working

/-- A CLAIM that completes and is granted: the item that waited for it stands in what its grant needs. -/
theorem State.Obeys.claimCompleted_granted {s : State} (h : s.Obeys) {k : ClaimKind} (hg : (s.claimCompleted k).2 = true) :
    ∃ c, (s.claimCompleted k).1.Granted k c := by
  have frame := OnlyCoordination.claimCompleted s k
  unfold State.claimCompleted at hg frame ⊢
  split at hg
  · split at hg
    · split at hg
      · rename_i hj hgrant
        obtain ⟨n, hn, hk⟩ : ∃ n, s.fcu.need = some n ∧ n.kind = k := by
          simp only [State.grantHolds, Bool.and_eq_true] at hgrant
          cases hn : s.fcu.need with
          | none => simp [hn] at hgrant
          | some n => exact ⟨n, rfl, by simpa [hn] using hgrant.1.1.1⟩
        obtain ⟨c, hc, hw, hp, hr⟩ := h.of_need hn
        simp only [*, if_true] at frame ⊢
        obtain ⟨_, _, _, _, he, _⟩ := frame
        refine ⟨c, rfl, rfl, ?_, hw, hk ▸ hp, ?_⟩
        · rw [he]
          exact hc
        · rw [he]
          exact hr
      · cases hg
    · cases hg
  · split at hg
    · cases hg
    · cases hg
  · cases hg

/-- A notice whose completion is granted is a CLAIM that completed (R58). -/
theorem State.noticeCompleted_granted {s : State} {n : Notice} {stale : Bool} {k : ClaimKind}
    (h : (s.noticeCompleted n stale).2 = some k) :
    (s.claimCompleted k).2 = true ∧ (s.noticeCompleted n stale).1 = (s.claimCompleted k).1 := by
  unfold State.noticeCompleted at h ⊢
  split at h
  · rename_i hl
    rw [if_pos hl]
    split at h
    · rename_i j
      by_cases hg : (s.claimCompleted j).2 = true
      · obtain rfl : j = k := by simpa [hg] using h
        exact ⟨hg, rfl⟩
      · simp [hg] at h
    · cases h
    · cases h
  · cases h

theorem State.Obeys.noticeCompleted {s : State} (h : s.Obeys) (n : Notice) (stale : Bool) :
    (State.reportGrant (s.noticeCompleted n stale)).Obeys := by
  have completed : (s.noticeCompleted n stale).1.Obeys :=
    h.coordinated (.noticeCompleted s n stale) (s.noticeCompleted_follows n stale)
  unfold State.reportGrant
  split
  · rename_i k hk
    obtain ⟨hg, he⟩ := State.noticeCompleted_granted hk
    rw [he] at completed ⊢
    obtain ⟨c, hc⟩ := h.claimCompleted_granted hg
    exact completed.onGrant hc
  · exact completed

/-! ### ABORT_SITE (R44) -/

theorem State.Obeys.writeAbandoned {s : State} (h : s.Obeys) : s.writeAbandoned.Obeys := h.reported (.writeAbandoned s)

/-- The laws once every block that worked for the item is at rest. -/
theorem State.Obeys.workStopped {s : State} (h : s.Obeys) (hn : s.fcu.need = none) {m : Mot} {f : Frc} {i : Img} {mea : Mea}
    (hq : m.sequence = none) (hs : m.settleEnd = none) (hf : f.state.inCycle = false) (hi : i.state.working = false) :
    ({ s with mot := m, frc := f, img := i, mea := mea } : State).Obeys :=
  ⟨.of_workless ⟨hf, hq, hi⟩ hs hn h.worksInMode h.phases h.contact h.silentHoldsNothing h.startIsInactive h.heldIsIdle
    h.syncIsBusy, h.released⟩

theorem State.Obeys.abortMotion {s : State} (h : s.Obeys) (hn : s.fcu.need = none) (hf : s.frc.state.inCycle = false)
    (hi : s.img.state.working = false) : s.abortMotion.Obeys := by
  obtain ⟨seq, settle⟩ := h.stopped
  have done : ({ s with mot := s.mot.stop.1 } : State).Obeys := h.workStopped hn seq settle hf hi
  unfold State.abortMotion
  split
  · rename_i m hm
    obtain rfl : s.mot.stop.1 = m := congrArg Prod.fst hm
    exact done.releaseEnd ⟨hf, seq, hi⟩ hn
  · rename_i m hm
    obtain rfl : s.mot.stop.1 = m := congrArg Prod.fst hm
    exact done.setEnding ⟨hf, seq, hi⟩ hn

theorem State.Obeys.abortImage {s : State} (h : s.Obeys) (hn : s.fcu.need = none) (hf : s.frc.state.inCycle = false) :
    s.abortImage.Obeys := by
  obtain ⟨seq, settle⟩ := h.stopped
  obtain ⟨mea, img, hi, rests⟩ := s.abandonImage_rests
  have done : ({ s with mot := s.mot.stop.1, mea := mea, img := img } : State).Obeys := h.workStopped hn seq settle hf rests
  unfold State.abortImage State.endImageAbort
  rw [hi]
  split
  · exact done.releaseEnd ⟨hf, seq, rests⟩ hn
  · exact done.setEnding ⟨hf, seq, rests⟩ hn

/-- A force cycle stopped on an abort, and its item written, in ENDING (R44, R125). -/
theorem State.Obeys.abortIndent {s : State} (h : s.Obeys) (hn : s.fcu.need = none) (hq : s.mot.sequence = none)
    (hi : s.img.state.working = false) : (s.abortWorking .indent).Obeys := by
  have force := s.frc.stopForAbort_inCycle s.cfg s.now
  have cut : (s.withForceStop (s.frc.stopForAbort s.cfg s.now)).Obeys :=
    { h.workStopped hn (mea := s.mea) hq (h.settleless hq) force hi with }
  obtain ⟨_, _, _, _, hw⟩ := OnlyReports.writeAbandoned (s.withForceStop (s.frc.stopForAbort s.cfg s.now))
  have written := cut.writeAbandoned
  simp only [State.abortWorking]
  rw [hw] at written ⊢
  exact written.setEnding ⟨force, hq, hi⟩ hn

/-- A WORKING item is abandoned: its phase's work stops, and it ends at once or waits in ENDING. -/
theorem State.Obeys.abortWorking {s : State} (h : s.Obeys) {c : Current} (hc : s.cyc.current = some c) (hs : c.step = .working) :
    (s.abortWorking c.phase).Obeys := by
  obtain ⟨hf, hq, hi⟩ := h.phase_work hc
  have need : s.fcu.need = none := by
    refine h.needless ?_
    intro d hd
    obtain rfl := Option.some.inj (hc.symm.trans hd)
    simp [hs]
  have written := h.writeAbandoned
  obtain ⟨_, _, _, _, hw⟩ := OnlyReports.writeAbandoned s
  cases hp : c.phase with
  | select => exact h
  | compute => exact h
  | indent => exact h.abortIndent need (hq (by simp [hp]) (by simp [hp])) (hi (by simp [hp]))
  | toSite =>
    refine written.abortMotion ?_ ?_ ?_ <;> rw [hw]
    · exact need
    · exact hf (by simp [hp])
    · exact hi (by simp [hp])
  | toView =>
    refine written.abortMotion ?_ ?_ ?_ <;> rw [hw]
    · exact need
    · exact hf (by simp [hp])
    · exact hi (by simp [hp])
  | image =>
    refine written.abortImage ?_ ?_ <;> rw [hw]
    · exact need
    · exact hf (by simp [hp])

theorem State.Obeys.abortItem {s : State} (h : s.Obeys) : s.abortItem.Obeys := by
  have cyc := (OnlyCoordination.clearNeed s).cyc
  unfold State.abortItem
  split
  · exact h
  · rename_i c hc
    split
    · exact h
    · rename_i hs
      have work := (OnlyCoordination.clearNeed s).workless (h.workless_resting (by simp [hc, hs]))
      obtain ⟨_, _, _, _, hw⟩ := OnlyReports.writeAbandoned s.clearNeed
      refine h.clearNeed.writeAbandoned.endItem ?_ ?_ <;> rw [hw]
      · exact work
      · exact s.clearNeed_need
    · exact h.clearNeed.abortWorking (by rw [cyc, hc]) (by assumption)

/-! ### HALT and RESTART (R47, R53, R75, R169) -/

theorem Cyc.onHalt_idle (c : Cyc) : c.onHalt.current = none ∧ c.onHalt.contactMark = none := by
  unfold Cyc.onHalt Cyc.haltMode
  split <;> exact ⟨rfl, rfl⟩

/-- A HALT leaves the unit INACTIVE where it was, in a mode that a silent unit may have, and else HALTED and holding nothing. -/
theorem State.Lawful.haltSilences {s : State} (h : s.Lawful) :
    (s.fcu.onHalt.need = none ∧ s.fcu.onHalt.holdsNothing = true) ∧
      (s.cyc.onHalt.mode = .start ∨ s.cyc.onHalt.mode = .halted ∨ s.cyc.onHalt.mode = .faulted) ∧
        (s.cyc.onHalt.mode = .start → s.fcu.onHalt.state = .inactive) := by
  obtain ⟨_, _, _, _, mode, _⟩ := s.cyc.onHalt_facts
  have silent : s.fcu.onHalt.holdsNothing = true := by
    unfold Fcu.onHalt
    split
    · exact h.emptyIfSilent (.inr (by assumption))
    · exact s.fcu.halt_holdsNothing
  refine ⟨⟨(Fcu.holdsNothing_iff.mp silent).1, silent⟩, ?_, fun hm => ?_⟩
  · rw [mode]
    cases s.cyc.mode <;> simp
  · have start : s.cyc.mode = .start := by
      rw [mode] at hm
      revert hm
      cases s.cyc.mode <;> simp
    have inactive := h.startIsInactive start
    rw [Fcu.onHalt, if_pos inactive, inactive]

theorem State.Obeys.halt {s : State} (h : s.Obeys) : s.halt.Obeys := by
  have force : (s.frc.halt s.cfg s.now).1.state.inCycle = false := s.frc.stopForFault_inCycle s.cfg s.now
  obtain ⟨seq, settle⟩ := h.stopped
  obtain ⟨⟨need, silent⟩, modes, start⟩ := h.haltSilences
  obtain ⟨current, mark⟩ := (s.cyc.gatherAll (s.frc.halt s.cfg s.now).2).onHalt_idle
  have mode : (s.cyc.gatherAll (s.frc.halt s.cfg s.now).2).onHalt.mode = s.cyc.onHalt.mode := by
    unfold Cyc.onHalt Cyc.haltMode Cyc.gatherAll Cyc.dropCurrent
    cases hm : s.cyc.mode <;> simp
  obtain ⟨_, _, _, _, hw⟩ := OnlyReports.writeAbandoned (s.withForceStop (s.frc.halt s.cfg s.now))
  obtain ⟨_, img, hi, rests, _⟩ := (s.withForceStop (s.frc.halt s.cfg s.now)).writeAbandoned.haltImage_facts
  have image : img.state.working = false := by
    rcases rests with hr | hr <;> rw [hr] <;> rfl
  unfold State.halt
  dsimp only
  rw [hi, hw]
  rw [← mode] at modes start
  exact ⟨.of_idle current mark ⟨force, seq, image⟩ settle need (fun _ => ⟨silent, modes⟩) start h.syncIsBusy, h.released⟩

theorem State.Obeys.takeRestart {s : State} (h : s.Obeys) : s.takeRestart.Obeys := by
  obtain ⟨seq, settle⟩ := h.stopped
  have view : emptied s.fcu.view = emptied (emptied s.fcu.view) := by simp [emptied, ViewEntry.cleared]
  exact ⟨.of_idle rfl rfl ⟨rfl, seq, rfl⟩ settle rfl
    (fun _ => ⟨Fcu.holdsNothing_iff.mpr ⟨rfl, rfl, rfl, rfl, rfl, rfl, rfl, rfl, rfl, view⟩, .inl rfl⟩) (fun _ => rfl) h.syncIsBusy,
    h.released⟩

end Sys2Proof.Machine
end

section
/-!
PROOFS. Requests, the frame link, the tick's deadlines and the resets keep the laws of claims; every command and every step does
(O5).
-/

-- One theorem after another: each one elaborated beside the others takes a thread with a stack of its own.
set_option Elab.async false

namespace Sys2Proof.Machine

/-! ### Requests -/

theorem State.Obeys.queueMessage {s : State} (h : s.Obeys) (m : QueuedMessage) : (s.queueMessage m).Obeys := by
  unfold State.queueMessage
  split
  · exact State.Obeys.signal (s := { s with fli.txOverflow := true }) { h with } _ _
  · exact { h with }

theorem State.Obeys.answerThen {s : State} (h : s.Obeys) (tag kind : Byte) {code : ReplyCode} {effect : State → State}
    (he : code = .accepted → (effect (s.reply tag kind code)).Obeys) : (s.answerThen tag kind code effect).Obeys := by
  unfold State.answerThen
  split
  · exact he (by assumption)
  · exact h.send _

theorem State.Obeys.pushItem {s : State} (h : s.Obeys) (i : Item) : (s.pushItem i).Obeys := { h with }

theorem State.Obeys.withdrawItem {s : State} (h : s.Obeys) (site : Nat) : (s.withdrawItem site).Obeys := { h with }

theorem State.Obeys.planWithdraw {s : State} (h : s.Obeys) (site : Nat) : (s.planWithdraw site).Obeys := by
  unfold State.planWithdraw
  split
  · exact (h.withdrawItem site).wake _
  · exact (h.withdrawItem site).wake _

theorem State.Obeys.clearMap {s : State} (h : s.Obeys) : s.clearMap.Obeys := { h with }

/-- START leaves READY or PAUSED, where nothing is current and the unit is not silent (R28). -/
theorem State.Obeys.startRunning {s : State} (h : s.Obeys) (hm : s.cyc.mode = .ready ∨ s.cyc.mode = .paused) :
    s.startRunning.Obeys := by
  have running : ({ s with cyc.mode := .running } : State).Obeys :=
    { h with
      worksInMode := fun _ => .inl rfl
      silentHoldsNothing := fun hs => absurd hs (h.not_silent (by rcases hm with hm | hm <;> simp [hm]))
      startIsInactive := fun hs => by cases hs }
  exact running.startComputations.continueWork

theorem State.Obeys.pauseRunning {s : State} (h : s.Obeys) (hm : s.cyc.mode = .running) : s.pauseRunning.Obeys := by
  have pausing : ({ s with cyc.mode := .pausing, cyc.batch := none } : State).Obeys :=
    { h with
      worksInMode := fun _ => .inr rfl
      silentHoldsNothing := fun hs => absurd hs (h.not_silent (by simp [hm]))
      startIsInactive := fun hs => by cases hs }
  exact pausing.continueWork

theorem State.Obeys.acceptRestart {s : State} (h : s.Obeys) (tag kind : Byte) : (s.acceptRestart tag kind).Obeys := by
  have pending : ({ s with restartPending := true } : State).Obeys := { h with }
  unfold State.acceptRestart
  split
  · exact h.send _
  · split
    · exact (h.send _).takeRestart
    · exact pending.queueMessage _

theorem State.Obeys.withTbu {s : State} (h : s.Obeys) (tbu : Tbu) : ({ s with tbu := tbu } : State).Obeys := { h with }

theorem State.Obeys.setMode {s : State} (h : s.Obeys) (m : WorkMode) (limit : Nat) : (s.setMode m limit).Obeys := { h with }

theorem State.startCode_accepted {s : State} : s.startCode = .accepted ↔ s.cyc.mode = .ready ∨ s.cyc.mode = .paused := by
  simp [State.startCode, or_iff_not_imp_left]

theorem State.pauseCode_accepted {s : State} : s.pauseCode = .accepted ↔ s.cyc.mode = .running := by simp [State.pauseCode]

theorem State.resumeCode_accepted {s : State} : s.resumeCode = .accepted ↔ s.cyc.mode = .halted := by simp [State.resumeCode]

theorem State.Obeys.answer {s : State} (h : s.Obeys) (tag kind : Byte) (r : Request) : (s.answer tag kind r).Obeys := by
  have replied : ∀ code, (s.reply tag kind code).Obeys := fun _ => h.send _
  have mode : ∀ code, (s.reply tag kind code).cyc = s.cyc := fun _ => (OnlyReports.send s _).cyc
  cases r <;> simp only [State.answer]
  case planSite | planRemeasure => exact h.answerThen tag kind fun _ => ((replied _).pushItem _).wake _
  case planWithdraw site => exact h.answerThen tag kind fun _ => (replied _).planWithdraw site
  case mapClear => exact h.answerThen tag kind fun _ => (replied _).clearMap.wake _
  case start =>
    refine h.answerThen tag kind fun hc => (replied _).startRunning ?_
    rwa [mode, ← State.startCode_accepted]
  case pause =>
    refine h.answerThen tag kind fun hc => (replied _).pauseRunning ?_
    rwa [mode, ← State.pauseCode_accepted]
  case resume =>
    refine h.answerThen tag kind fun hc => (replied _).enterListenIn (.inr ?_) _
    rwa [mode, ← State.resumeCode_accepted]
  case abortSite => exact h.answerThen tag kind fun _ => (replied _).abortItem
  case restart =>
    unfold State.answerRestart
    split
    · exact h.acceptRestart tag kind
    · exact replied _
  case refReselect => exact h.answerThen tag kind fun _ => (replied _).withTbu _
  case setMode m limit => exact h.answerThen tag kind fun _ => (replied _).setMode m limit
  case queryStatus page => exact State.Obeys.send (s := { s with freeCount := s.freeCount + 1 }) { h with } _
  case queryEntry site =>
    unfold State.answerEntry
    split
    · exact h.send _
    · exact replied _
  case queryCounters => exact h.send _
  case setCounter index k mask =>
    unfold State.answerSetCounter
    split
    · exact State.Obeys.send (s := s.setCounter index k mask) { h with } _
    · exact replied _

theorem State.Obeys.handleRequest {s : State} (h : s.Obeys) (dest : BitVec 4) (kind : Byte) (payload : List Byte) :
    (s.handleRequest dest kind payload).Obeys := by
  unfold State.handleRequest State.direct
  split
  · exact h.send _
  · split
    · exact h.send _
    · exact h.answer _ _ _

theorem State.Obeys.takeRequest {s : State} (h : s.Obeys) (dest : BitVec 4) (kind : Byte) (payload : List Byte) :
    (s.takeRequest dest kind payload).Obeys := by
  unfold State.takeRequest
  split
  · exact h.signal _ _
  · split
    · exact h.handleRequest dest kind payload
    · exact h

/-! ### The two measures of the line (R85) -/

/-- An interface state whose engine stands in SYNC on no idle line (R85). -/
def Fli.syncBusy (f : Fli) : Prop := f.engine = .sync → f.idleCount ≠ 12

theorem State.Obeys.withFli {s : State} (h : s.Obeys) {f : Fli} (hf : f.syncBusy) : ({ s with fli := f } : State).Obeys :=
  { h with syncIsBusy := hf }

theorem Fli.syncBusy_dominantAfter (f : Fli) (since : List Bool) : (f.dominantAfter since).syncBusy := fun _ => by simp

theorem Fli.syncBusy_returned {f : Fli} (h : f.syncBusy) : f.returned.syncBusy := by
  unfold Fli.returned
  repeat' split
  all_goals exact h

theorem Fli.syncBusy_start {f : Fli} (h : f.syncBusy) : f.start.syncBusy := by
  unfold Fli.start
  split
  · split
    · exact fun _ => by simp [Fli.startBit]
    · exact h
  · exact h

theorem Fli.syncBusy_lost {f : Fli} (h : f.syncBusy) (since : List Bool) : (f.lost since).syncBusy := by
  unfold Fli.lost
  split
  · exact Fli.syncBusy_dominantAfter _ _
  · exact h

theorem Fli.syncBusy_idle {f : Fli} (h : f.syncBusy) : f.idle.syncBusy := by
  unfold Fli.idle
  split
  · exact h
  · exact fun hs => absurd hs (EngineState.atIdle_twelve _)

theorem Fli.syncBusy_stopPulseEnd {f : Fli} (h : f.syncBusy) (still : Bool) : (f.stopPulseEnd still).syncBusy := by
  unfold Fli.stopPulseEnd
  split
  · exact h
  · exact h

theorem Fli.syncBusy_givenUp (f : Fli) (levels : List Bool) : (f.givenUp levels).syncBusy := EngineState.atIdle_sync

/-! ### The ends of own frames (R82) -/

theorem State.Obeys.reportCompleted {s : State} (h : s.Obeys) (t : Transmission) : (s.reportCompleted t).Obeys := by
  unfold State.reportCompleted
  split
  · exact h
  · split
    · exact h.noticeCompleted _ _
    · split
      · exact h.takeRestart
      · exact h

theorem State.Obeys.ownCompleted {s : State} (h : s.Obeys) : s.ownCompleted.Obeys := by
  unfold State.ownCompleted
  split
  · exact State.Obeys.reportCompleted (h.withFli fun hs => by cases hs) _
  · exact h

theorem State.Obeys.reportFailed {s : State} (h : s.Obeys) (t : Transmission) : (s.reportFailed t).Obeys := by
  unfold State.reportFailed
  split
  · exact h
  · split
    · exact h.coordinated (.noticeFailed s _) (s.noticeFailed_follows _)
    · split
      · exact h.beginDoubt.takeRestart
      · exact h.beginDoubt

/-- An own frame fails at a dominant bit, where the line is not idle (R82). -/
theorem State.Obeys.ownFailed {s : State} (h : s.Obeys) (hb : s.fli.idleCount ≠ 12) : s.ownFailed.Obeys := by
  unfold State.ownFailed
  split
  · have lost : ({ s with fli := { s.fli with transmitter := none, engine := .sync } } : State).Obeys := h.withFli fun _ => hb
    exact lost.reportFailed _
  · exact h

theorem State.Obeys.ownMismatched {s : State} (h : s.Obeys) (since : List Bool) : (s.ownMismatched since).Obeys := by
  unfold State.ownMismatched
  split
  · exact (h.withFli (Fli.syncBusy_dominantAfter _ since)).ownFailed (by simp)
  · exact h

/-! ### Notices and frames taken (R63 to R66, R86) -/

/-- A collision is marked and counted, and flags the item (R34, R74). -/
theorem State.Obeys.collide {s : State} (h : s.Obeys) {own : ClaimKind} (hc : s.fcu.claim = .held own) (r : Nat) (k : ClaimKind) :
    (s.collide r k).Obeys := by
  have flagged : ∀ u : State, u.Obeys → ({ u with cyc := u.cyc.disturbed } : State).Obeys := by
    intro u hu
    unfold Cyc.disturbed
    repeat' split
    all_goals exact { hu with }
  have engaged : s.fcu.engaged := Fcu.engaged_of_claim (by simp [hc])
  have marked : ({ s with fcu.claimCollision := true } : State).Obeys := h.coordinated (.of_fcu s _) engaged.follows
  have joined : (if s.fcu.collided.contains r then { s with fcu.claimCollision := true }
      else ({ s with fcu.claimCollision := true, fcu.collided := s.fcu.collided ++ [r] } : State).signal .collision 0).Obeys := by
    split
    · exact marked
    · exact (h.coordinated (.of_fcu s _) engaged.follows).signal _ _
  unfold State.collide
  dsimp only
  split
  · exact flagged _ joined
  · exact joined

theorem State.Obeys.meetNotice {s : State} (h : s.Obeys) (r : Nat) (n : Notice) : (s.meetNotice r n).Obeys := by
  unfold State.meetNotice
  split
  · unfold State.meetClaim
    split
    · split
      · exact h.collide (by assumption) _ _
      · exact h
    · exact h
  · exact h.coordinated (.meetHoldoff s _) (s.meetHoldoff_follows _)
  · exact h

theorem State.Obeys.noticeTaken {s : State} (h : s.Obeys) (f : LinkFrame) : (s.noticeTaken f).Obeys := by
  unfold State.noticeTaken
  split
  · rename_i hl
    have engaged : s.fcu.engaged := Fcu.engaged_of_listening hl
    have recorded : ∀ r n, (s.recordNotice r n).Obeys := fun _ _ => h.coordinated (.of_fcu s _) engaged.follows
    split
    · exact (h.coordinated (.of_fcu s { s.fcu with duplicateRank := true }) engaged.follows).signal _ _
    · split
      · exact h.signal _ _
      · split
        · exact h.signal _ _
        · exact ((recorded _ _).meetNotice _ _).recheckPending.permitTest
  · exact h

theorem State.Obeys.judgeDestination {s : State} (h : s.Obeys) (f : LinkFrame) : (s.judgeDestination f).Obeys := by
  have handed : (s.handOn f).Obeys := by
    unfold State.handOn
    split
    · exact h.noticeTaken f
    · split
      · exact h.handleRequest _ _ _
      · exact h.signal _ _
  unfold State.judgeDestination
  split
  · exact h.signal _ _
  · split
    · exact handed.recheckPending
    · exact h

theorem State.Obeys.judgeOther {s : State} (h : s.Obeys) (f : LinkFrame) : (s.judgeOther f).Obeys := by
  unfold State.judgeOther
  split
  · exact (h.signal _ _).beginDoubt
  · exact h.judgeDestination f

theorem State.Obeys.frameEnd {s : State} (h : s.Obeys) (line : List Bool) : (s.frameEnd line).Obeys := by
  unfold State.frameEnd State.judgeFrame
  split
  · split
    · split
      · split
        · exact h.ownCompleted
        · exact h
      · exact (h.withFli fun hs => by cases hs).judgeOther _
    · exact h
  · exact h

theorem State.Obeys.badLength {s : State} (h : s.Obeys) (arbitration kind length : Byte) :
    (s.badLength arbitration kind length).Obeys := by
  unfold State.badLength
  split
  · exact ((h.withFli (Fli.syncBusy_givenUp _ _)).signal _ _).beginDoubt
  · exact h

/-! ### Runs and pulses (R86, R88, R90, R91) -/

theorem State.Obeys.countRun {s : State} (h : s.Obeys) (length : Nat) : (s.countRun length).Obeys := by
  have disturbed : ∀ q, (s.linkError q).beginDoubt.Obeys := fun q => (h.signal _ _).beginDoubt
  unfold State.countRun
  repeat' split
  · exact h
  · exact disturbed _
  · exact disturbed _
  · exact h.beginDoubt
  · exact disturbed _
  · exact h

theorem State.Obeys.runEnd {s : State} (h : s.Obeys) (length : Nat) : (s.runEnd length).Obeys := by
  unfold State.runEnd
  split
  · exact State.Obeys.countRun (h.withFli fun _ => by simp) _
  · exact h

theorem State.Obeys.haltPulse {s : State} (h : s.Obeys) : s.haltPulse.Obeys := by
  have held : ({ s with fli.idleCount := 0, fli.runLength := 500 } : State).Obeys := h.withFli fun _ => by simp
  exact (held.ownFailed (by simp)).halt

theorem State.Obeys.drivePulse {s : State} (h : s.Obeys) (past : Bool) (since : List Bool) : (s.drivePulse past since).Obeys := by
  have seen : ({ s with fli := s.fli.dominantAfter since } : State).Obeys := h.withFli (Fli.syncBusy_dominantAfter _ _)
  have overridden : (State.overridden { s with fli := s.fli.dominantAfter since } past).Obeys := by
    unfold State.overridden
    split
    · exact seen.ownFailed (by simp)
    · exact seen.withFli (Fli.syncBusy_returned (Fli.syncBusy_dominantAfter _ _))
  exact overridden.withFli overridden.syncIsBusy

/-! ### The tick's deadlines -/

theorem State.Obeys.countWait {s : State} (h : s.Obeys) : s.countWait.Obeys := by
  unfold State.countWait
  split
  · split
    · exact h.signal _ _
    · exact h
  · exact h

theorem State.Obeys.listenInEnd {s : State} (h : s.Obeys) : s.listenInEnd.Obeys := by
  unfold State.listenInEnd
  split
  · rename_i hl
    have active : ({ s with fcu.state := .active, fcu.listenEnd := none } : State).Obeys :=
      { h with
        silentHoldsNothing := fun hs => by simp at hs
        startIsInactive := fun hm => by
          have := h.startIsInactive hm
          simp [hl.1] at this }
    exact active.permitTest
  · exact h

/-- A silent unit still holds nothing with one of its deadlines cleared. -/
theorem State.Obeys.doubtEnd {s : State} (h : s.Obeys) : s.doubtEnd.Obeys := by
  have cleared : s.fcu.Follows { s.fcu with doubtUntil := none } :=
    { state := rfl, need := .inr rfl, held := fun _ => id
      empty := fun he hs => by
        obtain ⟨hn, hc, hh, hk, hb, _, hl, hr, hf, hv⟩ := Fcu.holdsNothing_iff.mp (he hs)
        exact Fcu.holdsNothing_iff.mpr ⟨hn, hc, hh, hk, hb, rfl, hl, hr, hf, hv⟩ }
  unfold State.doubtEnd
  split
  · exact (h.coordinated (.of_fcu s _) cleared).permitTest
  · exact h

theorem State.Obeys.claimRefresh {s : State} (h : s.Obeys) : s.claimRefresh.Obeys := by
  unfold State.claimRefresh
  split
  · split
    · refine h.coordinated ((OnlyCoordination.of_fcu s _).trans (.queueNotice _ _)) (Fcu.engaged.follows (Fcu.engaged_of_claim ?_))
      simp_all
    · exact h
  · exact h

theorem State.Obeys.holdoffRefresh {s : State} (h : s.Obeys) : s.holdoffRefresh.Obeys := by
  unfold State.holdoffRefresh
  split
  · split
    · refine h.coordinated ((OnlyCoordination.of_fcu s _).trans (.queueNotice _ _)) (Fcu.engaged.follows (Fcu.engaged_of_holdoff ?_))
      simp_all
    · exact h
  · exact h

/-- In an emptied view nothing lapses (R68, R75). -/
theorem Fcu.not_expires_of_emptied {f : Fcu} (h : f.view = emptied f.view) (now : Time) : f.expires now = false := by
  have cleared : ∀ v ∈ emptied f.view, (lapsed v.claim now || lapsed v.holdoff now) = false := by
    intro v hv
    obtain ⟨_, _, rfl⟩ := List.mem_map.mp hv
    rfl
  unfold Fcu.expires
  rw [h, List.any_eq_false]
  exact fun v hv => by simp [cleared v hv]

theorem State.Obeys.viewExpiry {s : State} (h : s.Obeys) : s.viewExpiry.Obeys := by
  obtain ⟨_, _, swept⟩ := s.expireView_frame
  unfold State.viewExpiry
  split
  · rename_i he
    have awake : ¬s.fcu.silent := by
      intro hs
      obtain ⟨_, _, _, _, _, _, _, _, _, hv⟩ := Fcu.holdsNothing_iff.mp (h.emptyIfSilent hs)
      rw [Fcu.not_expires_of_emptied hv] at he
      cases he
    have engaged : s.fcu.engaged := .inr (.inr (.inr awake))
    rw [swept]
    exact (h.coordinated ⟨_, _, _, _, rfl, id⟩ engaged.follows).permitTest
  · exact h

/-! ### Resets and the configuration image -/

theorem State.deviceReset_lawful (rank : Nat) (x y : Int) (z free : Nat) (pending : List Instr) :
    (State.deviceReset rank x y z free pending).Lawful := by
  refine .of_idle rfl rfl ⟨rfl, rfl, rfl⟩ rfl rfl (fun _ => ⟨Fcu.holdsNothing_iff.mpr ?_, ?_⟩) (fun _ => rfl)
    (fun _ => by simp [State.deviceReset, Fli.reset])
  have view : emptyView ConfigImage.defaults.peerSet rank = emptied (emptyView ConfigImage.defaults.peerSet rank) := by
    simp [emptied, emptyView, ViewEntry.cleared]
  · exact ⟨rfl, rfl, rfl, rfl, rfl, rfl, rfl, rfl, rfl, view⟩
  · by_cases hr : rank = 0
    · exact .inr (.inr (by simp [State.deviceReset, Cyc.reset, hr]))
    · exact .inl (by simp [State.deviceReset, Cyc.reset, hr])

/-- The release of RESET_N finds nothing current, and starts a retract that is no cycle (R29, R127). -/
theorem State.Lawful.resetReleased {s : State} (h : s.Lawful) (hr : s.resetHeld = true) : s.released.Lawful :=
  have idle := h.heldIsIdle hr
  have work := h.workless_idle idle
  .of_idle idle (h.unmarked_idle idle) ⟨rfl, work.2.1, work.2.2⟩ (h.settleless work.2.1) (h.needless_idle idle) h.silentHoldsNothing
    h.startIsInactive h.syncIsBusy

/-- The emptied view of the configured peers is one a silent unit may have (R62, R75). -/
theorem State.Obeys.acceptImage {s : State} (h : s.Obeys) (image : List Byte) : (s.acceptImage image).Obeys := by
  have view : ∀ peers rank, emptyView peers rank = emptied (emptyView peers rank) := by
    intro peers rank
    simp [emptied, emptyView, ViewEntry.cleared]
  refine State.Obeys.tryEndStart { h with silentHoldsNothing := fun hs => ⟨?_, (h.silentHoldsNothing hs).2⟩ }
  obtain ⟨hn, hc, hh, hk, hb, hd, hl, hr, hf, _⟩ := Fcu.holdsNothing_iff.mp (h.emptyIfSilent hs)
  exact Fcu.holdsNothing_iff.mpr ⟨hn, hc, hh, hk, hb, hd, hl, hr, hf, view _ _⟩

theorem State.Obeys.configRead {s : State} (h : s.Obeys) (image : List Byte) : (s.configRead image).Obeys := by
  unfold State.configRead
  split
  · split
    · exact h.acceptImage image
    · exact State.Obeys.stationFault (s := { s with cyc.imageHeld := false, cyc.configReading := false }) { h with } _
  · exact h

/-! ### Every command, every step -/

/-- A command that RESET_N holds back keeps the laws where its effect does once RESET_N is released. -/
theorem State.Lawful.act {c : Instr} {s t : State} {f : State → State} (hl : s.Lawful) (he : exec c s = s.act f)
    (h : exec c s = .next t) (hf : s.Obeys → (f s).Obeys) : t.Lawful := by
  rw [he] at h
  unfold State.act at h
  obtain rfl := Host.Outcome.next.inj h
  split
  · exact hl
  · rename_i hr
    exact (hf ⟨hl, by simpa using hr⟩).toLawful

theorem exec_keepsLaws {c : Instr} {s t : State} (hl : s.Lawful) (h : exec c s = .next t) : t.Lawful := by
  have request : ∀ (dest : BitVec 4) (kind : Byte) (payload : List Byte),
      exec c s = s.act (fun s => s.takeRequest dest kind payload) → t.Lawful :=
    fun _ _ _ he => hl.act he h (·.takeRequest _ _ _)
  cases c with
  | deviceReset straps =>
    obtain rfl := Host.Outcome.next.inj h
    exact State.deviceReset_lawful _ _ _ _ _ _
  | resetNRelease =>
    obtain rfl := Host.Outcome.next.inj h
    split
    · exact hl.resetReleased (by assumption)
    · exact hl
  | configReadDone image => exact hl.act (exec_configReadDone s image) h (·.configRead image)
  | planSite dest payload => exact request _ _ _ (exec_planSite s dest payload)
  | planRemeasure dest payload => exact request _ _ _ (exec_planRemeasure s dest payload)
  | planWithdraw dest payload => exact request _ _ _ (exec_planWithdraw s dest payload)
  | mapClear dest payload => exact request _ _ _ (exec_mapClear s dest payload)
  | start dest payload => exact request _ _ _ (exec_start s dest payload)
  | pause dest payload => exact request _ _ _ (exec_pause s dest payload)
  | resume dest payload => exact request _ _ _ (exec_resume s dest payload)
  | abortSite dest payload => exact request _ _ _ (exec_abortSite s dest payload)
  | restart dest payload => exact request _ _ _ (exec_restart s dest payload)
  | refReselect dest payload => exact request _ _ _ (exec_refReselect s dest payload)
  | setMode dest payload => exact request _ _ _ (exec_setMode s dest payload)
  | queryStatus dest payload => exact request _ _ _ (exec_queryStatus s dest payload)
  | queryEntry dest payload => exact request _ _ _ (exec_queryEntry s dest payload)
  | queryCounters dest payload => exact request _ _ _ (exec_queryCounters s dest payload)
  | setCounter dest payload => exact request _ _ _ (exec_setCounter s dest payload)
  | unknownKind dest kind payload => exact request _ _ _ (exec_unknownKind s dest kind payload)
  | transmitStart since =>
    exact hl.act (exec_transmitStart s since) h fun ho => ho.withFli (Fli.syncBusy_start (Fli.sees_sync hl.syncIsBusy since))
  | arbitrationLoss since =>
    exact hl.act (exec_arbitrationLoss s since) h fun ho => ho.withFli (Fli.syncBusy_lost hl.syncIsBusy since)
  | ownFrameCompleted => exact hl.act (exec_ownFrameCompleted s) h (·.ownCompleted)
  | ownFrameError since => exact hl.act (exec_ownFrameError s since) h (·.ownMismatched since)
  | frameEnd line => exact hl.act (exec_frameEnd s line) h (·.frameEnd line)
  | lengthAbove32 length arbitration kind => exact hl.act (exec_lengthAbove32 s length arbitration kind) h (·.badLength _ _ _)
  | dominantRunReaches9 => exact hl.act (exec_dominantRunReaches9 s) h fun ho => ho.withFli fun _ => by simp [Fli.runOf9]
  | dominantRunEnd length => exact hl.act (exec_dominantRunEnd s length) h (·.runEnd length)
  | haltPulse => exact hl.act (exec_haltPulse s) h (·.haltPulse)
  | lineIdle => exact hl.act (exec_lineIdle s) h fun ho => ho.withFli (Fli.syncBusy_idle hl.syncIsBusy)
  | stopAsserted past since =>
    refine hl.act (exec_stopAsserted s past since) h fun ho => ?_
    unfold State.stopAsserted
    split
    · exact ho
    · exact ho.drivePulse past since
  | stopPulseEnd still =>
    exact hl.act (exec_stopPulseEnd s still) h fun ho => ho.withFli (Fli.syncBusy_stopPulseEnd hl.syncIsBusy still)
  | stopPulseRepeat past since =>
    refine hl.act (exec_stopPulseRepeat s past since) h fun ho => ?_
    unfold State.stopPulseRepeat
    split
    · exact ho.drivePulse past since
    · exact ho
  | tick => exact hl.act (exec_tick s) h fun ho => State.Obeys.countWait { ho with }
  | listenInEnd => exact hl.act (exec_listenInEnd s) h (·.listenInEnd)
  | doubtEnd => exact hl.act (exec_doubtEnd s) h (·.doubtEnd)
  | claimRefreshDue => exact hl.act (exec_claimRefreshDue s) h (·.claimRefresh)
  | holdoffRefreshDue => exact hl.act (exec_holdoffRefreshDue s) h (·.holdoffRefresh)
  | viewExpiry => exact hl.act (exec_viewExpiry s) h (·.viewExpiry)
  | holdoffQueued =>
    exact hl.act (exec_holdoffQueued s) h fun ho => ho.coordinated (.tryHoldoff s) s.tryHoldoff_follows
  | turretHomeFound => exact hl.act (exec_turretHomeFound s) h (·.completes (Mot.turretHome_completes _ _ _ _))
  | indexComplete edges => exact hl.act (exec_indexComplete s edges) h (·.completes (Mot.indexDone_completes _ _ _ _ _))
  | carriageAxisHome axis => exact hl.act (exec_carriageAxisHome s axis) h (·.completes (Mot.axisHome_completes _ _ _ _ _))
  | carriageInPosition => exact hl.act (exec_carriageInPosition s) h (·.completes (Mot.carriageDone_completes _ _ _ _))
  | zHomeFound => exact hl.act (exec_zHomeFound s) h (·.completes (Mot.zHome_completes _ _ _ _))
  | zInPosition => exact hl.act (exec_zInPosition s) h (·.completes (Mot.rapidDone_completes _ _ _ _))
  | fineStepComplete => exact hl.act (exec_fineStepComplete s) h (·.fineStepDone)
  | moveDeadline => exact hl.act (exec_moveDeadline s) h (·.moveDeadline)
  | settleEnd => exact hl.act (exec_settleEnd s) h (·.settleDone)
  | axesStopped x y z => exact hl.act (exec_axesStopped s x y z) h (·.axesStopped x y z)
  | samplePair p q => exact hl.act (exec_samplePair s p q) h fun ho => ho.withForce (Frc.takePair_answers _ _ _ _ _ _)
  | tareDone p q => exact hl.act (exec_tareDone s p q) h (·.namedPair _ p q)
  | wireTestDone p q => exact hl.act (exec_wireTestDone s p q) h (·.namedPair _ p q)
  | wireTestRecovered p q => exact hl.act (exec_wireTestRecovered s p q) h (·.namedPair _ p q)
  | loadRampEnd p q => exact hl.act (exec_loadRampEnd s p q) h (·.namedPair _ p q)
  | dwellEnd p q => exact hl.act (exec_dwellEnd s p q) h (·.namedPair _ p q)
  | unloadTimeout => exact hl.act (exec_unloadTimeout s) h (·.withForce (Frc.unloadTimeout_answers _ _))
  | fastUnloadTimeout => exact hl.act (exec_fastUnloadTimeout s) h (·.withForce (Frc.fastUnloadTimeout_answers _ _))
  | homeDriveDone p q => exact hl.act (exec_homeDriveDone s p q) h (·.namedPair _ p q)
  | freeTestPass p q => exact hl.act (exec_freeTestPass s p q) h (·.namedPair _ p q)
  | retractTimeout => exact hl.act (exec_retractTimeout s) h (·.withForce (Frc.retractTimeout_answers _ _))
  | refWindowEnd edges => exact hl.act (exec_refWindowEnd s edges) h fun ho => { ho with }
  | sourceSwitch => exact hl.act (exec_sourceSwitch s) h fun ho => { ho with }
  | focusSettleEnd => exact hl.act (exec_focusSettleEnd s) h (·.focusSettleEnd)
  | fvalRise => exact hl.act (exec_fvalRise s) h (·.frameStart)
  | windowComplete lines haltDue => exact hl.act (exec_windowComplete s lines haltDue) h (·.windowReceived lines haltDue)
  | pclkStall haltDue => exact hl.act (exec_pclkStall s haltDue) h (·.frameFails haltDue)
  | shortFrame haltDue => exact hl.act (exec_shortFrame s haltDue) h (·.frameFails haltDue)
  | frameWaitEnd haltDue => exact hl.act (exec_frameWaitEnd s haltDue) h (·.noFrame haltDue)
  | computeComplete slot => exact hl.act (exec_computeComplete s slot) h (·.computeDone slot)
  | startBit => exact hl.act (exec_startBit s) h fun ho => ho.withFli fun _ => by simp [Fli.startBit]

/-- Settles O5: every command keeps the laws, by what each operation keeps of the claims; a step runs one or idles. -/
theorem stepKeepsClaimLaws : Obligations.StepKeepsClaimLaws := by
  intro s t hl h
  unfold step at h
  split at h
  · obtain rfl := Host.Outcome.next.inj h
    exact hl
  · rename_i c rest _
    have popped : ({ s with pending := rest } : State).Lawful := { hl with }
    exact exec_keepsLaws popped h

end Sys2Proof.Machine
end

section
/-!
PROOFS. Requests outside the mode that takes them (O20).
-/

-- One theorem after another: each one elaborated beside the others takes a thread with a stack of its own.
set_option Elab.async false

namespace Sys2Proof.Machine

/-- A refused request places its reply, or drops it (R84), and does nothing else. -/
theorem State.answerThen_placed (s : State) (tag kind : Byte) {code : ReplyCode} (effect : State → State) (h : code ≠ .accepted) :
    s.answerThen tag kind code effect = s.placed (.reply tag kind code) := by
  rw [State.answerThen, if_neg h]
  exact s.send_placed _

theorem State.startCode_refused {s : State} (hr : s.cyc.mode ≠ .ready) (hp : s.cyc.mode ≠ .paused) : s.startCode = .wrongMode :=
  if_neg (by simp [hr, hp])

theorem State.pauseCode_refused {s : State} (h : s.cyc.mode ≠ .running) : s.pauseCode = .wrongMode := if_neg h

theorem State.resumeCode_refused {s : State} (h : s.cyc.mode ≠ .halted) : s.resumeCode = .wrongMode := if_neg h

/-- Settles O20, by the owner's test of each request: a refused one has no effect. -/
theorem modeRequestsRefused : Obligations.ModeRequestsRefused := by
  refine fun dest tag s hl => ⟨fun hd => ⟨fun hr hp => ?_, fun hm => ?_, fun hm => ?_⟩, fun ho => ⟨fun hm => ?_, fun hc => ?_⟩⟩
  · rw [exec_start, State.act_live hl.1, State.takeRequest_broadcast hl hd (r := .start) rfl rfl, State.answer,
      State.startCode_refused hr hp, State.answerThen_placed _ _ _ _ (by decide)]
    rfl
  · rw [exec_pause, State.act_live hl.1, State.takeRequest_broadcast hl hd (r := .pause) rfl rfl, State.answer,
      State.pauseCode_refused hm, State.answerThen_placed _ _ _ _ (by decide)]
    rfl
  · rw [exec_resume, State.act_live hl.1, State.takeRequest_broadcast hl hd (r := .resume) rfl rfl, State.answer,
      State.resumeCode_refused hm, State.answerThen_placed _ _ _ _ (by decide)]
    rfl
  · have refused : s.restartCode = .wrongMode := if_pos hm
    rw [exec_restart, State.act_live hl.1, State.takeRequest_own hl ho (r := .restart) rfl, State.answer, State.answerRestart,
      refused, if_neg (by decide)]
    exact congrArg _ (s.send_placed _)
  · have refused : s.abortCode = .nothingToAbort := if_pos hc
    rw [exec_abortSite, State.act_live hl.1, State.takeRequest_own hl ho (r := .abortSite) rfl, State.answer, refused,
      State.answerThen_placed _ _ _ _ (by decide)]
    rfl

end Sys2Proof.Machine
end

section
/-!
PROOFS. PAUSE and RESUME (O22).
-/

-- One theorem after another: each one elaborated beside the others takes a thread with a stack of its own.
set_option Elab.async false

namespace Sys2Proof.Machine

/-- A message placed or dropped changes the message queue, its overflow mark and the counters alone (R84). -/
theorem State.placed_frame (s : State) (m : Message) : ∃ messages full evc,
    s.placed m = { s with fli := { s.fli with messages := messages, txOverflow := full }, evc := evc } := by
  unfold State.placed
  split
  · exact ⟨_, _, _, rfl⟩
  · exact ⟨_, _, _, rfl⟩

section
variable (s : State) (m : Message)

@[simp] theorem State.placed_cyc : (s.placed m).cyc = s.cyc := by
  obtain ⟨_, _, _, h⟩ := s.placed_frame m
  rw [h]

@[simp] theorem State.placed_fcu : (s.placed m).fcu = s.fcu := by
  obtain ⟨_, _, _, h⟩ := s.placed_frame m
  rw [h]

@[simp] theorem State.placed_frc : (s.placed m).frc = s.frc := by
  obtain ⟨_, _, _, h⟩ := s.placed_frame m
  rw [h]

@[simp] theorem State.placed_mot : (s.placed m).mot = s.mot := by
  obtain ⟨_, _, _, h⟩ := s.placed_frame m
  rw [h]

@[simp] theorem State.placed_img : (s.placed m).img = s.img := by
  obtain ⟨_, _, _, h⟩ := s.placed_frame m
  rw [h]

@[simp] theorem State.placed_tbu : (s.placed m).tbu = s.tbu := by
  obtain ⟨_, _, _, h⟩ := s.placed_frame m
  rw [h]

@[simp] theorem State.placed_cfg : (s.placed m).cfg = s.cfg := by
  obtain ⟨_, _, _, h⟩ := s.placed_frame m
  rw [h]

@[simp] theorem State.placed_notices : (s.placed m).fli.notices = s.fli.notices := by
  obtain ⟨_, _, _, h⟩ := s.placed_frame m
  rw [h]

@[simp] theorem State.placed_undelivered : (s.placed m).undelivered? = s.undelivered? := by
  simp [State.undelivered?, State.placed_sst]

end

/-- An accepted request places its reply, or drops it, and takes effect all the same (R84). -/
theorem State.answerThen_takes (s : State) (tag kind : Byte) {code : ReplyCode} (effect : State → State) (h : code = .accepted) :
    s.answerThen tag kind code effect = effect (s.placed (.reply tag kind .accepted)) := by
  subst h
  exact congrArg effect (s.send_placed _)

theorem exec_pause_takes {dest : BitVec 4} {s : State} (hl : s.live) (hd : s.own dest ∨ dest = 15#4) (tag : Byte)
    (hm : s.cyc.mode = .running) :
    exec (.pause dest [tag]) s = .next (s.placed (.reply tag 0x15#8 .accepted)).pauseRunning := by
  rw [exec_pause, State.act_live hl.1, State.takeRequest_broadcast hl hd (r := .pause) rfl rfl, State.answer,
    State.answerThen_takes _ _ _ _ (State.pauseCode_accepted.mpr hm)]
  rfl

theorem exec_resume_takes {dest : BitVec 4} {s : State} (hl : s.live) (hd : s.own dest ∨ dest = 15#4) (tag : Byte)
    (hm : s.cyc.mode = .halted) :
    exec (.resume dest [tag]) s = .next (s.placed (.reply tag 0x16#8 .accepted)).resumeHalted := by
  rw [exec_resume, State.act_live hl.1, State.takeRequest_broadcast hl hd (r := .resume) rfl rfl, State.answer,
    State.answerThen_takes _ _ _ _ (State.resumeCode_accepted.mpr hm)]
  rfl

theorem State.continueWork_current {s : State} (h : s.cyc.current ≠ none) : s.continueWork = s := by
  unfold State.continueWork
  split
  · contradiction
  · contradiction
  · rfl

/-- The first entry of the measure list that is not delivered is the next to become current (R40). -/
theorem State.undelivered_first {s : State} {before after : List Nat} {site : Nat}
    (hl : s.sst.measureList = before ++ site :: after) (hb : ∀ d ∈ before, d ∈ s.cyc.delivered) (hs : site ∉ s.cyc.delivered) :
    s.undelivered? = some site := by
  rw [State.undelivered?, hl, List.find?_eq_some_iff_append]
  exact ⟨by simpa using hs, before, after, rfl, fun d hd => by simpa using hb d hd⟩

/-- PAUSING that holds a claim, has a need or waits for RETRACTED goes on (R46). -/
theorem State.nothingToFinish_false {s : State}
    (h : (∃ k, s.fcu.claim = .held k) ∨ s.fcu.need ≠ none ∨ s.frc.state ≠ .retracted) : s.nothingToFinish = false := by
  unfold State.nothingToFinish
  rcases h with ⟨k, hk⟩ | hn | hf
  · simp [Fcu.holds, hk]
  · simp [Option.isNone_iff_eq_none, hn]
  · simp [hf]

/-- The state that a PAUSE leaves before it is seen what there is to finish (R28, R46). -/
def State.pausing (s : State) : State := { s with cyc.mode := .pausing, cyc.batch := none }

theorem State.pauseRunning_current {s : State} (h : s.cyc.current ≠ none) : s.pauseRunning = s.pausing :=
  State.continueWork_current h

theorem State.pauseRunning_idle {s : State} (h : s.cyc.current = none) : s.pauseRunning = s.pausing.pausingNext := by
  simp [State.pauseRunning, State.continueWork, h, State.pausing]

theorem State.pauseRunning_next {s : State} {site : Nat} (h : s.cyc.current = none) (hu : s.undelivered? = some site) :
    s.pauseRunning = s.pausing.enterPhase (.listed site) .toView := by
  have next : s.pausing.undelivered? = some site := hu
  rw [State.pauseRunning_idle h, State.pausingNext, next]

/-- With no entry to take up PAUSING goes on while something is to finish (R46). -/
theorem State.pauseRunning_busy {s : State} (h : s.cyc.current = none) (hu : s.undelivered? = none)
    (hw : (∃ k, s.fcu.claim = .held k) ∨ s.fcu.need ≠ none ∨ s.frc.state ≠ .retracted) : s.pauseRunning = s.pausing := by
  have next : s.pausing.undelivered? = none := hu
  have busy : s.pausing.nothingToFinish = false := State.nothingToFinish_false hw
  rw [State.pauseRunning_idle h, State.pausingNext, next]
  simp [State.checkPaused, busy]

theorem State.pauseRunning_finished {s : State} (h : s.cyc.current = none) (hu : s.undelivered? = none)
    (hk : s.fcu.claim = .none) (hn : s.fcu.need = none) (hf : s.frc.state = .retracted) :
    s.pauseRunning = { s with cyc.mode := .paused, cyc.batch := none } :=
  State.continueWork_paused (s := s.pausing) h rfl hu (fun k hc => by cases hk.symm.trans hc) hn hf

/-- Settles O22, by what PAUSING does next (R46): the entry that it takes up, or nothing to finish. -/
theorem pauseAndResume : Obligations.PauseAndResume := by
  intro dest tag s hl hd
  refine ⟨fun hm hc => ?_, fun hm hc hall hk hn hf => ?_, fun hm hc hall hw => ?_, ?_, fun hm => ?_⟩
  · rw [exec_pause_takes hl hd tag hm, State.pauseRunning_current (by simpa using hc)]
    rfl
  · rw [exec_pause_takes hl hd tag hm, State.pauseRunning_finished (by simpa using hc)
      (by simpa using State.undelivered_none hall) (by simpa using hk) (by simpa using hn) (by simpa using hf)]
  · rw [exec_pause_takes hl hd tag hm, State.pauseRunning_busy (by simpa using hc) (by simpa using State.undelivered_none hall)
      (by simpa using hw)]
    rfl
  · intro before site after hm hc hlist hb hs hn viewed atRest
    have next := exec_pause_takes hl hd tag hm
    rw [State.pauseRunning_next (site := site) (by simpa using hc) (by simpa using State.undelivered_first hlist hb hs)] at next
    refine ⟨fun hr => ?_, fun hr ha hdoubt hk hv => ?_⟩
    · have resting : State.atRest (s.placed (.reply tag 0x15#8 .accepted)).pausing = false :=
        Bool.eq_false_iff.mpr fun h => hr (by simpa [State.pausing] using State.atRest_iff.mp h)
      rw [next, State.enterPhase_waits (.inr rfl) resting]
      rfl
    · have free : (s.placed (.reply tag 0x15#8 .accepted)).pausing.mayClaimMotion := by
        simpa [State.mayClaimMotion, State.pausing] using
          ⟨hr.1, hr.2.1, hr.2.2, ha, hdoubt, hn, hk, Fcu.unopposed_of_none hv⟩
      rw [next, State.enterPhase_claiming (.inr rfl) free]
      simp [viewed, State.claimingMotion, State.pausing]
  · rw [exec_resume_takes hl hd tag hm]
    simp [State.resumeHalted, State.enterListenIn, State.queueNotice, State.ahead, State.now]

end Sys2Proof.Machine
end

section
/-!
PROOFS. The line coding reads a frame back (R79), and an opposite CLAIM over a held claim (O39).
-/

-- One theorem after another: each one elaborated beside the others takes a thread with a stack of its own.
set_option Elab.async false

namespace Sys2Proof.Machine

/-! ### The line coding read back (R79, R85) -/

theorem destuff_recessive {run : Nat} (h : run ≠ 8) (rest : List Bool) :
    destuff run (true :: rest) = (destuff 0 rest).map (true :: ·) := by
  rw [destuff]
  exact h

theorem destuff_dominant {run : Nat} (h : run ≠ 8) (rest : List Bool) :
    destuff run (false :: rest) = (destuff (run + 1) rest).map (false :: ·) := by
  rw [destuff]
  exact h

/-- The inserted bits are removed, from any dominant run that a sender can stand in. -/
theorem destuff_stuff (bits : List Bool) {run : Nat} (h : run ≤ 7) : destuff run (stuff run bits) = some bits := by
  induction bits generalizing run with
  | nil => simp [stuff, destuff]
  | cons bit rest ih =>
    have start := ih (Nat.zero_le 7)
    have ne : run ≠ 8 := by omega
    cases bit with
    | true => rw [stuff, destuff_recessive ne, start, Option.map_some]
    | false =>
      by_cases h7 : run = 7
      · simp [stuff, h7, destuff, start]
      · rw [stuff, if_neg h7, destuff_dominant ne, ih (by omega), Option.map_some]

theorem byteOfBits_byteBits (b : Byte) :
    byteOfBits (b.getLsbD 7) (b.getLsbD 6) (b.getLsbD 5) (b.getLsbD 4) (b.getLsbD 3) (b.getLsbD 2) (b.getLsbD 1) (b.getLsbD 0) =
      b := by
  revert b
  decide

theorem bytesOfBits_byteBits (bytes : List Byte) : bytesOfBits (bytes.flatMap byteBits) = some bytes := by
  induction bytes with
  | nil => rfl
  | cons b rest ih =>
    rw [List.flatMap_cons]
    change (bytesOfBits (rest.flatMap byteBits)).map _ = _
    rw [ih, byteOfBits_byteBits]
    rfl

/-- The two check bytes, high byte first, spell the check. -/
theorem natOfBytes_check (c : BitVec 16) : BitVec.ofNat 16 (natOfBytes [(c >>> 8).setWidth 8, c.setWidth 8]) = c := by
  refine BitVec.eq_of_toNat_eq ?_
  have := c.isLt
  simp [natOfBytes, Nat.shiftRight_eq_div_pow]
  omega

theorem frameOfBytes_bytes {f : LinkFrame} (h : f.payload.length ≤ 32) : frameOfBytes f.bytes = some f := by
  have length : (BitVec.ofNat 8 f.payload.length).toNat = f.payload.length := by
    rw [BitVec.toNat_ofNat]
    omega
  simp only [LinkFrame.bytes, LinkFrame.covered, List.cons_append, frameOfBytes, length, List.length_append, List.length_cons,
    List.length_nil, List.take_left', List.drop_left', natOfBytes_check]
  rw [if_pos ⟨h, trivial⟩]

/-- A frame on the line is read back from its levels (R79). -/
theorem readFrame_line {f : LinkFrame} (h : f.payload.length ≤ 32) : readFrame f.line = some f := by
  rw [readFrame, LinkFrame.line, destuff_stuff _ (Nat.zero_le 7)]
  dsimp only
  rw [bytesOfBits_byteBits]
  exact frameOfBytes_bytes h

/-! ### A peer's notice on the line (R63, R176) -/

/-- The address bits of a notice: class 0, its sender's rank, and destination 15 (spec 11.1). -/
theorem notice_frame_addresses {r : Nat} (h : r ≤ 7) (n : Notice) :
    ((OutFrame.notice n).frame r).isMessage = false ∧ ((OutFrame.notice n).frame r).sender = r ∧
      ((OutFrame.notice n).frame r).dest = 15#4 := by
  have ranks : ∀ r : Fin 8, (arbitrationByte false r 15).getLsbD 7 = false ∧
      ((arbitrationByte false r 15).extractLsb' 4 3).toNat = r ∧ (arbitrationByte false r 15).extractLsb' 0 4 = 15#4 := by decide
  exact ranks ⟨r, by omega⟩

/-- A notice is decoded from the kind byte and the payload that it is sent with (R176). -/
theorem decodeNotice_sent (n : Notice) : decodeNotice n.kindByte n.payload = some n := by
  rcases n with c | k | k | k
  · cases c <;> rfl
  all_goals cases k <;> rfl

theorem readFrame_noticeLine (r : Nat) (n : Notice) : readFrame (noticeLine r n) = some ((OutFrame.notice n).frame r) :=
  readFrame_line (by cases n <;> simp [OutFrame.frame, LinkFrame.sealed, Notice.payload])

theorem LinkFrame.sealed_checkGood (arbitration kind : Byte) (payload : List Byte) :
    (LinkFrame.sealed arbitration kind payload).checkGood = true := by
  simp [LinkFrame.checkGood, LinkFrame.sealed, LinkFrame.covered]

/-- A notice of a peer in the view, at its end on the line, is accepted, and a PENDING claim is checked again (R57, R63). -/
theorem exec_frameEnd_notice {s : State} {r : Nat} (hl : s.live) (hr : r ≤ 7) (ho : r ≠ s.fli.rank)
    (hv : ∃ v ∈ s.fcu.view, v.rank = r) (ha : s.fcu.state = .listenIn ∨ s.fcu.state = .active) (he : s.fli.engine = .receiving)
    (ht : s.fli.transmitter = none) (n : Notice) :
    exec (.frameEnd (noticeLine r n)) s =
      .next (State.acceptNotice { s with fli := s.fli.frameEnded (noticeLine r n) } r n).recheckPending := by
  obtain ⟨notice, sender, dest⟩ := notice_frame_addresses hr n
  have good : ((OutFrame.notice n).frame r).checkGood = true := LinkFrame.sealed_checkGood _ _ _
  have addressed : State.addressed { s with fli := s.fli.frameEnded (noticeLine r n) } 15#4 = true := by
    have : s.fli.rank ≠ 0 := by omega
    simpa [State.addressed, Fli.frameEnded, Fli.measured] using this
  have listening : s.fcu.listening = true := by simpa [Fcu.listening] using ha
  have known : s.fcu.knows r = true := by simpa [Fcu.knows] using hv
  have own : r ≠ (s.fli.frameEnded (noticeLine r n)).rank := ho
  have decoded : decodeNotice ((OutFrame.notice n).frame r).kind ((OutFrame.notice n).frame r).payload = some n :=
    decodeNotice_sent n
  have taken : State.noticeTaken { s with fli := s.fli.frameEnded (noticeLine r n) } ((OutFrame.notice n).frame r) =
      State.acceptNotice { s with fli := s.fli.frameEnded (noticeLine r n) } r n := by
    simp only [State.noticeTaken, listening, if_true, sender, if_neg own, known, dest]
    rw [if_neg (by simp), decoded]
  rw [exec_frameEnd, State.act_live hl.1, State.frameEnd_other (readFrame_noticeLine r n) he ht, State.judgeOther,
    if_neg (by simp [good]), State.judgeDestination, dest, if_neg (by decide), if_pos addressed, State.handOn, if_pos notice, taken]

/-! ### Collisions (R34, R64, R74) -/

theorem State.recheckPending_held {s : State} {k : ClaimKind} (h : s.fcu.claim = .held k) : s.recheckPending = s := by
  simp [State.recheckPending, h]

/-- With a claim HELD of the other kind a CLAIM collides, and nothing is checked again. -/
theorem State.acceptNotice_collides {s : State} {k : ClaimKind} (h : s.fcu.claim = .held k.opposite) (r : Nat) :
    (s.acceptNotice r (.claim k)).recheckPending = (s.recordNotice r (.claim k)).collide r k.opposite := by
  have recorded : (s.recordNotice r (.claim k)).fcu.claim = .held k.opposite := h
  have collided : ((s.recordNotice r (.claim k)).collide r k.opposite).fcu.claim = .held k.opposite := by
    unfold State.collide
    dsimp only
    split <;> split <;> exact recorded
  have met : (s.recordNotice r (.claim k)).meetNotice r (.claim k) = (s.recordNotice r (.claim k)).collide r k.opposite := by
    simp [State.meetNotice, State.meetClaim, recorded]
  rw [State.acceptNotice, met, State.recheckPending_held collided, State.permitTest_claimed (by simp [collided]),
    State.recheckPending_held collided]

/-- A CLAIM sets the peer's claim and clears its holdoff that wanted the same kind (R64). -/
theorem ViewEntry.take_claim (v : ViewEntry) (k : ClaimKind) (now : Time) (expiry : Deadline) :
    v.take (.claim k) now expiry =
      { v with
        claim := some { kind := k, expiry := expiry }, holdoff := v.holdoff.filter fun m => m.kind != k
        lastHeard := some now } := by
  unfold ViewEntry.take ViewEntry.takeClaim
  rcases v.holdoff with - | m
  · rfl
  · by_cases h : m.kind = k <;> simp [h, Option.filter]

/-- A disturbance flags an item in INDENT or in IMAGE (R34). -/
theorem Cyc.disturbed_current {c : Cyc} {i : Current} (h : c.current = some i) :
    c.disturbed =
      { c with
        gatheredIndent.frameDisturbedIndent := c.gatheredIndent.frameDisturbedIndent || i.phase == .indent
        gatheredMeasure.frameDisturbedImage := c.gatheredMeasure.frameDisturbedImage || i.phase == .image } := by
  obtain ⟨w, p, step⟩ := i
  cases c
  subst h
  cases p <;> simp [Cyc.disturbed, show ∀ p q : Phase, (p == q) = decide (p = q) from fun _ _ => rfl]

/-- A collision under a QUIET claim flags the current item (R34, R74). -/
theorem State.collide_quiet (s : State) (r : Nat) :
    s.collide r .quiet = { s.collide r .motion with cyc := s.cyc.disturbed } := by
  unfold State.collide
  by_cases h : r ∈ s.fcu.collided <;> simp [h, State.signal]

/-- A collision is marked, and a rank that did not collide before joins the collided ranks and is counted (R74). -/
theorem State.collide_motion (s : State) (r : Nat) :
    s.collide r .motion =
      if r ∈ s.fcu.collided then { s with fcu.claimCollision := true }
      else ({ s with fcu.claimCollision := true, fcu.collided := s.fcu.collided ++ [r] } : State).signal .collision 0 := by
  unfold State.collide
  by_cases h : r ∈ s.fcu.collided <;> simp [h]

/-- Settles O39, by the frame read back, the view's entry and the claim that stands. -/
theorem collisionIsRecorded : Obligations.CollisionIsRecorded := by
  intro s r k c hl hr ho hv ha he ht hk hc mark recorded
  rw [exec_frameEnd_notice hl hr ho hv (.inr ha) he ht (.claim k), State.acceptNotice_collides (by exact hk)]
  simp only [State.recordNotice, updateRank, ViewEntry.take_claim]
  cases k with
  | quiet =>
    rw [show ClaimKind.quiet.opposite = .motion from rfl, State.collide_motion]
    have apart : (ClaimKind.quiet == ClaimKind.motion) = false := rfl
    simp [apart, recorded, mark, State.now, State.ahead, ConfigImage.expiryInterval]
  | motion =>
    rw [show ClaimKind.motion.opposite = .quiet from rfl, State.collide_quiet, State.collide_motion,
      Cyc.disturbed_current (c := s.cyc) hc]
    by_cases h : r ∈ s.fcu.collided <;>
      simp [h, recorded, mark, State.now, State.ahead, ConfigImage.expiryInterval, State.signal]

end Sys2Proof.Machine
end

section
/-!
PROOFS. The fields of the configuration image (O14).
-/

-- One theorem after another: each one elaborated beside the others takes a thread with a stack of its own.
set_option Elab.async false

namespace Sys2Proof.Machine

/-! ### Fields of one to four bytes (spec 11.6) -/

section
variable (image : List Byte) (o : Nat)

theorem memNat_one : memNat image o 1 = (memByte image o).toNat := by simp [memNat, memBytes, natOfBytes]

theorem memNat_two : memNat image o 2 = (memByte image o).toNat * 2 ^ 8 + (memByte image (o + 1)).toNat := by
  simp [memNat, memBytes, natOfBytes, List.range_succ]

theorem memNat_three :
    memNat image o 3 =
      (memByte image o).toNat * 2 ^ 16 + (memByte image (o + 1)).toNat * 2 ^ 8 + (memByte image (o + 2)).toNat := by
  simp [memNat, memBytes, natOfBytes, List.range_succ]
  omega

theorem memNat_four :
    memNat image o 4 =
      (memByte image o).toNat * 2 ^ 24 + (memByte image (o + 1)).toNat * 2 ^ 16 + (memByte image (o + 2)).toNat * 2 ^ 8 +
        (memByte image (o + 3)).toNat := by
  simp [memNat, memBytes, natOfBytes, List.range_succ]
  omega

theorem memNat_three_lt : memNat image o 3 < 2 ^ 24 := by
  have h0 := (memByte image o).isLt
  have h1 := (memByte image (o + 1)).isLt
  have h2 := (memByte image (o + 2)).isLt
  rw [memNat_three]
  omega

/-- A signed field of three bytes is read in two's complement. -/
theorem memInt_three :
    memInt image o 3 =
      if memNat image o 3 < 2 ^ 23 then (memNat image o 3 : Int) else (memNat image o 3 : Int) - 2 ^ 24 := by
  have length : (memBytes image o 3).length = 3 := by simp [memBytes]
  have small := memNat_three_lt image o
  unfold memInt intOfBytes
  rw [length]
  change (BitVec.ofNat 24 (memNat image o 3)).toInt = _
  rw [BitVec.toInt_eq_toNat_cond, BitVec.toNat_ofNat, Nat.mod_eq_of_lt small]
  split <;> split <;> omega

theorem memInt_three_bounds : -8388608 ≤ memInt image o 3 ∧ memInt image o 3 ≤ 8388607 := by
  have small := memNat_three_lt image o
  rw [memInt_three]
  split <;> omega

end

/-! ### The nearest allowed value (R29) -/

theorem clampNat_nearest {lower upper : Nat} (h : lower ≤ upper) (value : Nat) :
    clampNat lower upper value = if value < lower then lower else if upper < value then upper else value := by
  unfold clampNat
  split
  · omega
  · split <;> omega

theorem clampInt_nearest {lower upper : Int} (h : lower ≤ upper) (value : Int) :
    clampInt lower upper value = if value < lower then lower else if upper < value then upper else value := by
  unfold clampInt
  split
  · omega
  · split <;> omega

theorem clampNat_range {lower upper : Nat} (value : Nat) (h : lower ≤ upper := by decide) :
    lower ≤ clampNat lower upper value ∧ clampNat lower upper value ≤ upper := by
  unfold clampNat
  omega

theorem clampInt_range {lower upper : Int} (value : Int) (h : lower ≤ upper := by decide) :
    lower ≤ clampInt lower upper value ∧ clampInt lower upper value ≤ upper := by
  unfold clampInt
  omega

/-- A pair of limits stands in order within its range, whichever pair it is. -/
theorem orderedPair_range {least most low high lowDefault highDefault : Int} (hl : least ≤ low ∧ low ≤ most)
    (hh : least ≤ high ∧ high ≤ most) (hd : least ≤ lowDefault ∧ lowDefault < highDefault ∧ highDefault ≤ most) :
    least ≤ (orderedPair low high lowDefault highDefault).1 ∧
      (orderedPair low high lowDefault highDefault).1 < (orderedPair low high lowDefault highDefault).2 ∧
      (orderedPair low high lowDefault highDefault).2 ≤ most := by
  unfold orderedPair
  split
  · exact ⟨hl.1, by assumption, hh.2⟩
  · exact hd

/-- A focus count is odd and no greater than the value it comes from (R137). -/
theorem oddCount_range {n most : Nat} (h : 1 ≤ n ∧ n ≤ most) : oddCount n % 2 = 1 ∧ oddCount n ≤ most := by
  unfold oddCount
  split <;> omega

theorem mem_readPeerSet {b : Byte} {r : Nat} : r ∈ readPeerSet b ↔ 1 ≤ r ∧ r ≤ 7 ∧ b.toNat.testBit r = true := by
  have ranks : r ∈ [1, 2, 3, 4, 5, 6, 7] ↔ 1 ≤ r ∧ r ≤ 7 := by
    simp only [List.mem_cons, List.not_mem_nil, or_false]
    omega
  rw [readPeerSet, List.mem_filter, ranks, BitVec.getLsbD, and_assoc]

/-! ### The slots (R94) -/

theorem readSlots_get {image : List Byte} {i : Nat} (h : i < 6) :
    (readConfigImage image).slots[i]? = some (readSlot image i) := by
  simp [readConfigImage, h]

section
variable {image : List Byte} {i : Nat}

theorem readSlot_vickers (h : memNat image (80 + 40 * i) 1 = 1) :
    readSlot image i = .indenter (readIndenter image (80 + 40 * i) .vickers) := by simp only [readSlot, h]

theorem readSlot_knoop (h : memNat image (80 + 40 * i) 1 = 2) :
    readSlot image i = .indenter (readIndenter image (80 + 40 * i) .knoop) := by simp only [readSlot, h]

theorem readSlot_objective (h : memNat image (80 + 40 * i) 1 = 3) :
    readSlot image i = .objective (readObjective image (80 + 40 * i)) := by simp only [readSlot, h]

theorem readSlot_empty (h : memNat image (80 + 40 * i) 1 = 0 ∨ 3 < memNat image (80 + 40 * i) 1) :
    readSlot image i = .empty := by
  unfold readSlot
  dsimp only
  split
  · omega
  · omega
  · omega
  · rfl

end

/-- A slot's record is EMPTY, or one read at the slot's offset. -/
theorem readSlot_cases (image : List Byte) (i : Nat) :
    readSlot image i = .empty ∨ (∃ o kind, readSlot image i = .indenter (readIndenter image o kind)) ∨
      ∃ o, readSlot image i = .objective (readObjective image o) := by
  unfold readSlot
  dsimp only
  split
  · exact .inr (.inl ⟨_, _, rfl⟩)
  · exact .inr (.inl ⟨_, _, rfl⟩)
  · exact .inr (.inr ⟨_, rfl⟩)
  · exact .inl rfl

theorem mem_readSlots_indenter {image : List Byte} {r : IndenterRecord}
    (h : SlotRecord.indenter r ∈ (readConfigImage image).slots) : ∃ o kind, r = readIndenter image o kind := by
  obtain ⟨i, _, hi⟩ := List.mem_map.mp h
  rcases readSlot_cases image i with he | ⟨o, kind, he⟩ | ⟨o, he⟩
  · cases hi.symm.trans he
  · exact ⟨o, kind, SlotRecord.indenter.inj (hi.symm.trans he)⟩
  · cases hi.symm.trans he

theorem mem_readSlots_objective {image : List Byte} {r : ObjectiveRecord}
    (h : SlotRecord.objective r ∈ (readConfigImage image).slots) : ∃ o, r = readObjective image o := by
  obtain ⟨i, _, hi⟩ := List.mem_map.mp h
  rcases readSlot_cases image i with he | ⟨o, kind, he⟩ | ⟨o, he⟩
  · cases hi.symm.trans he
  · cases hi.symm.trans he
  · exact ⟨o, SlotRecord.objective.inj (hi.symm.trans he)⟩

/-- The two pixel limits of an objective are in order, whichever they are (R154). -/
theorem readObjective_pixels (image : List Byte) (o : Nat) :
    1 ≤ (readObjective image o).minPixels ∧ (readObjective image o).minPixels ≤ (readObjective image o).maxPixels ∧
      (readObjective image o).maxPixels ≤ 1024 := by
  have least := clampNat_range (lower := 1) (upper := 1024) (memNat image (o + 25) 2)
  have most := clampNat_range (lower := 1) (upper := 1024) (memNat image (o + 27) 2)
  simp only [readObjective]
  split
  · exact ⟨least.1, by assumption, most.2⟩
  · decide

/-- Settles O14: each field is the bytes at its offset, clamped. -/
theorem imageFieldsInRange : Obligations.ImageFieldsInRange := by
  unfold Obligations.ImageFieldsInRange
  intro image c byte two three four signed nearest nearestInt inOrder travel
  have one : ∀ o, memNat image o 1 = byte o := memNat_one image
  have hTwo : ∀ o, memNat image o 2 = two o := memNat_two image
  have hThree : ∀ o, memNat image o 3 = three o := memNat_three image
  have hFour : ∀ o, memNat image o 4 = four o := memNat_four image
  have hSigned : ∀ o, memInt image o 3 = signed o := fun o => by rw [memInt_three, hThree]
  have clamped : ∀ {lower upper : Nat} value, lower ≤ upper → clampNat lower upper value = nearest lower upper value :=
    fun value h => clampNat_nearest h value
  have clampedInt : ∀ {lower upper : Int} value, lower ≤ upper → clampInt lower upper value = nearestInt lower upper value :=
    fun value h => clampInt_nearest h value
  have window := fun a b => orderedPair_range (least := -300000) (most := 300000) (lowDefault := -150000) (highDefault := 150000)
    (clampInt_range a) (clampInt_range b) (by decide)
  refine ⟨?_, ?_, ?_⟩
  · simp (disch := decide) only [c, readConfigImage, one, hTwo, hThree, hSigned, clamped, clampedInt, mem_readPeerSet, true_and]
    exact ⟨fun r => Iff.rfl, rfl, rfl, rfl, rfl, trivial⟩
  · intro i hi o dx dy height least most count indenter objective
    have indents : ∀ kind, readIndenter image o kind = indenter kind := by
      intro kind
      unfold readIndenter
      rw [clampedInt _ (by decide), clampedInt _ (by decide), clamped _ (by decide), clamped _ (by decide)]
      rw [hSigned, hSigned, hThree, hThree]
    have looks : readObjective image o = objective := by
      unfold readObjective oddCount
      simp (disch := decide) only [one, hTwo, hThree, hFour, hSigned, clamped, clampedInt]
      rfl
    rw [readSlots_get hi, ← one]
    refine ⟨fun h => ?_, fun h => ?_, fun h => ?_, fun h => ?_⟩
    · rw [readSlot_vickers h, indents]
    · rw [readSlot_knoop h, indents]
    · rw [readSlot_objective h, looks]
    · rw [readSlot_empty h]
  · simp only [c, readConfigImage]
    refine ⟨clampNat_range _, clampNat_range _, clampNat_range _, clampNat_range _, fun r hr => ?_, clampNat_range _,
      window _ _, window _ _, clampNat_range _, clampNat_range _, (clampNat_range _).2, clampNat_range _, clampNat_range _,
      clampNat_range _, clampNat_range _, clampNat_range _, clampNat_range _, clampNat_range _, clampNat_range _,
      clampNat_range _, clampNat_range _, clampNat_range _,
      orderedPair_range (memInt_three_bounds _ _) (memInt_three_bounds _ _) (by decide),
      orderedPair_range (memInt_three_bounds _ _) (memInt_three_bounds _ _) (by decide),
      clampNat_range _, clampNat_range _, (clampNat_range _).2, clampNat_range _, clampNat_range _, rfl, ?_, ?_⟩
    · obtain ⟨least, most, _⟩ := mem_readPeerSet.mp hr
      exact ⟨least, most⟩
    · intro r hr
      obtain ⟨o, kind, rfl⟩ := mem_readSlots_indenter hr
      exact ⟨clampInt_range _, clampInt_range _, (clampNat_range _).2, clampNat_range _⟩
    · intro r hr
      obtain ⟨o, rfl⟩ := mem_readSlots_objective hr
      exact ⟨clampInt_range _, clampInt_range _, (clampNat_range _).2, clampNat_range _, clampNat_range _, clampNat_range _,
        (clampNat_range _).2, (clampNat_range _).2, (clampNat_range _).2, (clampNat_range _).2, readObjective_pixels _ _,
        oddCount_range (clampNat_range _), clampNat_range _, (clampNat_range _).2, (clampNat_range _).2, clampNat_range _⟩

end Sys2Proof.Machine
end

section
/-!
PROOFS. The end of the configuration read (O13).
-/

-- One theorem after another: each one elaborated beside the others takes a thread with a stack of its own.
set_option Elab.async false

namespace Sys2Proof.Machine

/-! ### The ends of START (R30, R31) -/

/-- START goes on while the Force Unit is not RETRACTED (R30). -/
theorem State.tryEndStart_waits {s : State} (h : s.frc.state ≠ .retracted) : s.tryEndStart = s := by
  have notOver : s.startOver = false := by simp [State.startOver, h]
  simp [State.tryEndStart, notOver]

/-- A START with a HALT seen ends in HALTED (R30). -/
theorem State.tryEndStart_halted {s : State} (hm : s.cyc.mode = .start) (hf : s.frc.state = .retracted)
    (hr : s.cyc.configReading = false) (hi : s.cyc.imageHeld = true) (hh : s.cyc.haltSeen = true) :
    s.tryEndStart = { s with cyc.mode := .halted, cyc.haltSeen := false, fcu := s.fcu.halt } := by
  have isOver : s.startOver = true := by simp [State.startOver, hm, hf, hr]
  simp [State.tryEndStart, isOver, hi, hh]

/-- The end of START, with an image held, changes the mode, the halt seen, the unit and the notices alone; the view is the one that
stood, or that view emptied. -/
theorem State.tryEndStart_frame {s : State} (hi : s.cyc.imageHeld = true) : ∃ mode haltSeen fcu notices,
    s.tryEndStart = { s with cyc.mode := mode, cyc.haltSeen := haltSeen, fcu := fcu, fli.notices := notices } ∧
      (fcu.view = s.fcu.view ∨ fcu.view = emptied s.fcu.view) := by
  unfold State.tryEndStart
  split
  · rw [if_neg (by simp [hi])]
    split
    · exact ⟨_, _, _, _, rfl, .inr rfl⟩
    · exact ⟨_, _, _, _, rfl, .inl rfl⟩
  · exact ⟨_, _, _, _, rfl, .inl rfl⟩

/-! ### An image accepted (R26, R29, R62, R130) -/

/-- The state that takes up an image, before it is seen whether START is over (R29). -/
def State.takingImage (s : State) (image : List Byte) : State :=
  let c := readConfigImage image
  { s with
    cfg := c
    cyc := { s.cyc with workMode := c.workMode, batchLimit := c.batchLimit, imageHeld := true, configReading := false }
    fcu.view := emptyView c.peerSet s.fli.rank
    tbu := s.tbu.onImage c.referenceConfigured }

theorem State.configRead_accepts {s : State} {image : List Byte} (hr : s.cyc.configReading = true) (hg : markerGood image = true) :
    s.configRead image = (s.takingImage image).tryEndStart := by
  rw [State.configRead, if_pos hr, if_pos hg]
  rfl

/-- Station time goes on where an image is accepted (R130). -/
theorem Tbu.onImage_stationTime (t : Tbu) (configured : Bool) : (t.onImage configured).stationTime = t.stationTime := by
  unfold Tbu.onImage
  split <;> rfl

/-- An emptied view stays as it is when it is emptied again. -/
theorem emptied_emptyView (peers : List Nat) (rank : Nat) : emptied (emptyView peers rank) = emptyView peers rank := by
  simp [emptied, emptyView, ViewEntry.cleared]

/-- A view of the configured peers has one cleared entry for each (R62). -/
theorem emptyView_entries (peers : List Nat) (rank : Nat) :
    (emptyView peers rank).map (·.rank) = peers.filter (· != rank) ∧
      ∀ v ∈ emptyView peers rank, v.claim = none ∧ v.holdoff = none ∧ v.lastHeard = none := by
  have ranks : (fun v : ViewEntry => v.rank) ∘ ViewEntry.cleared = id := rfl
  refine ⟨by rw [emptyView, List.map_map, ranks, List.map_id], fun v hv => ?_⟩
  obtain ⟨_, _, rfl⟩ := List.mem_map.mp hv
  exact ⟨rfl, rfl, rfl⟩

/-! ### An image refused (R29) -/

/-- With nothing to clear, to release or to abandon nothing changes. -/
theorem State.clear_release_abandon_quiet {s : State} (hq : s.fcu.quietState) (hi : s.img.state = .idle) :
    s.clearNeed.release.abandonImage = s := by
  obtain ⟨hn, hk, hh, hb⟩ := hq
  rw [State.clearNeed_idle hn hb hh (by simp [hk]), State.release_none (by simp [hk]), State.abandonImage_idle (.inl hi)]

/-- A fault at a station where nothing is going on changes its modes, and ends what is left of a sequence. -/
theorem State.stationFault_quiet {s : State} (hm : s.cyc.mode ≠ .faulted) (hf : s.frc.state.inCycle = false)
    (hc : s.cyc.current = none) (hq : s.fcu.quietState) (hi : s.img.state = .idle) (hs : s.mot.stopping = false)
    (cause : FaultCause) :
    s.stationFault cause =
      { s with
        cyc := { s.cyc.dropCurrent with mode := .faulted, fault := cause, batch := none, cue := .none }
        mot := { s.mot with sequence := none, settleEnd := none, moveDeadline := none, stopping := s.mot.moving } } := by
  have stops : s.withForceStop (s.frc.stopForFault s.cfg s.now) = s := by
    rw [Frc.stopForFault_withdrawn _ _ hf]
    rfl
  have faulted : ∀ c : Cyc, State.abandonImage (State.release (State.clearNeed { s with cyc := c })) = { s with cyc := c } :=
    fun c => State.clear_release_abandon_quiet (s := { s with cyc := c }) hq hi
  simp only [State.stationFault, if_neg hm, stops, State.writeAbandoned_idle hc, faulted, Mot.stop_free hs]

/-- Settles O13, by the marker: START may be over with the image held, and the station faults without. -/
theorem configReadDecides : Obligations.ConfigReadDecides := by
  refine ⟨fun image s hr hm hn hg => ?_, fun image s hr hm hn hg hc hq hi hf hmove hs => ?_⟩
  · refine ⟨(s.takingImage image).tryEndStart, ?_, ?_⟩
    · rw [exec_configReadDone, State.act_live hn, State.configRead_accepts hr hg]
    have now : (s.takingImage image).now = s.tbu.stationTime := Tbu.onImage_stationTime _ _
    obtain ⟨entries, cleared⟩ := emptyView_entries (readConfigImage image).peerSet s.fli.rank
    have waits := State.tryEndStart_waits (s := s.takingImage image)
    have halted := State.tryEndStart_halted (s := s.takingImage image) hm
    have ready := State.tryEndStart_ready (s := s.takingImage image) hm
    obtain ⟨mode, haltSeen, fcu, notices, ended, view⟩ := State.tryEndStart_frame (s := s.takingImage image) rfl
    have same : fcu.view = emptyView (readConfigImage image).peerSet s.fli.rank := by
      rcases view with view | view
      · exact view
      · exact view.trans (emptied_emptyView _ _)
    refine ⟨by rw [ended]; rfl, by rw [ended]; rfl, by rw [ended]; rfl, by rw [ended]; rfl, by rw [ended]; rfl,
      ?_, ?_, ?_, ?_, fun hf => ?_, fun hf hh => ?_, fun hf hh => ?_, by rw [ended]; rfl, by rw [ended]; rfl, by rw [ended]; rfl,
      by rw [ended]; rfl, by rw [ended]; rfl, by rw [ended]; rfl⟩
    · rw [ended]
      dsimp only
      rw [same]
      exact entries
    · rw [ended]
      dsimp only
      rw [same]
      exact cleared
    · intro hconf
      rw [ended] at hconf ⊢
      have : (readConfigImage image).referenceConfigured = true := hconf
      simp [State.takingImage, Tbu.onImage, this]
    · intro hconf
      rw [ended] at hconf ⊢
      have : (readConfigImage image).referenceConfigured = false := hconf
      simp [State.takingImage, Tbu.onImage, this]
    · rw [waits hf]
      exact ⟨hm, rfl⟩
    · rw [halted hf rfl rfl hh]
      exact ⟨rfl, rfl, rfl⟩
    · rw [ready hf rfl rfl hh]
      refine ⟨rfl, rfl, ?_, rfl⟩
      simp only [State.enterListenIn, State.queueNotice]
      exact congrArg some (congrArg (fun start => ({ setAt := start, interval := _ } : Deadline)) now)
  · have cycle : s.frc.state.inCycle = false := by rcases hf with hf | hf <;> rw [hf] <;> rfl
    have refused := State.stationFault_quiet (s := { s with cyc.imageHeld := false, cyc.configReading := false })
      (by simp [hm]) cycle hc hq hi hs .configAbsent
    rw [exec_configReadDone, State.act_live hn, State.configRead, if_pos hr, if_neg (by simp [hg]), State.refuseImage, refused]
    simp [Cyc.dropCurrent, hc, hmove, hs]

end Sys2Proof.Machine
end

section
/-!
PROOFS. A granted claim and the work it hands out (O34).
-/

-- One theorem after another: each one elaborated beside the others takes a thread with a stack of its own.
set_option Elab.async false

namespace Sys2Proof.Machine

/-! ### The grant (R58, R82) -/

/-- The CLAIM of a set need that completes with its grant conditions standing is granted (R58). -/
theorem State.claimCompleted_grants {s : State} {k : ClaimKind} {n : Need} (hk : s.fcu.claim = .pending k)
    (hn : s.fcu.need = some n) (hkind : n.kind = k) (ha : s.fcu.state = .active) (hd : s.fcu.doubtUntil = none)
    (hv : ∀ v ∈ s.fcu.view, ∀ m, v.claim = some m → m.kind = k) : s.claimCompleted k = (s.grantClaim k, true) := by
  have unopposed : liveClaim s.fcu.view k.opposite = false := liveClaim_false (by simpa using hv)
  have holds : s.grantHolds k = true := by simp [State.grantHolds, hn, hkind, ha, Fcu.inDoubt, hd, unopposed]
  simp [State.claimCompleted, hk, holds]

/-- A grant makes the current item's step WORKING and hands its work out (R32). -/
theorem State.onGrant_waiting {s : State} {c : Current} (hc : s.cyc.current = some c) (hs : c.step = .waiting) :
    s.onGrant = State.handOut { s with cyc.current := some { c with step := .working } } c := by
  simp [State.onGrant, hc, hs, Cyc.setStep]

/-- The state in which the own CLAIM has just ended on the line (R82, R85). -/
def State.claimSent (s : State) (k : ClaimKind) : State :=
  { s with fli := { s.fli.frameEnded (noticeLine s.fli.rank (.claim k)) with transmitter := none } }

/-- The own CLAIM of a waiting phase that completes with its grant conditions standing hands out the phase's work (R32, R58, R82). -/
theorem exec_ownFrameCompleted_grants {s : State} {k : ClaimKind} {n : Need} {c : Current} (hr : s.resetHeld = false)
    (ht : s.fli.transmitter = some { frame := .notice (.claim k), stale := false, unreported := false })
    (hk : s.fcu.claim = .pending k) (hn : s.fcu.need = some n) (hkind : n.kind = k) (ha : s.fcu.state = .active)
    (hd : s.fcu.doubtUntil = none) (hv : ∀ v ∈ s.fcu.view, ∀ m, v.claim = some m → m.kind = k)
    (hc : s.cyc.current = some c) (hs : c.step = .waiting) :
    exec .ownFrameCompleted s =
      .next (State.handOut { (s.claimSent k).grantClaim k with cyc.current := some { c with step := .working } } c) := by
  have listening : (s.claimSent k).fcu.listening = true := by simp [State.claimSent, Fcu.listening, ha]
  have granted : (s.claimSent k).claimCompleted k = ((s.claimSent k).grantClaim k, true) :=
    State.claimCompleted_grants (s := s.claimSent k) hk hn hkind ha hd hv
  have kept : ((s.claimSent k).grantClaim k).cyc = s.cyc := (OnlyCoordination.endHoldoff (s.claimSent k)).cyc
  have ended : s.ownCompleted = State.reportGrant ((s.claimSent k).noticeCompleted (.claim k) false) := by
    simp only [State.ownCompleted, ht, State.reportCompleted]
    rfl
  rw [exec_ownFrameCompleted, State.act_live hr, ended, ← State.onGrant_waiting (by rw [kept, hc]) hs]
  simp only [State.noticeCompleted, listening, granted, Bool.not_false, Bool.and_true, if_true, State.reportGrant]

/-! ### What a phase is handed (R38, R39, R41, R42) -/

section
variable {s : State} {c : Current}

theorem State.handOut_indent {i : IndentItem} (hw : c.work = .indent i) (hp : c.phase = .indent) :
    s.handOut c = s.startForce i := by simp [State.handOut, hw, hp]

theorem State.handOut_toSite {f : SiteFields} (hp : c.phase = .toSite) (hf : s.fieldsOf c.work = some f) :
    s.handOut c = s.handSequence (s.cfg.siteSequence f) := by simp [State.handOut, hp, hf]

theorem State.handOut_toView {f : SiteFields} (hp : c.phase = .toView) (hf : s.fieldsOf c.work = some f) :
    s.handOut c = s.handSequence (s.cfg.viewSequence f) := by simp [State.handOut, hp, hf]

theorem State.handOut_image {f : SiteFields} (hp : c.phase = .image) (hf : s.fieldsOf c.work = some f) :
    s.handOut c = s.beginImage c.work.site f.objective := by simp [State.handOut, hp, hf]

end

/-! ### Sequences (R96 to R104) -/

theorem ConfigImage.siteSequence_eq {c : ConfigImage} {f : SiteFields} {r : IndenterRecord}
    (h : c.slot f.indenter = .indenter r) :
    c.siteSequence f = .homeZ :: .homeTurret :: .homeCarriage ::
      [.carriageTo (f.x - r.offsetX) (f.y - r.offsetY), .indexTo f.indenter, .rapidTo r.standoff, .settle] := by
  simp [ConfigImage.siteSequence, homings, h, SlotRecord.offset]

theorem ConfigImage.viewSequence_eq {c : ConfigImage} {f : SiteFields} {o : ObjectiveRecord}
    (h : c.slot f.objective = .objective o) :
    c.viewSequence f = .homeZ :: .homeTurret :: .homeCarriage ::
      [.indexTo f.objective, .carriageTo (f.x - o.offsetX) (f.y - o.offsetY), .rapidTo o.focusStart, .settle] := by
  simp [ConfigImage.viewSequence, homings, h, SlotRecord.offset]

section
variable {m : Mot} {c : ConfigImage} {now : Time}

theorem Mot.needsNothing_iff {p : Piece} : m.needsNothing p = true ↔ m.standsAt p := by
  cases p <;> simp [Mot.needsNothing, Mot.standsAt, Option.isSome_iff_ne_none]

/-- The pieces that stand already are passed over (R96). -/
theorem Mot.runPieces_drop {open_ : Bool} (l : List Piece) {n : Nat} (h : ∀ q ∈ l.take n, m.standsAt q) :
    m.runPieces c open_ now l = m.runPieces c open_ now (l.drop n) := by
  induction n generalizing l with
  | zero => rfl
  | succ n ih =>
    cases l with
    | nil => rfl
    | cons p rest =>
      have stands : m.standsAt p := h p (by simp)
      have passed : m.runPieces c open_ now (p :: rest) = m.runPieces c open_ now rest := by
        have := Mot.needsNothing_iff.mpr stands
        cases p
        case settle => exact stands.elim
        all_goals simp [Mot.runPieces, this]
      rw [passed, List.drop_succ_cons]
      exact ih rest fun q hq => h q (by simp [hq])

/-- The first piece that does not stand is the one that is run (R96). -/
theorem Mot.runPieces_first {open_ : Bool} {l : List Piece} {n : Nat} {p : Piece} (hp : l[n]? = some p)
    (h : ∀ q ∈ l.take n, m.standsAt q) :
    m.runPieces c open_ now l = m.runPieces c open_ now (p :: l.drop (n + 1)) := by
  obtain ⟨hn, rfl⟩ := List.getElem?_eq_some_iff.mp hp
  rw [Mot.runPieces_drop l h, List.drop_eq_getElem_cons hn]

/-- An index from one slot to another goes the shorter way round (R99). -/
theorem indexing_shorter {a slot : Nat} (ha : a < 6) (hs : slot < 6) (hne : a ≠ slot) :
    slotsPassed (forwardDistance a slot) = min ((slot + 6 - a) % 6) (6 - (slot + 6 - a) % 6) ∧
      goesPositive (forwardDistance a slot) = decide ((slot + 6 - a) % 6 ≤ 3) := by
  have forward : forwardDistance a slot = (slot + 6 - a) % 6 := by
    unfold forwardDistance
    split <;> omega
  rw [forward]
  refine ⟨?_, rfl⟩
  unfold slotsPassed
  split <;> omega

/-- A piece that moves the axes starts its drive where the interlock is open (R97 to R102). -/
theorem Mot.runPieces_begun {p : Piece} {rest : List Piece} (hn : ¬m.standsAt p) (hi : m.mayIndex p) (hp : p ≠ .settle) :
    m.runPieces c true now (p :: rest) = (m.begun c now p rest, []) := by
  have moves : m.needsNothing p = false := Bool.eq_false_iff.mpr fun h => hn (Mot.needsNothing_iff.mp h)
  have starts : m.runPieces c true now (p :: rest) = m.startPiece c true now p rest := by
    cases p
    case settle => exact absurd rfl hp
    all_goals simp [Mot.runPieces, moves]
  rw [starts, Mot.startPiece, if_pos rfl]
  cases p
  case settle => exact absurd rfl hp
  case indexTo slot =>
    obtain ⟨a, ha, hlt, hs⟩ := hi slot rfl
    have apart : a ≠ slot := fun he => hn (by rw [Mot.standsAt, ha, he])
    obtain ⟨slots, positive⟩ := indexing_shorter hlt hs apart
    simp [Mot.inHand, Mot.drive, Mot.begun, Mot.withDeadline, ha, slots, positive]
  all_goals rfl

end

theorem State.interlockOpen_iff {s : State} : s.interlockOpen = true ↔ s.interlockPasses := by
  have free : ∀ raw, s.cfg.freeSample raw = true ↔ ∃ a, raw = some a ∧ s.cfg.freeMin ≤ a ∧ a ≤ s.cfg.freeMax := by
    intro raw
    cases raw <;> simp [ConfigImage.freeSample, ConfigImage.free]
  simp only [State.interlockOpen, Frc.interlockOpen, Bool.and_eq_true, beq_iff_eq, free, State.interlockPasses]
  constructor
  · rintro ⟨⟨hs, a, ha, ha1, ha2⟩, b, hb, hb1, hb2⟩
    exact ⟨hs, a, b, ha, hb, ha1, ha2, hb1, hb2⟩
  · rintro ⟨hs, a, b, ha, hb, ha1, ha2, hb1, hb2⟩
    exact ⟨⟨hs, a, ha, ha1, ha2⟩, b, hb, hb1, hb2⟩

/-- A sequence whose first piece to be done moves an axis starts that piece's drive (R96, R97). -/
theorem State.handSequence_begun {s : State} {l : List Piece} {n : Nat} {p : Piece} (hp : l[n]? = some p)
    (h : ∀ q ∈ l.take n, s.mot.standsAt q) (hn : ¬s.mot.standsAt p) (hx : s.mot.mayIndex p) (hm : p ≠ .settle)
    (hi : s.interlockPasses) :
    s.handSequence l = { s with mot := s.mot.begun s.cfg s.tbu.stationTime p (l.drop (n + 1)) } := by
  rw [State.handSequence, Mot.runPieces_first hp h, State.interlockOpen_iff.mpr hi, Mot.runPieces_begun hn hx hm]
  rfl

/-- A settle that ends a sequence is its last piece. -/
theorem settle_last {front : List Piece} (hf : Piece.settle ∉ front) {n : Nat}
    (hp : (front ++ [Piece.settle])[n]? = some .settle) : (front ++ [Piece.settle]).drop (n + 1) = [] := by
  by_contra hne
  have inFront : n < front.length := by simpa using hne
  rw [List.getElem?_append_left inFront] at hp
  exact hf (List.mem_of_getElem? hp)

section
variable {s : State} {l : List Piece} {n : Nat} (hp : l[n]? = some .settle) (h : ∀ q ∈ l.take n, s.mot.standsAt q)
include hp h

/-- A sequence with every piece but the settle standing settles at once (R104). -/
theorem State.handSequence_settles (hl : l.drop (n + 1) = []) (ht : 0 < s.cfg.settleTime) :
    s.handSequence l = { s with mot := s.mot.begun s.cfg s.tbu.stationTime .settle (l.drop (n + 1)) } := by
  have starts : s.mot.startSettle s.cfg s.now = (s.mot.begun s.cfg s.tbu.stationTime .settle [], []) :=
    if_neg (Nat.pos_iff_ne_zero.mp ht)
  rw [State.handSequence, Mot.runPieces_first hp h, hl, Mot.runPieces, starts]
  rfl

/-- A settle of 0 ends with the sequence at that moment (R104). -/
theorem State.handSequence_done (ht : s.cfg.settleTime = 0) :
    s.handSequence l = State.onSequenceDone { s with mot := { s.mot with sequence := none } } := by
  have ends : s.mot.startSettle s.cfg s.now = ({ s.mot with sequence := none }, [.sequenceDone]) := if_pos ht
  rw [State.handSequence, Mot.runPieces_first hp h, Mot.runPieces, ends]
  rfl

end

/-- A settle of 0 begun ends as soon as its end is looked at (R104). -/
theorem exec_settleEnd_begun {s : State} (hr : s.resetHeld = false) (ht : s.cfg.settleTime = 0) (hs : s.mot.settleEnd = none)
    (rest : List Piece) :
    exec .settleEnd { s with mot := s.mot.begun s.cfg s.tbu.stationTime .settle rest } =
      .next (State.onSequenceDone { s with mot := { s.mot with sequence := none } }) := by
  have reached : due (some { setAt := s.tbu.stationTime, interval := s.cfg.settleTime }) s.now = true :=
    due_reached (by simp [ht])
  have done : (s.mot.begun s.cfg s.tbu.stationTime .settle rest).settleDone s.now =
      ({ s.mot with sequence := none }, [.sequenceDone]) := by
    have ended : (s.mot.begun s.cfg s.tbu.stationTime .settle rest).settleDone s.now =
        ({ s.mot with sequence := none, settleEnd := none }, [.sequenceDone]) := if_pos reached
    rw [ended, ← hs]
  rw [exec_settleEnd, State.act_live (by exact hr)]
  exact congrArg (fun r => Host.Outcome.next (State.withMotion s r)) done

/-! ### The IMAGE work (R144, R145) -/

theorem Mea.freeSlot_eq {m : Mea} {name : SlotName}
    (h : (name = .a ∧ m.slotA = .free) ∨ (name = .b ∧ m.slotA ≠ .free ∧ m.slotB = .free)) : m.freeSlot? = some name := by
  have taken : ∀ p : ProfileSlot, p ≠ .free → p.isFree = false := by
    intro p hp
    cases p <;> simp_all [ProfileSlot.isFree]
  rcases h with ⟨rfl, ha⟩ | ⟨rfl, ha, hb⟩
  · simp [Mea.freeSlot?, ha, ProfileSlot.isFree]
  · rw [Mea.freeSlot?, taken _ ha, hb]
    rfl

theorem ConfigImage.objective?_of_slot {c : ConfigImage} {i : Nat} {o : ObjectiveRecord} (h : c.slot i = .objective o) :
    c.objective? i = some o := by simp [ConfigImage.objective?, h]

/-- The IMAGE record as the search begins, before its first height is asked for (R144). -/
def Img.searching (i : Img) (o : ObjectiveRecord) (slot : Nat) (name : SlotName) : Img :=
  { i with
    stage := .focus, objective := some slot, reserved := some name, index := 0, positions := some o.positions
    best := none, attempt := 0, illumination := o.illumination }

/-- The IMAGE work reserves a FREE slot and asks for the highest position (R144). -/
theorem State.beginImage_asks {s : State} {site slot : Nat} {name : SlotName} {o : ObjectiveRecord}
    (hn : s.mea.freeSlot? = some name) (ho : s.cfg.slot slot = .objective o) (hf : 0 < o.focusCount) :
    s.beginImage site slot =
      State.askStep { s with mea := s.mea.set name (.filling site), img := s.img.searching o slot name }
        ((o.focusStart : Int) + ((o.focusCount - 1) / 2 : Nat) * o.focusStep) := by
  have objective := ConfigImage.objective?_of_slot ho
  have first : o.positions[0]? = some ((o.focusStart : Int) + ((o.focusCount - 1) / 2 : Nat) * o.focusStep) := by
    obtain ⟨rest, hrest⟩ := Nat.exists_eq_succ_of_ne_zero (Nat.pos_iff_ne_zero.mp hf)
    simp [ObjectiveRecord.positions, hrest, List.range_succ_eq_map]
  simp only [State.beginImage, hn, objective]
  exact State.takePosition_next rfl first

/-- The pieces of a motion phase after the homings, to TO_SITE's and to TO_VIEW's position (R38, R41). -/
def State.phasePieces (s : State) (c : Current) (f : SiteFields) (pieces : List Piece) : Prop :=
  (∃ r, c.phase = .toSite ∧ s.cfg.slot f.indenter = .indenter r ∧
    pieces = [.carriageTo (f.x - r.offsetX) (f.y - r.offsetY), .indexTo f.indenter, .rapidTo r.standoff, .settle]) ∨
  ∃ o, c.phase = .toView ∧ s.cfg.slot f.objective = .objective o ∧
    pieces = [.indexTo f.objective, .carriageTo (f.x - o.offsetX) (f.y - o.offsetY), .rapidTo o.focusStart, .settle]

section
variable {s : State} {c : Current} {f : SiteFields} {pieces : List Piece} (hl : s.phasePieces c f pieces)
include hl

theorem State.handOut_sequence (hf : s.fieldsOf c.work = some f) :
    s.handOut c = s.handSequence (.homeZ :: .homeTurret :: .homeCarriage :: pieces) := by
  rcases hl with ⟨r, hp, hs, rfl⟩ | ⟨o, hp, hs, rfl⟩
  · rw [State.handOut_toSite hp hf, ConfigImage.siteSequence_eq hs]
  · rw [State.handOut_toView hp hf, ConfigImage.viewSequence_eq hs]

/-- Settle ends a phase's sequence, and stands in it once. -/
theorem State.phasePieces_last {n : Nat} (hp : (.homeZ :: .homeTurret :: .homeCarriage :: pieces)[n]? = some Piece.settle) :
    (.homeZ :: .homeTurret :: .homeCarriage :: pieces).drop (n + 1) = [] := by
  rcases hl with ⟨r, -, -, rfl⟩ | ⟨o, -, -, rfl⟩
  · exact settle_last (front := [.homeZ, .homeTurret, .homeCarriage, .carriageTo _ _, .indexTo _, .rapidTo _]) (by simp) hp
  · exact settle_last (front := [.homeZ, .homeTurret, .homeCarriage, .indexTo _, .carriageTo _ _, .rapidTo _]) (by simp) hp

/-- The sequence of a motion phase is run from its first piece that does not stand (R96 to R104). -/
theorem State.handOut_motion (hf : s.fieldsOf c.work = some f) (hr : s.resetHeld = false) {n : Nat} {p : Piece}
    (hp : (.homeZ :: .homeTurret :: .homeCarriage :: pieces)[n]? = some p) {m : Mot} {cfg : ConfigImage} {now : Time}
    (hm : s.mot = m) (hcfg : s.cfg = cfg) (hnow : s.tbu.stationTime = now)
    (h : ∀ q ∈ (.homeZ :: .homeTurret :: .homeCarriage :: pieces).take n, m.standsAt q) (hn : ¬m.standsAt p)
    (hx : m.mayIndex p) (hi : p ≠ .settle → s.interlockPasses) :
    let begun : State :=
      { s with mot := m.begun cfg now p ((.homeZ :: .homeTurret :: .homeCarriage :: pieces).drop (n + 1)) }
    ((p = .settle → 0 < cfg.settleTime) → s.handOut c = begun) ∧
      (p = .settle → cfg.settleTime = 0 → m.settleEnd = none → .next (s.handOut c) = exec .settleEnd begun) := by
  subst hm hcfg hnow
  intro begun
  rw [State.handOut_sequence hl hf]
  refine ⟨fun ht => ?_, fun hs ht hend => ?_⟩
  · by_cases hs : p = .settle
    · subst hs
      exact State.handSequence_settles hp h (State.phasePieces_last hl hp) (ht rfl)
    · exact State.handSequence_begun hp h hn hx hs (hi hs)
  · subst hs
    rw [State.handSequence_done hp h ht]
    exact (exec_settleEnd_begun hr ht hend _).symm

end

/-- The search begins with the highest position: its fine step, or the focus settle or the capture where Z stands there (R144,
R145). -/
theorem State.handOut_search {s : State} {c : Current} {f : SiteFields} {o : ObjectiveRecord} {name : SlotName} {m : Mot} {i : Img}
    {mea : Mea} {cfg : ConfigImage} {now : Time} (hm : s.mot = m) (hi : s.img = i) (hmea : s.mea = mea) (hcfg : s.cfg = cfg)
    (hnow : s.tbu.stationTime = now) (hp : c.phase = .image) (hf : s.fieldsOf c.work = some f)
    (ho : cfg.slot f.objective = .objective o) (hcount : 0 < o.focusCount) (hn : mea.freeSlot? = some name)
    (hz : m.zHomed = true) (hidle : m.zActivity = .idle) (hs : m.stopping = false) {target : Nat}
    (ht : fineTarget ((o.focusStart : Int) + ((o.focusCount - 1) / 2 : Nat) * o.focusStep) = target) :
    let filling : State := { s with mea := mea.set name (.filling c.work.site) }
    let searching := i.searching o f.objective name
    (m.z ≠ target → s.handOut c =
      { filling with
        img := { searching with state := .step }
        mot := { m with zActivity := .fine target, moveDeadline := some { setAt := now, interval := cfg.moveTimeout } } }) ∧
    (m.z = target → o.focusSettle ≠ 0 → s.handOut c =
      { filling with
        img :=
          { searching with
            state := .settle, reachedZ := target, settleEnd := some { setAt := now, interval := o.focusSettle } } }) ∧
    (m.z = target → o.focusSettle = 0 → s.handOut c =
      { filling with
        img :=
          { searching with
            state := .capture, reachedZ := target, ph := [], pv := [], settleEnd := none
            frameWaitEnd := some { setAt := now, interval := 250 } } }) := by
  subst hm hi hmea hcfg hnow ht
  intro filling searching
  have homed := State.askStep_homed (s := { filling with img := searching }) (o := o) (ConfigImage.objective?_of_slot ho) hz hidle hs
  rw [State.handOut_image hp hf, State.beginImage_asks hn ho hcount, homed]
  exact ⟨fun hne => if_pos hne, fun he hd => (if_neg (not_not_intro he)).trans (if_neg hd),
    fun he hd => (if_neg (not_not_intro he)).trans (if_pos hd)⟩

theorem State.fieldsOf_congr {s t : State} (h : t.sst = s.sst) (w : Work) : t.fieldsOf w = s.fieldsOf w := by
  unfold State.fieldsOf
  rw [h]

theorem State.interlockPasses_congr {s t : State} (hf : t.frc = s.frc) (hc : t.cfg = s.cfg) :
    t.interlockPasses ↔ s.interlockPasses := by
  unfold State.interlockPasses
  rw [hf, hc]

theorem State.phasePieces_congr {s t : State} (hc : t.cfg = s.cfg) (c : Current) (f : SiteFields) (pieces : List Piece) :
    t.phasePieces c f pieces ↔ s.phasePieces c f pieces := by
  unfold State.phasePieces
  rw [hc]

/-- Settles O34, by the phase of the granted item. -/
theorem claimGranted : Obligations.ClaimGranted := by
  intro s k n c hr ht hk hn hkind ha hd hv hc hs base granted ahead
  have runs : exec .ownFrameCompleted s = .next (granted.handOut c) := by
    rw [exec_ownFrameCompleted_grants hr ht hk hn hkind ha hd hv hc hs, State.grantClaim, State.endHoldoff_over]
    rfl
  obtain ⟨fcu, notices, transmitter, evc, hb, -⟩ := OnlyCoordination.endHoldoff (s.claimSent k)
  have frame : base = { s.claimSent k with
      fcu := fcu, fli := { (s.claimSent k).fli with notices := notices, transmitter := transmitter }, evc := evc } :=
    (State.endHoldoff_over _).symm.trans hb
  clear_value base
  subst frame
  have kept : granted.cfg = s.cfg ∧ granted.sst = s.sst ∧ granted.mot = s.mot ∧ granted.frc = s.frc ∧ granted.tbu = s.tbu ∧
      granted.img = s.img ∧ granted.mea = s.mea ∧ granted.resetHeld = s.resetHeld := by
    simp only [granted, State.claimSent, and_self]
  clear_value granted
  obtain ⟨cfg, sst, mot, frc, tbu, img, mea, released⟩ := kept
  have fields : ∀ w, granted.fieldsOf w = s.fieldsOf w := State.fieldsOf_congr sst
  have now : granted.tbu.stationTime = s.tbu.stationTime := congrArg Tbu.stationTime tbu
  refine ⟨?_, ?_, ?_⟩
  · intro i _ hw hp force
    rw [runs, State.handOut_indent hw hp, State.startForce, cfg, frc]
    rfl
  · intro f x y slot z pieces hkm hf hpieces sequence n p hp hstand hnot hindex hlock begun
    have stands : s.phasePieces c f pieces := by
      rcases hpieces with ⟨r, hphase, hslot, rfl, rfl, rfl, rfl, rfl⟩ | ⟨o, hphase, hslot, rfl, rfl, rfl, rfl, rfl⟩
      · exact .inl ⟨r, hphase, hslot, rfl⟩
      · exact .inr ⟨o, hphase, hslot, rfl⟩
    obtain ⟨moves, settled⟩ := State.handOut_motion (s := granted) ((State.phasePieces_congr cfg c f pieces).mpr stands)
      ((fields _).trans hf) (released.trans hr) hp mot cfg now hstand hnot hindex
      ((State.interlockPasses_congr frc cfg).mpr ∘ hlock)
    rw [runs]
    exact ⟨fun h => congrArg Host.Outcome.next (moves h), settled⟩
  · intro f o name hkq hphase hf hslot hcount hfree hz hidle hstop highest z searching filling
    obtain ⟨steps, settles, captures⟩ := State.handOut_search mot img mea cfg now hphase ((fields _).trans hf) hslot hcount
      (Mea.freeSlot_eq hfree) hz hidle hstop (target := z) rfl
    rw [runs]
    exact ⟨fun hne => congrArg Host.Outcome.next (steps hne), fun he hd => congrArg Host.Outcome.next (settles he hd),
      fun he hd => congrArg Host.Outcome.next (captures he hd)⟩

end Sys2Proof.Machine
end

section
/-!
PROOFS. The end of settle and of a fine step, and the axes at rest (O51).
-/

-- One theorem after another: each one elaborated beside the others takes a thread with a stack of its own.
set_option Elab.async false

namespace Sys2Proof.Machine

/-! ### A quiet phase begins (R37, R42, R55) -/

theorem Mea.freeSlot_isSome_iff {m : Mea} : m.freeSlot?.isSome = true ↔ m.slotA = .free ∨ m.slotB = .free := by
  have isFree : ∀ p : ProfileSlot, p.isFree = true ↔ p = .free := fun p => by cases p <;> simp [ProfileSlot.isFree]
  rw [← isFree, ← isFree, Mea.freeSlot?]
  by_cases ha : m.slotA.isFree = true
  · simp [ha]
  · by_cases hb : m.slotB.isFree = true <;> simp [ha, hb]

theorem Mea.freeSlot_none {m : Mea} (ha : m.slotA ≠ .free) (hb : m.slotB ≠ .free) : m.freeSlot? = none := by
  rw [← Option.not_isSome_iff_eq_none, Mea.freeSlot_isSome_iff]
  exact fun h => h.elim ha hb

section
variable {s : State} {w : Work}

/-- INDENT with room, or IMAGE with a FREE slot, that begins where nothing forbids it claims QUIET at once. -/
theorem State.enterPhase_claimsQuiet {p : Phase}
    (hp : (p = .indent ∧ s.hasRoom = true) ∨ (p = .image ∧ s.mea.freeSlot?.isSome = true)) (hr : s.atRest = true)
    (hn : s.fcu.need = none) (h0 : s.fcu.claim = .none) (hf : s.fcu.firstFailure .quiet = none) :
    s.enterPhase w p =
      { s with
        cyc := { s.cyc.startGathering p with current := some { work := w, phase := p, step := .waiting } }
        fcu := { s.fcu with need := some { kind := .quiet, since := s.tbu.stationTime }, claim := .pending .quiet, block := none }
        fli.notices := placeNotice (.claim .quiet) s.fli.notices } := by
  have begun : ((({ s with
      cyc := { s.cyc.startGathering p with current := some { work := w, phase := p, step := .waiting } } } : State).cueRoom
        p).openBufferFull p) =
      { s with cyc := { s.cyc.startGathering p with current := some { work := w, phase := p, step := .waiting } } } := by
    rcases hp with ⟨rfl, hroom⟩ | ⟨rfl, hfree⟩
    · have room : State.hasRoom { s with
          cyc := { s.cyc.startGathering .indent with current := some { work := w, phase := .indent, step := .waiting } } } = true := hroom
      simp [State.cueRoom, State.openBufferFull, room]
    · have full : s.mea.freeSlot? ≠ none := Option.isSome_iff_ne_none.mp hfree
      simp [State.cueRoom, State.openBufferFull, full]
  rw [State.enterPhase, begun]
  refine State.trySetNeed_claims (c := { work := w, phase := p, step := .waiting }) rfl rfl ?_ hn hr ?_ h0 hf
  · rcases hp with ⟨rfl, -⟩ | ⟨rfl, -⟩ <;> rfl
  · rcases hp with ⟨rfl, hroom⟩ | ⟨rfl, hfree⟩
    · exact hroom
    · exact hfree

/-- INDENT without room waits with cue ROOM and no need (R37). -/
theorem State.enterPhase_noRoom (h : s.hasRoom = false) :
    s.enterPhase w .indent =
      { s with
        cyc := { s.cyc with
          gatheredIndent := .none, current := some { work := w, phase := .indent, step := .waiting }, cue := .room } } := by
  have room : State.hasRoom { s with cyc := { s.cyc with
      gatheredIndent := .none, current := some { work := w, phase := .indent, step := .waiting } } } = false := h
  have waits : State.phaseReady { s with cyc := { s.cyc with
      gatheredIndent := .none, current := some { work := w, phase := .indent, step := .waiting }, cue := .room } }
        .indent = false := h
  simp only [State.enterPhase, Cyc.startGathering, State.cueRoom, room, and_self, if_true, State.openBufferFull, reduceCtorEq,
    false_and, if_false]
  exact State.trySetNeed_notReady rfl waits

/-- IMAGE with no FREE slot opens a buffer-full episode and sets no need (R42). -/
theorem State.enterPhase_noSlot (h : s.mea.freeSlot? = none) :
    s.enterPhase w .image =
      State.signal { s with
        cyc := { s.cyc with
          gatheredMeasure := .none, current := some { work := w, phase := .image, step := .waiting }, bufferFull := true } }
        .deferral (qualifierBit 2) := by
  have waits : ∀ t : State, t.mea = s.mea → t.phaseReady .image = false := by
    intro t ht
    rw [State.phaseReady, ht, h]
    rfl
  simp only [State.enterPhase, Cyc.startGathering, State.cueRoom, reduceCtorEq, false_and, if_false, State.openBufferFull, h,
    and_self, if_true]
  exact State.trySetNeed_notReady (c := { work := w, phase := .image, step := .waiting }) rfl (waits _ rfl)

end

/-! ### The end of settle (R38, R41, R104) -/

/-- Settle end reached ends the sequence (R104). -/
theorem exec_settleEnd_reached {s : State} {d : Deadline} (hr : s.resetHeld = false) (hd : s.mot.settleEnd = some d)
    (ht : d.interval ≤ (s.tbu.stationTime - d.setAt).toNat) :
    exec .settleEnd s = .next (State.onSequenceDone { s with mot := { s.mot with settleEnd := none, sequence := none } }) := by
  have reached : due s.mot.settleEnd s.now = true := hd ▸ due_reached ht
  rw [exec_settleEnd, State.act_live hr, Mot.settleDone, if_pos reached]
  rfl

theorem exec_settleEnd_early {s : State} {d : Deadline} (hr : s.resetHeld = false) (hd : s.mot.settleEnd = some d)
    (ht : (s.tbu.stationTime - d.setAt).toNat < d.interval) : exec .settleEnd s = .next s := by
  have early : due s.mot.settleEnd s.now = false := hd ▸ due_early ht
  rw [exec_settleEnd, State.act_live hr, Mot.settleDone, if_neg (by simp [early])]
  rfl

theorem State.onSequenceDone_toSite {s : State} {c : Current} (hc : s.cyc.current = some c) (hp : c.phase = .toSite) :
    s.onSequenceDone = s.release.enterPhase c.work .indent := by
  obtain ⟨w, p, step⟩ := c
  subst hp
  simp [State.onSequenceDone, hc]

theorem State.onSequenceDone_toView {s : State} {c : Current} (hc : s.cyc.current = some c) (hp : c.phase = .toView) :
    s.onSequenceDone = s.release.enterPhase c.work .image := by
  obtain ⟨w, p, step⟩ := c
  subst hp
  simp [State.onSequenceDone, hc]

/-- The state in which a motion phase's sequence has ended and its claim is given up (R61, R104). -/
def State.motionOver (s : State) : State :=
  { s with
    mot := { s.mot with settleEnd := none, sequence := none }
    fcu := { s.fcu with claim := .none, claimRefresh := none, collided := [] }
    fli := s.fli.released .motion }

theorem State.release_motionOver {s : State} (hk : s.fcu.claim = .held .motion) (hn : s.fcu.need = none) :
    State.release { s with mot := { s.mot with settleEnd := none, sequence := none } } = s.motionOver :=
  State.release_held (s := { s with mot := { s.mot with settleEnd := none, sequence := none } }) hk hn

section
variable {s : State} {d : Deadline} {c : Current} (hr : s.resetHeld = false) (hd : s.mot.settleEnd = some d)
  (ht : d.interval ≤ (s.tbu.stationTime - d.setAt).toNat) (hc : s.cyc.current = some c)
include hr hd ht hc

theorem exec_settleEnd_toSite (hp : c.phase = .toSite) (hk : s.fcu.claim = .held .motion) (hn : s.fcu.need = none) :
    exec .settleEnd s = .next (s.motionOver.enterPhase c.work .indent) := by
  rw [exec_settleEnd_reached hr hd ht, State.onSequenceDone_toSite (by exact hc) hp, State.release_motionOver hk hn]

theorem exec_settleEnd_toView (hp : c.phase = .toView) (hk : s.fcu.claim = .held .motion) (hn : s.fcu.need = none) :
    exec .settleEnd s = .next (s.motionOver.enterPhase c.work .image) := by
  rw [exec_settleEnd_reached hr hd ht, State.onSequenceDone_toView (by exact hc) hp, State.release_motionOver hk hn]

end

/-! ### The end of a fine step (R103, R145) -/

/-- Z at the target of a fine step that the IMAGE work asked for is reported (R103). -/
theorem State.fineStepDone_reported {s : State} {z : Nat} (hz : s.mot.zActivity = .fine z) (hs : s.mot.stopping = false)
    (hi : s.img.state = .step) :
    s.fineStepDone =
      State.stepReported { s with mot := { s.mot with z := z, zActivity := .idle, moveDeadline := none } } z := by
  have done : s.mot.fineDone = ({ s.mot with z := z, zActivity := .idle, moveDeadline := none }, some z) := by
    simp [Mot.fineDone, hz, hs]
  rw [State.fineStepDone, done]
  exact if_pos hi

/-- The focus settle begins at a fine step's report, or the capture where it is 0 (R141, R145). -/
theorem State.stepReported_in {s : State} {o : ObjectiveRecord} (ho : s.objectiveInUse = some o) (z : Nat) :
    s.stepReported z =
      if o.focusSettle = 0 then State.beginAttempt { s with img.reachedZ := z }
      else { s with img.state := .settle, img.reachedZ := z, img.settleEnd := some (s.ahead o.focusSettle) } := by
  simp only [State.stepReported, ho]

/-! ### The axes at rest (R44, R48, R105) -/

section
variable {s : State} {c : Current}

theorem State.onStopped_idle (h : s.cyc.current = none) : s.onStopped = s := by
  have stands : s.trySetNeed = s := by simp [State.trySetNeed, h]
  simp [State.onStopped, h, stands]

/-- An item that works goes on, and one of INDENT that ends waits for its RETRACTED. -/
theorem State.onStopped_stays (hc : s.cyc.current = some c) (h : c.step = .working ∨ (c.step = .ending ∧ c.phase = .indent)) :
    s.onStopped = s := by
  have stands : s.trySetNeed = s := State.trySetNeed_idle fun d hd => by
    obtain rfl := Option.some.inj (hc.symm.trans hd)
    rcases h with h | ⟨h, -⟩ <;> simp [h]
  obtain ⟨w, p, step⟩ := c
  rcases h with rfl | ⟨rfl, rfl⟩
  · simp [State.onStopped, hc, stands]
  · simp [State.onStopped, hc]

/-- A phase that waits has its need tried (R48). -/
theorem State.onStopped_waiting (hc : s.cyc.current = some c) (h : c.step = .waiting) : s.onStopped = s.trySetNeed := by
  obtain ⟨w, p, step⟩ := c
  subst h
  simp [State.onStopped, hc]

/-- An item in ENDING of any phase but INDENT ends (R44, R105). -/
theorem State.onStopped_ends (hc : s.cyc.current = some c) (h : c.step = .ending) (hp : c.phase ≠ .indent) :
    s.onStopped = s.release.endItem := by
  obtain ⟨w, p, step⟩ := c
  subst h
  cases p <;> simp_all [State.onStopped]

end

/-- The state in which an item has ended and its claim is given up (R26, R61). -/
def State.itemOver (s : State) (k : ClaimKind) : State :=
  { s with
    fcu := { s.fcu with claim := .none, claimRefresh := none, collided := [] }
    fli := s.fli.released k
    cyc := s.cyc.dropCurrent }

section
variable {s : State} {k : ClaimKind}

theorem State.release_endItem (hk : s.fcu.claim = .held k) (hn : s.fcu.need = none) :
    s.release.endItem = (s.itemOver k).continueWork := by
  rw [State.release_held hk hn]
  rfl

theorem State.continueWork_pausing (hc : s.cyc.current = none) (hm : s.cyc.mode = .pausing) :
    s.continueWork = s.pausingNext := by simp [State.continueWork, hc, hm]

/-- After an item's end the entry that becomes current claims MOTION where nothing forbids it (R35, R46). -/
theorem State.itemOver_next {first : Nat} (hm : s.cyc.mode = .pausing ∨ (s.cyc.mode = .running ∧ s.cyc.batch = none))
    (hu : s.undelivered? = some first) (hmay : (s.itemOver k).mayClaimMotion) :
    (s.itemOver k).continueWork =
      State.claimingMotion
        { s.itemOver k with cyc.cue := if s.cyc.mode = .running then .none else (s.itemOver k).cyc.cue } (.listed first) .toView := by
  have next : (s.itemOver k).undelivered? = some first := hu
  rcases hm with hm | ⟨hm, hb⟩
  · have goes : (s.itemOver k).continueWork = (s.itemOver k).enterPhase (.listed first) .toView := by
      rw [State.continueWork_pausing (s := s.itemOver k) rfl hm, State.pausingNext, next]
    rw [goes, State.enterPhase_claiming (.inr rfl) hmay, if_neg (by simp [hm])]
  · rw [State.continueWork_running (s := s.itemOver k) rfl hm, State.choose_listed (s := s.itemOver k) hb next,
      State.enterPhase_claiming (s := { s.itemOver k with cyc.cue := .none }) (.inr rfl) hmay, if_pos hm]

/-- With every entry delivered PAUSING is PAUSED after an item's end, once the Force Unit is RETRACTED (R46). -/
theorem State.itemOver_pausing (hm : s.cyc.mode = .pausing) (hu : s.undelivered? = none) (hn : s.fcu.need = none) :
    (s.itemOver k).continueWork =
      if s.frc.state = .retracted then { s.itemOver k with cyc.mode := .paused } else s.itemOver k := by
  have next : (s.itemOver k).undelivered? = none := hu
  by_cases hf : s.frc.state = .retracted
  · rw [if_pos hf, State.continueWork_paused (s := s.itemOver k) rfl hm next (fun j hj => by cases hj) hn hf]
  · rw [if_neg hf, State.continueWork_pausing (s := s.itemOver k) rfl hm, State.pausingNext, next]
    have busy : (s.itemOver k).nothingToFinish = false := State.nothingToFinish_false (.inr (.inr hf))
    simp [State.checkPaused, busy]

end

theorem Img.stopped_eq (i : Img) : i.stopped = { i with state := if i.state = .ending then .idle else i.state } := by
  unfold Img.stopped
  split <;> rfl

/-! ### What rest leaves of the axes (R105) -/

section
variable {m : Mot} (x y : Int) (z : Nat)

theorem Mot.rest_turret (ht : m.turretActivity ≠ .idle) (hc : m.carriageActivity = .idle) (hz : m.zActivity = .idle) :
    m.rest x y z = { m with turret := none, turretActivity := .idle, stopping := false } := by
  simp [Mot.rest, ht, hc, hz, Mot.movesX, Mot.movesY]

theorem Mot.rest_carriageHoming {xHome yHome : Bool} (ht : m.turretActivity = .idle) (hc : m.carriageActivity = .homing xHome yHome)
    (hz : m.zActivity = .idle) :
    m.rest x y z =
      { m with
        x := if xHome then m.x else x, y := if yHome then m.y else y, carriageHomed := false
        carriageActivity := .idle, stopping := false } := by
  cases xHome <;> cases yHome <;> simp [Mot.rest, ht, hc, hz, Mot.movesX, Mot.movesY]

theorem Mot.rest_carriageMoving {x' y' : Int} (ht : m.turretActivity = .idle) (hc : m.carriageActivity = .moving x' y')
    (hz : m.zActivity = .idle) :
    m.rest x y z =
      { m with
        x := if x' = m.x then m.x else x, y := if y' = m.y then m.y else y, carriageActivity := .idle, stopping := false } := by
  simp [Mot.rest, ht, hc, hz, Mot.movesX, Mot.movesY]

theorem Mot.rest_zHoming (ht : m.turretActivity = .idle) (hc : m.carriageActivity = .idle) (hz : m.zActivity = .homing) :
    m.rest x y z = { m with z := z, zHomed := false, zActivity := .idle, stopping := false } := by
  simp [Mot.rest, ht, hc, hz, Mot.movesX, Mot.movesY]

theorem Mot.rest_zMoving {target : Nat} (ht : m.turretActivity = .idle) (hc : m.carriageActivity = .idle)
    (hz : m.zActivity = .rapid target ∨ m.zActivity = .fine target) :
    m.rest x y z = { m with z := z, zActivity := .idle, stopping := false } := by
  rcases hz with hz | hz <;> simp [Mot.rest, ht, hc, hz, Mot.movesX, Mot.movesY]

end

theorem exec_axesStopped_still {s : State} (hr : s.resetHeld = false) (hs : s.mot.stopping = false) (x y : Int) (z : Nat) :
    exec (.axesStopped x y z) s = .next s := by
  rw [exec_axesStopped, State.act_live hr, State.axesStopped, if_neg (by simp [hs])]

theorem exec_axesStopped_rests {s : State} (hr : s.resetHeld = false) (hs : s.mot.stopping = true) (x y : Int) (z : Nat) :
    exec (.axesStopped x y z) s = .next (State.onStopped { s with mot := s.mot.rest x y z, img := s.img.stopped }) := by
  rw [exec_axesStopped, State.act_live hr, State.axesStopped, if_pos hs]

/-- Settles O51, clause by clause: the settle's end, the fine step's and the rest. -/
theorem settleStepAndRest : Obligations.SettleStepAndRest := by
  intro s hl
  refine ⟨?_, fun d hd ht => exec_settleEnd_early hl.1 hd ht, ?_, ?_, fun hs x y z => exec_axesStopped_still hl.1 hs x y z⟩
  · intro c d hd ht hc _ hk hn done claims unopposed room
    have free : unopposed → s.motionOver.atRest = true ∧ s.motionOver.fcu.firstFailure .quiet = none :=
      fun ⟨ha, hdoubt, hv, hf, hs, hi⟩ => ⟨State.atRest_iff.mpr ⟨hf, hs, hi⟩, Fcu.quietPermitted ha hdoubt hv⟩
    refine ⟨?_, ?_⟩
    · intro i hi hp u
      refine ⟨fun hroom hfree => ?_, fun hroom => ?_⟩
      · obtain ⟨resting, permitted⟩ := free hfree
        rw [exec_settleEnd_toSite hl.1 hd ht hc hp hk hn,
          State.enterPhase_claimsQuiet (s := s.motionOver) (.inl ⟨rfl, State.hasRoom_iff.mpr hroom⟩) resting hn rfl permitted]
        rfl
      · have noRoom : s.motionOver.hasRoom = false := Bool.eq_false_iff.mpr fun h => hroom (State.hasRoom_iff.mp h)
        rw [exec_settleEnd_toSite hl.1 hd ht hc hp hk hn, State.enterPhase_noRoom noRoom]
        rfl
    · intro hp u
      refine ⟨fun hslot hfree => ?_, fun ha hb => ?_⟩
      · obtain ⟨resting, permitted⟩ := free hfree
        rw [exec_settleEnd_toView hl.1 hd ht hc hp hk hn,
          State.enterPhase_claimsQuiet (s := s.motionOver) (.inr ⟨rfl, Mea.freeSlot_isSome_iff.mpr hslot⟩) resting hn rfl permitted]
        rfl
      · rw [exec_settleEnd_toView hl.1 hd ht hc hp hk hn, State.enterPhase_noSlot (s := s.motionOver) (Mea.freeSlot_none ha hb)]
        rfl
  · intro z slot o hz hs hi hslot ho
    have use : s.objectiveInUse = some o := by
      rw [State.objectiveInUse, hslot]
      exact ConfigImage.objective?_of_slot ho
    rw [exec_fineStepComplete, State.act_live hl.1, State.fineStepDone_reported hz hs hi, State.stepReported_in (by exact use)]
    rfl
  · intro x y z hs answers room resting unopposed claims rested
    have rests : ∀ m, s.mot.rest x y z = { m with stopping := false } → rested m := by
      intro m hm
      unfold rested
      intro u
      have runs : exec (.axesStopped x y z) s = .next u.onStopped := by
        rw [exec_axesStopped_rests hl.1 hs, hm, Img.stopped_eq]
      have atRest : u.atRest = true ↔ resting := by
        have image : (if s.img.state = .ending then ImageState.idle else s.img.state) = .idle ↔
            s.img.state = .idle ∨ s.img.state = .ending := by
          by_cases h : s.img.state = .ending <;> simp [h]
        rw [State.atRest_iff]
        exact ⟨fun ⟨hf, _, hi⟩ => ⟨hf, image.mp hi⟩, fun ⟨hf, hi⟩ => ⟨hf, rfl, image.mpr hi⟩⟩
      have permitted : ∀ k, unopposed k → s.fcu.firstFailure k = none := fun k ⟨ha, hd, hv⟩ =>
        Fcu.firstFailure_none ha hd (fun v h => (hv v h).1) (fun v h => (hv v h).2)
      refine ⟨fun hc => ?_, fun c hc => ⟨fun h => ?_, fun hw hn => ⟨fun hr => ?_, fun k hr hu hk hphase => ?_⟩,
        fun k he hp hk hn => ?_⟩⟩
      · exact runs.trans (congrArg _ (State.onStopped_idle (s := u) hc))
      · exact runs.trans (congrArg _ (State.onStopped_stays (s := u) hc h))
      · exact runs.trans (congrArg _ ((State.onStopped_waiting (s := u) hc hw).trans
          (State.trySetNeed_waits (Bool.eq_false_iff.mpr fun h => hr (atRest.mp h)))))
      · obtain ⟨claim, ready⟩ : c.phase.claim = some k ∧ u.phaseReady c.phase = true := by
          rcases hphase with ⟨rfl, hp | hp⟩ | ⟨rfl, hp, -, hroom⟩ | ⟨rfl, hp, hfree⟩
          · exact ⟨by rw [hp]; rfl, by rw [hp]; rfl⟩
          · exact ⟨by rw [hp]; rfl, by rw [hp]; rfl⟩
          · exact ⟨by rw [hp]; rfl, by rw [hp]; exact State.hasRoom_iff.mpr hroom⟩
          · exact ⟨by rw [hp]; rfl, by rw [hp]; exact Mea.freeSlot_isSome_iff.mpr hfree⟩
        exact runs.trans (congrArg _ ((State.onStopped_waiting (s := u) hc hw).trans
          (State.trySetNeed_claims (s := u) hc hw claim hn (atRest.mpr hr) ready hk (permitted k hu))))
      · intro ended delivered
        have ends : exec (.axesStopped x y z) s = .next (u.itemOver k).continueWork := by
          rw [runs, State.onStopped_ends (s := u) hc he hp, State.release_endItem (s := u) hk hn]
        have nothingLeft : delivered → u.undelivered? = none := State.undelivered_none
        refine ⟨fun hm => ?_, fun hm hb hq hd => ?_, fun hm hf hd => ?_, fun hm hf hd => ?_, fun first hfirst hm hr hu => ?_⟩
        · exact ends.trans (congrArg _ (State.continueWork_running (s := u.itemOver k) rfl hm))
        · exact ends.trans (congrArg _ ((State.continueWork_running (s := u.itemOver k) rfl hm).trans
            (State.choose_nothing (s := u.itemOver k) hb (nothingLeft hd) hq)))
        · exact ends.trans (congrArg _ ((State.itemOver_pausing (s := u) hm (nothingLeft hd) hn).trans (if_pos hf)))
        · exact ends.trans (congrArg _ ((State.itemOver_pausing (s := u) hm (nothingLeft hd) hn).trans (if_neg hf)))
        · obtain ⟨hf, -, hi⟩ := State.atRest_iff.mp (atRest.mpr hr)
          obtain ⟨ha, hdoubt, hv⟩ := hu
          exact ends.trans (congrArg _ (State.itemOver_next (s := u) hm hfirst ⟨hf, rfl, hi, ha, hdoubt, hn, rfl, hv⟩))
    refine ⟨fun hc hz => ⟨fun ht => ?_, fun target slots positive ht => ?_⟩, fun ht hz => ⟨fun xHome yHome hc => ?_, fun x' y' hc => ?_⟩,
      fun ht hc => ⟨fun hz => ?_, fun target hz => ?_⟩⟩
    · exact rests _ (Mot.rest_turret x y z (by simp [ht]) hc hz)
    · exact rests _ (Mot.rest_turret x y z (by simp [ht]) hc hz)
    · exact rests _ (Mot.rest_carriageHoming x y z ht hc hz)
    · exact rests _ (Mot.rest_carriageMoving x y z ht hc hz)
    · exact rests _ (Mot.rest_zHoming x y z ht hc hz)
    · exact rests _ (Mot.rest_zMoving x y z ht hc hz)

end Sys2Proof.Machine
end

section
/-!
PROOFS. The permit test (O33): its first failing condition, the holdoff that a failing test tries, and that neither a further test nor a
recheck changes what a test has settled.
-/

-- One theorem after another: each one elaborated beside the others takes a thread with a stack of its own.
set_option Elab.async false

namespace Sys2Proof.Machine

/-! ### The first failing condition (R55) -/

section
variable {f : Fcu} {k : ClaimKind}

theorem Fcu.firstFailure_listenIn (h : f.state ≠ .active) : f.firstFailure k = some .listenIn := if_pos h

theorem Fcu.firstFailure_doubt (h : f.state = .active) (hd : f.doubtUntil ≠ none) : f.firstFailure k = some .doubt := by
  have doubt : f.inDoubt = true := Option.isSome_iff_ne_none.mpr hd
  simp [Fcu.firstFailure, h, doubt]

theorem Fcu.firstFailure_peerClaim (h : f.state = .active) (hd : f.doubtUntil = none)
    (hc : ∃ v ∈ f.view, ∃ m, v.claim = some m ∧ m.kind = k.opposite) : f.firstFailure k = some .peerClaim := by
  simp [Fcu.firstFailure, h, Fcu.inDoubt, hd, liveClaim_iff.mpr hc]

theorem Fcu.firstFailure_peerHoldoff (h : f.state = .active) (hd : f.doubtUntil = none)
    (hc : ¬∃ v ∈ f.view, ∃ m, v.claim = some m ∧ m.kind = k.opposite)
    (hh : ∃ v ∈ f.view, ∃ m, v.holdoff = some m ∧ m.kind = k.opposite) : f.firstFailure k = some .peerHoldoff := by
  simp [Fcu.firstFailure, h, Fcu.inDoubt, hd, Bool.eq_false_iff.mpr (mt liveClaim_iff.mp hc), liveHoldoff_iff.mpr hh]

theorem Fcu.firstFailure_passes (h : f.state = .active) (hd : f.doubtUntil = none)
    (hc : ¬∃ v ∈ f.view, ∃ m, v.claim = some m ∧ m.kind = k.opposite)
    (hh : ¬∃ v ∈ f.view, ∃ m, v.holdoff = some m ∧ m.kind = k.opposite) : f.firstFailure k = none := by
  simp [Fcu.firstFailure, h, Fcu.inDoubt, hd, Bool.eq_false_iff.mpr (mt liveClaim_iff.mp hc),
    Bool.eq_false_iff.mpr (mt liveHoldoff_iff.mp hh)]

end

/-! ### The holdoff tried at a failing test (R71) -/

section
variable {s : State} {n : Need} {c : BlockCause}

theorem State.holdoffAllowed_iff :
    s.holdoffAllowed n = true ↔
      s.cfg.patience ≤ (s.tbu.stationTime - n.since).toNat ∧ s.fcu.claim = .none ∧ s.fcu.holdoff = .none ∧
        s.fcu.state = .active ∧ s.fcu.doubtUntil = none ∧
        ¬∃ v ∈ s.fcu.view, ∃ m, v.holdoff = some m ∧ m.kind = n.kind.opposite := by
  rw [← liveHoldoff_iff, State.holdoffAllowed]
  simp only [Bool.and_eq_true, decide_eq_true_eq, beq_iff_eq, Bool.not_eq_true', Fcu.inDoubt, Option.isSome_eq_false_iff,
    Option.isNone_iff_eq_none, Bool.not_eq_true, and_assoc]
  rfl

theorem State.holdoff_barred
    (h : s.cfg.patience ≤ (s.tbu.stationTime - n.since).toNat → s.fcu.claim = .none → s.fcu.holdoff = .none →
      s.fcu.state = .active → s.fcu.doubtUntil = none →
      ∃ v ∈ s.fcu.view, ∃ m, v.holdoff = some m ∧ m.kind = n.kind.opposite) : s.holdoffAllowed n = false := by
  rw [Bool.eq_false_iff, Ne, State.holdoffAllowed_iff]
  rintro ⟨patient, unclaimed, unheld, active, sure, unopposed⟩
  exact unopposed (h patient unclaimed unheld active sure)

theorem State.holdoff_impatient (h : (s.tbu.stationTime - n.since).toNat < s.cfg.patience) : s.holdoffAllowed n = false :=
  State.holdoff_barred fun patient => absurd patient (Nat.not_le.mpr h)

theorem State.holdoff_inHand (h : s.fcu.holdoff ≠ .none) : s.holdoffAllowed n = false :=
  State.holdoff_barred fun _ _ unheld => absurd unheld h

theorem State.holdoff_inactive (h : s.fcu.state ≠ .active) : s.holdoffAllowed n = false :=
  State.holdoff_barred fun _ _ _ active => absurd active h

theorem State.holdoff_inDoubt (h : s.fcu.doubtUntil ≠ none) : s.holdoffAllowed n = false :=
  State.holdoff_barred fun _ _ _ _ sure => absurd sure h

theorem State.holdoff_opposed (h : ∃ v ∈ s.fcu.view, ∃ m, v.holdoff = some m ∧ m.kind = n.kind.opposite) :
    s.holdoffAllowed n = false :=
  State.holdoff_barred fun _ _ _ _ _ => h

@[simp] theorem State.tryHoldoff_claim (s : State) : s.tryHoldoff.fcu.claim = s.fcu.claim := by
  unfold State.tryHoldoff
  repeat' split
  all_goals rfl

/-! ### A test that fails (R55, R71) -/

/-- A failing test that may not hold off leaves the need blocked, and nothing else. -/
theorem State.permitTest_blocked (hn : s.fcu.need = some n) (hc : s.fcu.claim = .none)
    (hf : s.fcu.firstFailure n.kind = some c) (hb : s.holdoffAllowed n = false) : s.permitTest = s.blockOn c := by
  rw [State.permitTest_fails hn hc hf, State.blockOn_tryHoldoff_barred c hn hb]

/-- A failing test that may hold off queues HOLDOFF too. -/
theorem State.permitTest_holdsOff (hn : s.fcu.need = some n) (hc : s.fcu.claim = .none)
    (hf : s.fcu.firstFailure n.kind = some c) (hb : s.holdoffAllowed n = true) :
    s.permitTest =
      { s.blockOn c with
        fcu := { s.fcu with block := some c, holdoff := .queued n.kind }
        fli := { s.fli with notices := placeNotice (.holdoff n.kind) s.fli.notices } } := by
  rw [State.permitTest_fails hn hc hf, State.blockOn_tryHoldoff_queued c hn hb]
  simp only [State.blockOn_fli]

end

/-- A need that is blocked with a cause is not blocked with it again. -/
theorem State.blockOn_known {s : State} {c : BlockCause} (h : s.fcu.block = some c) : s.blockOn c = s := if_pos h

/-- A test that fails with the cause of the standing episode, and may not hold off, changes nothing. -/
theorem State.permitTest_stays {s : State} {n : Need} {c : BlockCause} (hn : s.fcu.need = some n) (hc : s.fcu.claim = .none)
    (hf : s.fcu.firstFailure n.kind = some c) (hb : s.holdoffAllowed n = false) (hk : s.fcu.block = some c) :
    s.permitTest = s := by
  rw [State.permitTest_blocked hn hc hf hb, State.blockOn_known hk]

/-- A need that met the permit test meets it again with nothing more done. -/
theorem State.permitTest_again (s : State) : s.permitTest.permitTest = s.permitTest := by
  by_cases hc : s.fcu.claim = .none
  · cases hn : s.fcu.need with
    | none => simp only [State.permitTest_no_need hn]
    | some n =>
      cases hf : s.fcu.firstFailure n.kind with
      | none =>
        rw [State.permitTest_passes hn hc hf]
        exact State.permitTest_claimed (by simp)
      | some c =>
        cases hb : s.holdoffAllowed n with
        | false =>
          rw [State.permitTest_blocked hn hc hf hb]
          exact State.permitTest_stays (n := n) (c := c) (by simp [hn]) (by simp [hc]) (by rw [State.blockOn_fcu]; exact hf)
            (by simp [hb]) (by simp)
        | true =>
          rw [State.permitTest_holdsOff hn hc hf hb]
          exact State.permitTest_stays (n := n) (c := c) hn hc hf (State.holdoff_inHand (by simp)) rfl
  · simp only [State.permitTest_claimed hc]

/-! ### The recheck of a PENDING claim (R57) -/

/-- The state with a queued CLAIM withdrawn and counted, and own claim NONE (R57). -/
def State.claimWithdrawn (s : State) : State :=
  { s with
    fcu.claim := .none
    fli.notices := s.fli.notices.filter fun q => !q.isClaim }.signal .withdrawn (qualifierBit 0)

section
variable {s : State} {k : ClaimKind} {c : BlockCause}

theorem State.claimQueued_iff : s.claimQueued = true ↔ ∃ q ∈ s.fli.notices, q.isClaim = true := List.any_eq_true

theorem State.claimQueued_false (h : ∀ q ∈ s.fli.notices, q.isClaim = false) : s.claimQueued = false := by
  simpa [State.claimQueued] using h

theorem State.recheckPending_notPending (h : ∀ j, s.fcu.claim ≠ .pending j) : s.recheckPending = s := by
  unfold State.recheckPending
  split
  · next j hj => exact absurd hj (h j)
  · rfl

theorem State.recheckPending_none (h : s.fcu.claim = .none) : s.recheckPending = s :=
  State.recheckPending_notPending (by simp [h])

/-- A PENDING claim whose CLAIM is on the line stays. -/
theorem State.recheckPending_onLine (h : s.claimQueued = false) : s.recheckPending = s := by
  unfold State.recheckPending
  split <;> simp [h]

/-- A PENDING claim that nothing stands against stays. -/
theorem State.recheckPending_permitted (hk : s.fcu.claim = .pending k) (hf : s.fcu.firstFailure k = none) :
    s.recheckPending = s := by
  simp [State.recheckPending, hk, hf]

/-- A queued PENDING claim that something stands against is withdrawn and counted, and the need waits. -/
theorem State.recheckPending_withdraws (hk : s.fcu.claim = .pending k) (hq : ∃ q ∈ s.fli.notices, q.isClaim = true)
    (hf : s.fcu.firstFailure k = some c) : s.recheckPending = s.claimWithdrawn.permitTest := by
  have queued := State.claimQueued_iff.mpr hq
  simp only [State.recheckPending, hk, queued, hf, Option.isSome_some, Bool.and_self, if_true, State.withdrawClaim]
  rfl

/-- A test leaves no queued claim to withdraw where there was none. -/
theorem State.permitTest_rechecked (h : s.recheckPending = s) : s.permitTest.recheckPending = s.permitTest := by
  by_cases hc : s.fcu.claim = .none
  · cases hn : s.fcu.need with
    | none => rw [State.permitTest_no_need hn, h]
    | some n =>
      cases hf : s.fcu.firstFailure n.kind with
      | none =>
        rw [State.permitTest_passes hn hc hf]
        exact State.recheckPending_permitted (k := n.kind) rfl hf
      | some c =>
        rw [State.permitTest_fails hn hc hf]
        exact State.recheckPending_none (by simp [hc])
  · rw [State.permitTest_claimed hc, h]

/-- A PENDING claim that was checked is checked again with nothing more done. -/
theorem State.recheckPending_again (s : State) : s.recheckPending.recheckPending = s.recheckPending := by
  by_cases hp : ∃ k, s.fcu.claim = .pending k
  · obtain ⟨k, hk⟩ := hp
    by_cases hq : ∃ q ∈ s.fli.notices, q.isClaim = true
    · cases hf : s.fcu.firstFailure k with
      | none => simp only [State.recheckPending_permitted hk hf]
      | some c =>
        rw [State.recheckPending_withdraws hk hq hf]
        exact State.permitTest_rechecked (State.recheckPending_none rfl)
    · have unqueued : s.claimQueued = false := Bool.eq_false_iff.mpr (mt State.claimQueued_iff.mp hq)
      simp only [State.recheckPending_onLine unqueued]
  · simp only [State.recheckPending_notPending (not_exists.mp hp)]

/-- A recheck and a test settle the claim, so that a further recheck changes nothing (R57, R63). -/
theorem State.recheckPending_permitTest_settles (s : State) :
    s.recheckPending.permitTest.recheckPending = s.recheckPending.permitTest :=
  State.permitTest_rechecked (State.recheckPending_again s)

end

/-- Settles O33, by the first of the four conditions that fails. -/
theorem permitTestDecides : Obligations.PermitTestDecides := by
  intro s n hn hc active doubt claimed heldOff blocked
  refine ⟨fun ha hd hcl hh => ?_, fun early => ?_⟩
  · exact State.permitTest_passes hn hc (Fcu.firstFailure_passes ha (not_not.mp hd) hcl hh)
  · have waits : ∀ c, s.fcu.firstFailure n.kind = some c → blocked c := fun c hf =>
      State.permitTest_blocked hn hc hf (State.holdoff_impatient early)
    exact ⟨fun ha => waits _ (Fcu.firstFailure_listenIn ha), fun ha hd => waits _ (Fcu.firstFailure_doubt ha hd),
      fun ha hd hcl => waits _ (Fcu.firstFailure_peerClaim ha (not_not.mp hd) hcl),
      fun ha hd hcl hh => waits _ (Fcu.firstFailure_peerHoldoff ha (not_not.mp hd) hcl hh)⟩

end Sys2Proof.Machine
end

section
/-!
PROOFS. The ends of own frames: a CLAIM that completes without a grant (O35), and a frame that ends with an error (O36).
-/

-- One theorem after another: each one elaborated beside the others takes a thread with a stack of its own.
set_option Elab.async false

namespace Sys2Proof.Machine

/-! ### An own notice that completes (R58, R63, R82) -/

theorem Fcu.listening_iff {f : Fcu} : f.listening = true ↔ f.state = .listenIn ∨ f.state = .active := by
  simp [Fcu.listening]

/-- An own notice that ends on the line leaves the transmitter empty and is reported to the unit (R63, R82, R85). -/
theorem exec_ownFrameCompleted_notice {s : State} {n : Notice} {stale : Bool} {sent : Fli} (hr : s.resetHeld = false)
    (ht : s.fli.transmitter = some { frame := .notice n, stale := stale, unreported := false })
    (hs : sent = { s.fli.frameEnded (noticeLine s.fli.rank n) with transmitter := none }) :
    exec .ownFrameCompleted s = .next (State.reportGrant (State.noticeCompleted { s with fli := sent } n stale)) := by
  rw [exec_ownFrameCompleted, State.act_live hr, hs]
  simp only [State.ownCompleted, ht, State.reportCompleted]
  rfl

theorem State.grantHolds_iff {s : State} {k : ClaimKind} :
    s.grantHolds k = true ↔
      (∃ n, s.fcu.need = some n ∧ n.kind = k) ∧ s.fcu.state = .active ∧ s.fcu.doubtUntil = none ∧
        ¬∃ v ∈ s.fcu.view, ∃ m, v.claim = some m ∧ m.kind = k.opposite := by
  rw [← liveClaim_iff]
  cases hn : s.fcu.need <;> simp [State.grantHolds, hn, Fcu.inDoubt, and_assoc]

theorem State.grantHolds_refused {s : State} {k : ClaimKind}
    (h : ∀ n, s.fcu.need = some n → n.kind = k → s.fcu.state = .active → s.fcu.doubtUntil = none →
      ∃ v ∈ s.fcu.view, ∃ m, v.claim = some m ∧ m.kind = k.opposite) : s.grantHolds k = false := by
  rw [Bool.eq_false_iff, Ne, State.grantHolds_iff]
  rintro ⟨⟨n, hn, hkind⟩, active, sure, unclaimed⟩
  exact unclaimed (h n hn hkind active sure)

section
variable {s : State} {k : ClaimKind} {sent : Fli} (hr : s.resetHeld = false)
  (ht : s.fli.transmitter = some { frame := .notice (.claim k), stale := false, unreported := false })
  (hs : sent = { s.fli.frameEnded (noticeLine s.fli.rank (.claim k)) with transmitter := none })
  (ha : s.fcu.state = .listenIn ∨ s.fcu.state = .active)
include hr ht hs ha

/-- The own CLAIM that completes without a grant leaves what its completion sets. -/
theorem exec_ownFrameCompleted_ungranted {t : State} (h : State.claimCompleted { s with fli := sent } k = (t, false)) :
    exec .ownFrameCompleted s = .next t := by
  have listening : s.fcu.listening = true := Fcu.listening_iff.mpr ha
  rw [exec_ownFrameCompleted_notice hr ht hs]
  simp [State.noticeCompleted, listening, h, State.reportGrant]

/-- The completed refresh of a HELD claim sets the next one (R60). -/
theorem exec_ownFrameCompleted_held (hk : s.fcu.claim = .held k) :
    exec .ownFrameCompleted s =
      .next { s with
        fli := sent
        fcu.claimRefresh := some { setAt := s.tbu.stationTime, interval := s.cfg.refreshInterval } } :=
  exec_ownFrameCompleted_ungranted hr ht hs ha (by simp [State.claimCompleted, hk, State.ahead, State.now])

/-- A PENDING claim without its grant is taken back, and its need meets the permit test (R58). -/
theorem exec_ownFrameCompleted_takenBack (hk : s.fcu.claim = .pending k) (hg : s.grantHolds k = false) :
    exec .ownFrameCompleted s =
      .next (State.permitTest { s with
        fli := { sent with notices := placeNotice (.release k) s.fli.notices }, fcu.claim := .none }) := by
  have notices : sent.notices = s.fli.notices := by rw [hs]; rfl
  rw [← notices]
  have refused : State.grantHolds { s with fli := sent } k = false := hg
  have back : State.claimCompleted { s with fli := sent } k = (State.takeBackClaim { s with fli := sent } k, false) := by
    simp [State.claimCompleted, hk, refused]
  exact exec_ownFrameCompleted_ungranted hr ht hs ha back

end

/-- Settles O35, by the grant condition that fails and the permit test that follows. -/
theorem claimCompletionWithoutGrant : Obligations.ClaimCompletionWithoutGrant := by
  intro s k stale hr ht ha answers sent takenBack blocked
  have hs : sent = { s.fli.frameEnded (noticeLine s.fli.rank (.claim k)) with transmitter := none } := rfl
  clear_value sent
  refine ⟨fun fresh hk => ?_, fun fresh hk => ?_, fun hk => ?_⟩
  · subst fresh
    have back : s.grantHolds k = false → answers takenBack.permitTest := exec_ownFrameCompleted_takenBack hr ht hs ha hk
    refine ⟨fun hn => ?_, fun n hn => ?_⟩
    · exact (back (State.grantHolds_refused (by simp [hn]))).trans (congrArg _ (State.permitTest_no_need hn))
    · have waits : ∀ c, takenBack.fcu.firstFailure n.kind = some c → takenBack.holdoffAllowed n = false →
          takenBack.permitTest = blocked c := fun c hf hb => State.permitTest_blocked hn rfl hf hb
      refine ⟨fun hl => ?_, fun hactive hd => ?_, fun hactive hd => ?_⟩
      · have inactive : s.fcu.state ≠ .active := by simp [hl]
        exact (back (State.grantHolds_refused fun _ _ _ h => absurd h inactive)).trans
          (congrArg _ (waits _ (Fcu.firstFailure_listenIn inactive) (State.holdoff_inactive inactive)))
      · exact (back (State.grantHolds_refused fun _ _ _ _ h => absurd h hd)).trans
          (congrArg _ (waits _ (Fcu.firstFailure_doubt hactive hd) (State.holdoff_inDoubt hd)))
      · intro claimed heldOff patient
        have refused : claimed ∨ n.kind ≠ k → s.grantHolds k = false := by
          refine fun h => State.grantHolds_refused fun n' hn' hkind _ _ => ?_
          obtain rfl : n = n' := Option.some.inj (hn.symm.trans hn')
          exact hkind ▸ h.resolve_right fun hne => hne hkind
        have allowed : takenBack.holdoffAllowed n = true ↔ patient := by
          rw [State.holdoffAllowed_iff]
          exact ⟨fun ⟨hp, _, hh, _, _, ho⟩ => ⟨hp, hh, ho⟩, fun ⟨hp, hh, ho⟩ => ⟨hp, rfl, hh, hactive, hd, ho⟩⟩
        refine ⟨fun hc hp => ?_, fun hc hp => ?_, fun hc hne hh => ?_, fun hc hne hh => ?_⟩
        · exact (back (refused (.inl hc))).trans (congrArg _ (waits _ (Fcu.firstFailure_peerClaim hactive hd hc)
            (Bool.eq_false_iff.mpr (mt allowed.mp hp))))
        · exact (back (refused (.inl hc))).trans (congrArg _ (State.permitTest_holdsOff (s := takenBack) hn rfl
            (Fcu.firstFailure_peerClaim hactive hd hc) (allowed.mpr hp)))
        · exact (back (refused (.inr hne))).trans (congrArg _ (waits _ (Fcu.firstFailure_peerHoldoff hactive hd hc hh)
            (State.holdoff_opposed hh)))
        · exact (back (refused (.inr hne))).trans (congrArg _ (State.permitTest_passes (s := takenBack) hn rfl
            (Fcu.firstFailure_passes hactive hd hc hh)))
  · subst fresh
    exact exec_ownFrameCompleted_held hr ht hs ha hk
  · have nothing : State.noticeCompleted { s with fli := sent } (.claim k) stale = ({ s with fli := sent }, none) := by
      simp [State.noticeCompleted, State.claimCompleted, hk]
    exact (exec_ownFrameCompleted_notice hr ht hs).trans (by rw [nothing]; rfl)

/-! ### Doubt at a set need (R70) -/

/-- A set need is blocked with cause doubt, unless it is already. -/
theorem State.blockNeed_eq (s : State) :
    s.blockNeed =
      if s.fcu.need = none ∨ s.fcu.block = some .doubt then s
      else { s with fcu.block := some .doubt }.signal .block (qualifierBit 2) := by
  unfold State.blockNeed
  cases hn : s.fcu.need with
  | none => exact (if_pos (.inl rfl)).symm
  | some n =>
    by_cases hb : s.fcu.block = some .doubt
    · exact (State.blockOn_known hb).trans (if_pos (.inr hb)).symm
    · exact (if_neg hb).trans (if_neg (not_or.mpr ⟨Option.some_ne_none n, hb⟩)).symm

/-- The block changes the need's episode alone, so that other fields of the record can be set before it or after it. -/
theorem State.blockNeed_after {s : State} (g : Fcu → Fcu) (hn : (g s.fcu).need = s.fcu.need)
    (hb : (g s.fcu).block = s.fcu.block) (hg : ∀ b, g { s.fcu with block := b } = { g s.fcu with block := b }) :
    { s.blockNeed with fcu := g s.blockNeed.fcu } = State.blockNeed { s with fcu := g s.fcu } := by
  rw [State.blockNeed_eq, State.blockNeed_eq]
  by_cases h : s.fcu.need = none ∨ s.fcu.block = some .doubt
  · have h' : (g s.fcu).need = none ∨ (g s.fcu).block = some .doubt := by rwa [hn, hb]
    rw [if_pos h, if_pos h']
  · have h' : ¬((g s.fcu).need = none ∨ (g s.fcu).block = some .doubt) := by rwa [hn, hb]
    rw [if_neg h, if_neg h']
    exact congrArg (fun f => State.signal { s with fcu := f } .block (qualifierBit 2)) (hg (some .doubt))

@[simp] theorem State.blockNeed_claim (s : State) : s.blockNeed.fcu.claim = s.fcu.claim := by
  unfold State.blockNeed
  split
  · rw [State.blockOn_fcu]
  · rfl

@[simp] theorem State.blockNeed_holdoff (s : State) : s.blockNeed.fcu.holdoff = s.fcu.holdoff := by
  unfold State.blockNeed
  split
  · rw [State.blockOn_fcu]
  · rfl

@[simp] theorem State.blockNeed_fli (s : State) : s.blockNeed.fli = s.fli := by
  unfold State.blockNeed
  split
  · rw [State.blockOn_fli]
  · rfl

theorem State.blockNeed_again (s : State) : s.blockNeed.blockNeed = s.blockNeed := by
  cases hn : s.fcu.need with
  | none => simp only [State.blockNeed, hn]
  | some n => simp only [State.blockNeed, hn, State.blockOn_fcu, State.blockOn_known]

/-- In doubt the permit test blocks the need and does nothing else (R55, R71). -/
theorem State.permitTest_inDoubt {s : State} (ha : s.fcu.state = .active) (hd : s.fcu.doubtUntil ≠ none)
    (hc : s.fcu.claim = .none) : s.permitTest = s.blockNeed := by
  cases hn : s.fcu.need with
  | none => simp [State.permitTest_no_need hn, State.blockNeed, hn]
  | some n =>
    rw [State.permitTest_blocked hn hc (Fcu.firstFailure_doubt ha hd) (State.holdoff_inDoubt hd)]
    simp [State.blockNeed, hn]

theorem State.dropQueuedHoldoff_notQueued {s : State} (h : ∀ j, s.fcu.holdoff ≠ .queued j) : s.dropQueuedHoldoff = s := by
  unfold State.dropQueuedHoldoff
  split
  · next j hj => exact absurd hj (h j)
  · rfl

/-- With no frame in the transmitter none is stale. -/
theorem State.markStale_empty {s : State} (ht : s.fli.transmitter = none) (p : Notice → Bool) : s.markStale p = s := by
  rw [State.markStale, ht, Option.map_none, ← ht]

/-- A QUEUED holdoff whose frame has left both the queue and the transmitter becomes NONE uncounted (R71). -/
theorem State.dropQueuedHoldoff_gone {s : State} {j : ClaimKind} (hj : s.fcu.holdoff = .queued j)
    (hq : ∀ q ∈ s.fli.notices, q.isHoldoff = false) (ht : s.fli.transmitter = none) :
    s.dropQueuedHoldoff = { s with fcu.holdoff := .none } := by
  have unqueued : s.holdoffQueued = false := by simpa [State.holdoffQueued] using hq
  have unmarked := State.markStale_empty ht Notice.isHoldoff
  simp only [State.dropQueuedHoldoff, hj, State.withdrawHoldoff, unqueued, Bool.false_eq_true, if_false, unmarked]

/-- The state with doubt-until one doubt interval ahead (R70). -/
def State.doubting (s : State) : State := { s with fcu.doubtUntil := some (s.ahead s.cfg.doubtInterval) }

section
variable {s : State} {j : ClaimKind}

theorem State.beginDoubt_eq (ha : s.fcu.state = .listenIn ∨ s.fcu.state = .active) :
    s.beginDoubt = s.doubting.recheckPending.dropQueuedHoldoff.blockNeed := if_pos ha

/-- Doubt with no CLAIM and no HOLDOFF to take back blocks the need (R70). -/
theorem State.beginDoubt_blocks (ha : s.fcu.state = .listenIn ∨ s.fcu.state = .active)
    (hc : (∀ j, s.fcu.claim ≠ .pending j) ∨ ∀ q ∈ s.fli.notices, q.isClaim = false) (hh : ∀ j, s.fcu.holdoff ≠ .queued j) :
    s.beginDoubt = s.doubting.blockNeed := by
  have rechecked : s.doubting.recheckPending = s.doubting := by
    rcases hc with hc | hq
    · exact State.recheckPending_notPending hc
    · exact State.recheckPending_onLine (State.claimQueued_false hq)
  rw [State.beginDoubt_eq ha, rechecked, State.dropQueuedHoldoff_notQueued (by exact hh)]

/-- Doubt withdraws the queued CLAIM of a PENDING claim (R57, R70). -/
theorem State.beginDoubt_withdraws (ha : s.fcu.state = .active) (hk : s.fcu.claim = .pending j)
    (hq : ∃ q ∈ s.fli.notices, q.isClaim = true) (hh : ∀ j, s.fcu.holdoff ≠ .queued j) :
    s.beginDoubt = s.doubting.claimWithdrawn.blockNeed := by
  have doubt : s.doubting.fcu.doubtUntil ≠ none := Option.some_ne_none _
  have rechecked := State.recheckPending_withdraws (s := s.doubting) hk hq (Fcu.firstFailure_doubt ha doubt)
  rw [State.permitTest_inDoubt (by exact ha) (by exact doubt) rfl] at rechecked
  rw [State.beginDoubt_eq (.inr ha), rechecked, State.dropQueuedHoldoff_notQueued (by rw [State.blockNeed_holdoff]; exact hh),
    State.blockNeed_again]

/-- Doubt with the frame of a QUEUED holdoff lost leaves own holdoff NONE (R59, R70). -/
theorem State.beginDoubt_holdoffLost (ha : s.fcu.state = .listenIn ∨ s.fcu.state = .active)
    (hc : ∀ j, s.fcu.claim ≠ .pending j) (hq : ∀ q ∈ s.fli.notices, q.isHoldoff = false) (ht : s.fli.transmitter = none) :
    { s.beginDoubt with fcu.holdoff := .none, fcu.holdoffRefresh := none } =
      State.blockNeed { s.doubting with fcu.holdoff := .none, fcu.holdoffRefresh := none } := by
  have rechecked : s.doubting.recheckPending = s.doubting := State.recheckPending_notPending hc
  have clears := fun u : State =>
    State.blockNeed_after (s := u) (fun f => { f with holdoff := .none, holdoffRefresh := none }) rfl rfl fun _ => rfl
  rw [State.beginDoubt_eq ha, rechecked, clears]
  by_cases hj : ∃ j, s.fcu.holdoff = .queued j
  · obtain ⟨j, hj⟩ := hj
    rw [State.dropQueuedHoldoff_gone (s := s.doubting) hj hq ht]
  · rw [State.dropQueuedHoldoff_notQueued (s := s.doubting) (not_exists.mp hj)]

end

/-! ### An own frame that ends with an error (R59, R82) -/

/-- The state in which an own frame has just ended with an error, after some levels (R78, R82, R85). -/
def State.frameLost (s : State) (since : List Bool) : State :=
  { s with
    fli :=
      { s.fli with
        transmitter := none, engine := .sync, idleCount := 0, runLength := (s.fli.sees since).runLength + 1 } }

theorem exec_ownFrameError_lost {s : State} {t : Transmission} (hr : s.resetHeld = false) (ht : s.fli.transmitter = some t)
    (since : List Bool) : exec (.ownFrameError since) s = .next ((s.frameLost since).reportFailed t) := by
  have carried : (s.fli.dominantAfter since).transmitter = some t := by rw [Fli.dominantAfter_transmitter, ht]
  rw [exec_ownFrameError, State.act_live hr]
  simp only [State.ownMismatched, ht, Option.isSome_some, if_true, State.ownFailed, carried]
  rw [Fli.dominantAfter_eq]
  rfl

/-! A lost notice of a unit that listens begins doubt, and a CLAIM and a HOLDOFF are then acted on (R59). -/

section
variable {s : State} (ha : s.fcu.state = .listenIn ∨ s.fcu.state = .active)
include ha

theorem State.noticeFailed_claim (k : ClaimKind) : s.noticeFailed (.claim k) = s.beginDoubt.claimFailed :=
  if_pos (Fcu.listening_iff.mpr ha)

theorem State.noticeFailed_holdoff (k : ClaimKind) :
    s.noticeFailed (.holdoff k) = { s.beginDoubt with fcu.holdoff := .none, fcu.holdoffRefresh := none } :=
  if_pos (Fcu.listening_iff.mpr ha)

theorem State.noticeFailed_release (k : ClaimKind) : s.noticeFailed (.release k) = s.beginDoubt :=
  if_pos (Fcu.listening_iff.mpr ha)

theorem State.noticeFailed_hello (cause : HelloCause) : s.noticeFailed (.hello cause) = s.beginDoubt :=
  if_pos (Fcu.listening_iff.mpr ha)

end

/-- The lost CLAIM of a PENDING claim leaves own claim NONE, with its need blocked by the doubt (R59). -/
theorem State.claimFailed_pending {s : State} {k : ClaimKind} (ha : s.fcu.state = .active) (hd : s.fcu.doubtUntil ≠ none)
    (hk : s.fcu.claim = .pending k) (hq : ∀ q ∈ s.fli.notices, q.isClaim = false) :
    s.blockNeed.claimFailed = State.blockNeed { s with fcu.claim := .none } := by
  have unqueued : s.blockNeed.claimQueued = false := State.claimQueued_false (by simpa using hq)
  have failed : s.blockNeed.claimFailed = State.permitTest { s.blockNeed with fcu.claim := .none } := by
    simp [State.claimFailed, hk, unqueued]
  have blockedFirst := State.blockNeed_after (s := s) (fun f => { f with claim := .none }) rfl rfl fun _ => rfl
  have tested : State.permitTest { s with fcu.claim := .none } = State.blockNeed { s with fcu.claim := .none } :=
    State.permitTest_inDoubt ha hd rfl
  rw [failed, blockedFirst, ← tested, State.permitTest_again]

/-- The lost refresh of a HELD claim sets the next one (R59). -/
theorem State.claimFailed_held {s : State} {k : ClaimKind} (hk : s.fcu.claim = .held k) :
    s.blockNeed.claimFailed = State.blockNeed { s with fcu.claimRefresh := some (s.ahead s.cfg.refreshInterval) } := by
  have same : s.blockNeed.ahead s.blockNeed.cfg.refreshInterval = s.ahead s.cfg.refreshInterval := by
    unfold State.blockNeed
    split <;> simp [State.ahead, State.now]
  have failed : s.blockNeed.claimFailed =
      { s.blockNeed with fcu.claimRefresh := some (s.ahead s.cfg.refreshInterval) } := by
    simp [State.claimFailed, hk, same]
  rw [failed]
  exact State.blockNeed_after (fun f => { f with claimRefresh := some (s.ahead s.cfg.refreshInterval) }) rfl rfl fun _ => rfl

/-- Settles O36, by the kind of the frame lost and the claim and holdoff that stand. -/
theorem ownFrameErrorBeginsDoubt : Obligations.OwnFrameErrorBeginsDoubt := by
  intro s frame stale since hr ha ht doubtful blocked
  have lost := exec_ownFrameError_lost hr ht since
  have blocks : ∀ u : State, u.blockNeed = blocked u := State.blockNeed_eq
  have doubts : (s.frameLost since).doubting = doubtful := rfl
  have listens : (s.frameLost since).fcu.state = .listenIn ∨ (s.frameLost since).fcu.state = .active := .inr ha
  refine ⟨fun hh => ⟨fun plain => ?_, ?_⟩, ?_⟩
  · have begins : (s.frameLost since).reportFailed { frame, stale, unreported := false } = (s.frameLost since).beginDoubt := by
      rcases plain with ⟨m, rfl, hm⟩ | ⟨k, rfl⟩ | ⟨cause, rfl⟩
      · simp [State.reportFailed, hm]
      · exact State.noticeFailed_release listens k
      · exact State.noticeFailed_hello listens cause
    refine ⟨fun hc => ?_, fun j hj hq => ?_⟩
    · rw [lost, begins, State.beginDoubt_blocks listens (.inl hc) hh, blocks, doubts]
    · rw [lost, begins, State.beginDoubt_withdraws (s := s.frameLost since) ha hj hq hh, blocks, doubts]
      rfl
  · rintro k rfl
    have fails : (s.frameLost since).reportFailed { frame := .notice (.claim k), stale, unreported := false } =
        (s.frameLost since).beginDoubt.claimFailed := State.noticeFailed_claim listens k
    refine ⟨fun hk hq => ?_, fun hk => ?_⟩
    · have failed := State.claimFailed_pending (s := doubtful) ha (Option.some_ne_none _) hk hq
      rw [lost, fails, State.beginDoubt_blocks listens (.inr hq) hh, doubts, failed, blocks]
    · have failed := State.claimFailed_held (s := doubtful) hk
      have held : ∀ j, s.fcu.claim ≠ .pending j := by simp [hk]
      rw [lost, fails, State.beginDoubt_blocks listens (.inl held) hh, doubts, failed, blocks]
      rfl
  · rintro k rfl hc hq
    have fails : (s.frameLost since).reportFailed { frame := .notice (.holdoff k), stale, unreported := false } =
        { (s.frameLost since).beginDoubt with fcu.holdoff := .none, fcu.holdoffRefresh := none } :=
      State.noticeFailed_holdoff listens k
    rw [lost, fails, State.beginDoubt_holdoffLost listens hc hq rfl, blocks, doubts]

end Sys2Proof.Machine
end

section
/-!
PROOFS. Frames of others and runs on the line: a request at the end of its frame (O31), and what damage and stray frames count (O40).
-/

-- One theorem after another: each one elaborated beside the others takes a thread with a stack of its own.
set_option Elab.async false

namespace Sys2Proof.Machine

/-! ### A frame at its end, by its destination (R86) -/

/-- A frame that is not the station's own is judged with the measures of its levels. -/
theorem exec_frameEnd_judged {s : State} {f : LinkFrame} {heard : Fli} (hr : s.resetHeld = false)
    (hp : f.payload.length ≤ 32) (he : s.fli.engine = .receiving) (ht : s.fli.transmitter = none)
    (hh : heard = s.fli.frameEnded f.line) : exec (.frameEnd f.line) s = .next (State.judgeOther { s with fli := heard } f) := by
  rw [exec_frameEnd, State.act_live hr, State.frameEnd_other (readFrame_line hp) he ht, hh]

section
variable {s : State} {f : LinkFrame} (hg : f.checkGood = true)
include hg

theorem State.judgeOther_good : s.judgeOther f = s.judgeDestination f := if_neg (by simp [hg])

/-- A frame to a reserved destination is stray. -/
theorem State.judgeOther_reserved (hd : 8 ≤ f.dest.toNat ∧ f.dest.toNat ≤ 14) : s.judgeOther f = s.linkError 3 :=
  (State.judgeOther_good hg).trans (if_pos hd)

/-- A frame to another node is dropped. -/
theorem State.judgeOther_elsewhere (hd : f.dest.toNat < 8) (ho : ¬s.own f.dest) : s.judgeOther f = s := by
  have notAll : f.dest ≠ 15#4 := fun h => by simp [h] at hd
  have other : f.dest.toNat ≠ s.fli.rank := ho
  have unreserved : ¬(8 ≤ f.dest.toNat ∧ f.dest.toNat ≤ 14) := by omega
  rw [State.judgeOther_good hg, State.judgeDestination, if_neg unreserved, if_neg (by simp [State.addressed, notAll, other])]

/-- A frame to the station or to all is handed on, and a PENDING claim is checked again (R57, R87). -/
theorem State.judgeOther_taken (h1 : 1 ≤ s.fli.rank) (h7 : s.fli.rank ≤ 7) (ho : s.own f.dest ∨ f.dest = 15#4) :
    s.judgeOther f = (s.handOn f).recheckPending := by
  have unreserved : ¬(8 ≤ f.dest.toNat ∧ f.dest.toNat ≤ 14) := by
    rcases ho with ho | ho
    · have : f.dest.toNat = s.fli.rank := ho
      omega
    · simp [ho]
  have addressed : s.addressed f.dest = true := by
    have ranked : s.fli.rank ≠ 0 := by omega
    simpa [State.addressed, ranked, or_comm] using ho
  rw [State.judgeOther_good hg, State.judgeDestination, if_neg unreserved, if_pos addressed]

end

/-! ### Requests (R86, R87, R166) -/

/-- A request frame has the effect of the command that its kind byte and payload are handled as. -/
theorem exec_frameEnd_request {s : State} {f : LinkFrame} {c : Instr} (hl : s.live) (hp : f.payload.length ≤ 32)
    (hg : f.checkGood = true) (hm : f.isMessage = true) (h0 : f.sender = 0) (ho : s.own f.dest ∨ f.dest = 15#4)
    (he : s.fli.engine = .receiving) (ht : s.fli.transmitter = none)
    (hc : ∀ u : State, exec c u = u.act fun u => u.takeRequest f.dest f.kind f.payload) :
    ∃ t, exec c { s with fli := s.fli.frameEnded f.line } = .next t ∧ exec (.frameEnd f.line) s = .next t.recheckPending := by
  obtain ⟨hr, h1, h7⟩ := hl
  generalize hh : s.fli.frameEnded f.line = heard
  have rank : heard.rank = s.fli.rank := by rw [← hh, Fli.frameEnded_rank]
  have hl' : State.live { s with fli := heard } := ⟨hr, rank ▸ h1, rank ▸ h7⟩
  have ho' : State.own { s with fli := heard } f.dest ∨ f.dest = 15#4 :=
    ho.imp_left fun h => h.trans rank.symm
  refine ⟨_, (hc _).trans (State.act_live (by exact hr) _), ?_⟩
  have handed : State.handOn { s with fli := heard } f = State.handleRequest { s with fli := heard } f.dest f.kind f.payload := by
    rw [State.handOn, if_neg (by simp [hm]), if_pos h0]
  rw [exec_frameEnd_judged hr hp he ht hh.symm, State.judgeOther_taken hg (rank ▸ h1) (rank ▸ h7) ho', handed,
    State.takeRequest_taken hl' ho']

/-- Settles O31, by the one handler behind the frame and behind each request's own command. -/
theorem requestFrameTaken : Obligations.RequestFrameTaken := by
  intro f s hp hg hm h0 hl ho he ht carried
  have carries : ∀ c : Instr, (∀ u : State, exec c u = u.act fun u => u.takeRequest f.dest f.kind f.payload) → carried c :=
    fun c hc => exec_frameEnd_request hl hp hg hm h0 ho he ht hc
  exact ⟨fun hk => carries _ fun u => hk ▸ exec_planSite u _ _, fun hk => carries _ fun u => hk ▸ exec_planRemeasure u _ _,
    fun hk => carries _ fun u => hk ▸ exec_planWithdraw u _ _, fun hk => carries _ fun u => hk ▸ exec_mapClear u _ _,
    fun hk => carries _ fun u => hk ▸ exec_start u _ _, fun hk => carries _ fun u => hk ▸ exec_pause u _ _,
    fun hk => carries _ fun u => hk ▸ exec_resume u _ _, fun hk => carries _ fun u => hk ▸ exec_abortSite u _ _,
    fun hk => carries _ fun u => hk ▸ exec_restart u _ _, fun hk => carries _ fun u => hk ▸ exec_refReselect u _ _,
    fun hk => carries _ fun u => hk ▸ exec_setMode u _ _, fun hk => carries _ fun u => hk ▸ exec_queryStatus u _ _,
    fun hk => carries _ fun u => hk ▸ exec_queryEntry u _ _, fun hk => carries _ fun u => hk ▸ exec_queryCounters u _ _,
    fun hk => carries _ fun u => hk ▸ exec_setCounter u _ _, fun _ => carries _ fun u => exec_unknownKind u _ _ _⟩

/-! ### Notices that are not recorded (R63, R176) -/

theorem HelloCause.ofCode?_none {n : Nat} (h : 2 < n) : HelloCause.ofCode? n = none := by
  unfold HelloCause.ofCode?
  split
  · omega
  · omega
  · omega
  · rfl

theorem ClaimKind.ofCode?_none {n : Nat} (h : 1 < n) : ClaimKind.ofCode? n = none := by
  unfold ClaimKind.ofCode?
  split
  · omega
  · omega
  · rfl

/-- What no notice decodes from: another kind, another length, or a payload byte beyond the kind's codes (R176). -/
theorem decodeNotice_none {kind : Byte} {payload : List Byte}
    (h : kind = 0#8 ∨ 4 < kind.toNat ∨ payload.length ≠ 1 ∨ (kind = 1#8 ∧ 2 < (payload.headD 0#8).toNat) ∨
      (kind ≠ 1#8 ∧ 1 < (payload.headD 0#8).toNat)) : decodeNotice kind payload = none := by
  match payload, h with
  | [], _ => rfl
  | _ :: _ :: _, _ => rfl
  | [b], h =>
    have kinds : kind.toNat = 0 ∨ 4 < kind.toNat ∨ (kind.toNat = 1 ∧ 2 < b.toNat) ∨ (kind.toNat ≠ 1 ∧ 1 < b.toNat) := by
      have zero : kind = 0#8 ↔ kind.toNat = 0 := BitVec.toNat_inj.symm
      have one : kind = 1#8 ↔ kind.toNat = 1 := BitVec.toNat_inj.symm
      simpa [zero, one] using h
    simp only [decodeNotice]
    split
    · rw [HelloCause.ofCode?_none (by omega), Option.map_none]
    · rw [ClaimKind.ofCode?_none (by omega), Option.map_none]
    · rw [ClaimKind.ofCode?_none (by omega), Option.map_none]
    · rw [ClaimKind.ofCode?_none (by omega), Option.map_none]
    · rfl

section
variable {s : State} {f : LinkFrame}

/-- A notice that bears the own rank (R63). -/
theorem State.noticeTaken_duplicate (ha : s.fcu.state = .listenIn ∨ s.fcu.state = .active) (hs : f.sender = s.fli.rank) :
    s.noticeTaken f = State.linkError { s with fcu.duplicateRank := true } 4 :=
  (if_pos (Fcu.listening_iff.mpr ha)).trans (if_pos hs)

/-- A notice of an unknown sender, to the own rank alone, or undecodable is stray (R63, R176). -/
theorem State.noticeTaken_stray (ha : s.fcu.state = .listenIn ∨ s.fcu.state = .active) (hs : f.sender ≠ s.fli.rank)
    (h : (¬∃ v ∈ s.fcu.view, v.rank = f.sender) ∨ f.dest ≠ 15#4 ∨ decodeNotice f.kind f.payload = none) :
    s.noticeTaken f = s.linkError 3 := by
  have known : s.fcu.knows f.sender = true ↔ ∃ v ∈ s.fcu.view, v.rank = f.sender := by simp [Fcu.knows]
  rw [State.noticeTaken, if_pos (Fcu.listening_iff.mpr ha), if_neg hs]
  by_cases hu : s.fcu.knows f.sender = false ∨ f.dest ≠ 15#4
  · rw [if_pos hu]
  · obtain ⟨hk, hd⟩ := not_or.mp hu
    have undecodable : decodeNotice f.kind f.payload = none := by
      rcases h with h | h | h
      · exact absurd (known.mp (by simpa using hk)) h
      · exact absurd h hd
      · exact h
    rw [if_neg hu, undecodable]

/-- A unit that does not listen discards a notice (R53, R75). -/
theorem State.noticeTaken_silent (ha : s.fcu.state = .inactive ∨ s.fcu.state = .halted) : s.noticeTaken f = s := by
  have silent : ¬s.fcu.listening = true := by
    rw [Fcu.listening_iff]
    rcases ha with h | h <;> simp [h]
  exact if_neg silent

end

/-! ### Runs and lengths (R79, R85, R86, R88) -/

theorem State.countRun_framing {s : State} {n : Nat} (h : 9 ≤ n ∧ n ≤ 16) : s.countRun n = (s.linkError 1).beginDoubt := by
  rw [State.countRun, if_neg (by omega), if_pos (by omega)]

theorem State.countRun_malformed {s : State} {n : Nat} (h : (17 ≤ n ∧ n ≤ 49) ∨ (151 ≤ n ∧ n ≤ 499)) :
    s.countRun n = (s.linkError 2).beginDoubt := by
  rw [State.countRun, if_neg (by omega), if_neg (by omega)]
  rcases h with h | h
  · rw [if_pos (by omega)]
  · rw [if_neg (by omega), if_neg (by omega), if_pos (by omega)]

theorem State.countRun_halt {s : State} {n : Nat} (h : 500 ≤ n) : s.countRun n = s := by
  rw [State.countRun, if_neg (by omega), if_neg (by omega), if_neg (by omega), if_neg (by omega), if_neg (by omega)]

theorem exec_dominantRunEnd_counted {s : State} {n : Nat} (hr : s.resetHeld = false) (h : 9 ≤ n) :
    exec (.dominantRunEnd n) s =
      .next (State.countRun { s with fli := { s.fli with engine := .sync, idleCount := 1, runLength := 0 } } n) := by
  rw [exec_dominantRunEnd, State.act_live hr, State.runEnd, if_pos h]

theorem headLine_three (a b c : Byte) :
    headLine [a, b, c] = stuff 0 (false :: (byteBits a ++ byteBits b ++ byteBits c)) := by
  simp [headLine]

/-- The reading of a frame given up: SYNC, and READY at once on an idle line (R85). -/
theorem Fli.givenUp_eq (f : Fli) (levels : List Bool) :
    f.givenUp levels = { f.measured levels with engine := if recessiveTail levels = 12 then .ready else .sync } := by
  simp [Fli.givenUp, EngineState.atIdle]

/-- Settles O40, by the check, the destination and the class of the frame, and by the length of the run. -/
theorem lineErrorsCounted : Obligations.LineErrorsCounted := by
  rintro s ⟨hr, h1, h7⟩ runOver
  refine ⟨fun f hp he ht => ?_, fun a k l hl he => ?_, fun n h9 h16 => ?_, fun n h => ?_, fun n h => ?_⟩
  · have judged := exec_frameEnd_judged hr hp he ht rfl
    refine ⟨fun hb => ?_, fun hg h8 h14 => ?_, ?_⟩
    · exact judged.trans (congrArg _ (if_pos hb))
    · exact judged.trans (congrArg _ (State.judgeOther_reserved hg ⟨h8, h14⟩))
    · intro hg heard answers listening known undecodable
      have taken : ∀ u : State, s.own f.dest ∨ f.dest = 15#4 → heard.handOn f = u → answers u.recheckPending :=
        fun u ho hu => judged.trans (congrArg _ (by rw [← hu]; exact State.judgeOther_taken (s := heard) hg h1 h7 ho))
      refine ⟨fun hd ho => ?_, fun ho => ⟨fun hm h0 => ?_, fun hm => ?_⟩⟩
      · exact judged.trans (congrArg _ (State.judgeOther_elsewhere (s := heard) hg hd ho))
      · exact taken _ ho ((if_neg (by simp [hm])).trans (if_neg h0))
      · have notice : heard.handOn f = heard.noticeTaken f := if_pos hm
        refine ⟨fun ha hs => ?_, fun ha hs h => ?_, fun ha hc => ?_⟩
        · exact taken _ ho (notice.trans (State.noticeTaken_duplicate ha hs))
        · exact taken _ ho (notice.trans (State.noticeTaken_stray ha hs (h.imp_right (Or.imp_right decodeNotice_none))))
        · have silent := taken heard ho (notice.trans (State.noticeTaken_silent ha))
          rwa [State.recheckPending_none (by exact hc)] at silent
  · rw [exec_lengthAbove32, State.act_live hr, State.badLength, if_pos ⟨he, hl⟩, headLine_three, Fli.givenUp_eq]
    rfl
  · rw [exec_dominantRunEnd_counted hr h9, State.countRun_framing ⟨h9, h16⟩]
    rfl
  · rw [exec_dominantRunEnd_counted hr (by omega), State.countRun_malformed h]
    rfl
  · rw [exec_dominantRunEnd_counted hr (by omega), State.countRun_halt h]

end Sys2Proof.Machine
end

section
/-!
PROOFS. The notices of peers: RELEASE and HELLO (O37), CLAIM and HOLDOFF (O38).
-/

-- One theorem after another: each one elaborated beside the others takes a thread with a stack of its own.
set_option Elab.async false

namespace Sys2Proof.Machine

/-! ### A notice in its sender's entry (R64 to R67) -/

section
variable (v : ViewEntry) (k : ClaimKind) (now : Time) (expiry : Deadline)

/-- A RELEASE clears the peer's claim of its kind (R65). -/
theorem ViewEntry.take_release :
    v.take (.release k) now expiry =
      { v with claim := v.claim.filter fun m => m.kind != k, lastHeard := some now } := by
  unfold ViewEntry.take ViewEntry.takeRelease
  rcases v.claim with - | m
  · rfl
  · by_cases h : m.kind = k <;> simp [h, Option.filter]

/-- A HOLDOFF sets the peer's holdoff (R66). -/
theorem ViewEntry.take_holdoff :
    v.take (.holdoff k) now expiry =
      { v with holdoff := some { kind := k, expiry := expiry }, lastHeard := some now } := rfl

/-- A HELLO clears the peer's entry (R67). -/
theorem ViewEntry.take_hello (cause : HelloCause) :
    v.take (.hello cause) now expiry = { v with claim := none, holdoff := none, lastHeard := some now } := rfl

end

/-- The state with a notice of rank `r` on the line ended, and `f` done to that rank's entry (R63, R85). -/
def State.heard (s : State) (r : Nat) (n : Notice) (f : ViewEntry → ViewEntry) : State :=
  { s with
    fli := s.fli.frameEnded (noticeLine r n)
    fcu.view := s.fcu.view.map fun (v : ViewEntry) =>
      if v.rank = r then { f v with lastHeard := some s.tbu.stationTime } else v }

/-- The sender's entry stands in the view with the notice in it. -/
theorem State.sender_mem_heard {s : State} {v : ViewEntry} (hv : v ∈ s.fcu.view) (n : Notice) (f : ViewEntry → ViewEntry) :
    { f v with lastHeard := some s.tbu.stationTime } ∈ (s.heard v.rank n f).fcu.view :=
  List.mem_map.mpr ⟨v, hv, if_pos rfl⟩

/-- An entry of the view then is one that stood in it before, or the sender's with the notice in it. -/
theorem State.mem_heard {s : State} {r : Nat} {n : Notice} {f : ViewEntry → ViewEntry} {w : ViewEntry}
    (h : w ∈ (s.heard r n f).fcu.view) :
    ∃ v ∈ s.fcu.view, w = v ∨ w = { f v with lastHeard := some s.tbu.stationTime } := by
  obtain ⟨v, hv, hw⟩ := List.mem_map.mp h
  refine ⟨v, hv, ?_⟩
  split at hw
  · exact .inr hw.symm
  · exact .inl hw.symm

/-- A peer's notice is recorded, has its further effect, and a PENDING claim and a waiting need are tested once (R57, R63). -/
theorem exec_frameEnd_recorded {s : State} {r : Nat} (hl : s.live) (hr : r ≤ 7) (ho : r ≠ s.fli.rank)
    (hv : ∃ v ∈ s.fcu.view, v.rank = r) (ha : s.fcu.state = .listenIn ∨ s.fcu.state = .active) (he : s.fli.engine = .receiving)
    (ht : s.fli.transmitter = none) (n : Notice) {f : ViewEntry → ViewEntry}
    (hf : ∀ v : ViewEntry, v.take n s.now (s.ahead s.cfg.expiryInterval) = { f v with lastHeard := some s.tbu.stationTime }) :
    exec (.frameEnd (noticeLine r n)) s = .next ((s.heard r n f).meetNotice r n).recheckPending.permitTest := by
  have updated : updateRank s.fcu.view r (fun v => v.take n s.now (s.ahead s.cfg.expiryInterval)) =
      s.fcu.view.map fun (v : ViewEntry) => if v.rank = r then { f v with lastHeard := some s.tbu.stationTime } else v :=
    List.map_congr_left fun v _ => if_congr Iff.rfl (hf v) rfl
  have recorded : State.recordNotice { s with fli := s.fli.frameEnded (noticeLine r n) } r n = s.heard r n f :=
    congrArg (fun view => ({ s with fli := s.fli.frameEnded (noticeLine r n), fcu.view := view } : State)) updated
  rw [exec_frameEnd_notice hl hr ho hv ha he ht, State.acceptNotice, recorded, State.recheckPending_permitTest_settles]

/-- Settles O37, by the entry that each notice leaves. -/
theorem peerReleaseAndHello : Obligations.PeerReleaseAndHello := by
  intro s r hl hr ho hv ha he ht after
  exact ⟨fun k => exec_frameEnd_recorded hl hr ho hv ha he ht (.release k) fun v => v.take_release k _ _,
    fun cause => exec_frameEnd_recorded hl hr ho hv ha he ht (.hello cause) fun v => v.take_hello _ _ cause⟩

/-! ### What a CLAIM and a HOLDOFF do beyond the entry (R64, R66, R71, R73) -/

section
variable {s : State} {r : Nat} {k : ClaimKind}

theorem State.meetClaim_unheld (h : ∀ j, s.fcu.claim ≠ .held j) : s.meetClaim r k = s := by
  unfold State.meetClaim
  split
  · next j hj => exact absurd hj (h j)
  · rfl

/-- An own holdoff of the same kind, or none, stands. -/
theorem State.meetHoldoff_stands (hq : s.fcu.holdoff ≠ .queued k.opposite) (hs : s.fcu.holdoff ≠ .sent k.opposite) :
    s.meetHoldoff k = s := by
  unfold State.meetHoldoff
  split
  · next j hj => exact if_neg fun h => hq (hj.trans (congrArg _ h))
  · next j hj => exact if_neg fun h => hs (hj.trans (congrArg _ h))
  · rfl

/-- An opposite own holdoff that is QUEUED is withdrawn and counted. -/
theorem State.meetHoldoff_withdraws (hh : s.fcu.holdoff = .queued k.opposite) (hq : ∃ q ∈ s.fli.notices, q.isHoldoff = true)
    (ht : s.fli.transmitter = none) :
    s.meetHoldoff k =
      { s with
        fli.notices := s.fli.notices.filter fun q => !q.isHoldoff
        fcu.holdoff := .none }.signal .withdrawn (qualifierBit 1) := by
  have queued : s.holdoffQueued = true := List.any_eq_true.mpr hq
  simp only [State.meetHoldoff, hh, if_true, State.dropQueuedHoldoff, State.withdrawHoldoff, queued]
  rw [State.markStale_empty (by exact ht)]
  rfl

/-- An opposite own holdoff that is SENT sends no further refresh. -/
theorem State.meetHoldoff_yields (hh : s.fcu.holdoff = .sent k.opposite) (ht : s.fli.transmitter = none) :
    s.meetHoldoff k =
      { s with
        fli.notices := s.fli.notices.filter fun q => !q.isHoldoff
        fcu.holdoff := .none, fcu.holdoffRefresh := none } := by
  simp only [State.meetHoldoff, hh, if_true, State.yieldHoldoff]
  rw [State.markStale_empty (by exact ht)]
  rfl

/-- A queued PENDING claim that something stands against is withdrawn, and its need meets one permit test (R57). -/
theorem State.settles_withdrawn {c : BlockCause} (hk : s.fcu.claim = .pending k)
    (hq : ∃ q ∈ s.fli.notices, q.isClaim = true) (hf : s.fcu.firstFailure k = some c) :
    s.recheckPending.permitTest = s.claimWithdrawn.permitTest := by
  rw [State.recheckPending_withdraws hk hq hf, State.permitTest_again]

end

/-- A PENDING claim whose CLAIM is on the line stays, whatever a notice brings (R57). -/
theorem State.settles_onLine {s : State} {k : ClaimKind} (hk : s.fcu.claim = .pending k)
    (hq : ∀ q ∈ s.fli.notices, q.isClaim = false) : s.recheckPending.permitTest = s := by
  rw [State.recheckPending_onLine (State.claimQueued_false hq), State.permitTest_claimed (by simp [hk])]

section
variable {s : State} {n : Need} {c : BlockCause} (hk : s.fcu.claim = .pending n.kind) (hn : s.fcu.need = some n)
  (hq : ∃ q ∈ s.fli.notices, q.isClaim = true) (hf : s.fcu.firstFailure n.kind = some c)
include hk hn hq hf

/-- The claim of a need that something stands against is withdrawn, and the need waits with the cause (R57). -/
theorem State.settles_blocked (hb : s.claimWithdrawn.holdoffAllowed n = false) :
    s.recheckPending.permitTest = s.claimWithdrawn.blockOn c :=
  (State.settles_withdrawn hk hq hf).trans (State.permitTest_blocked hn rfl hf hb)

/-- With its patience passed the need holds off at the same event (R71). -/
theorem State.settles_holdsOff (hb : s.claimWithdrawn.holdoffAllowed n = true) :
    s.recheckPending.permitTest =
      { s.claimWithdrawn.blockOn c with
        fcu.holdoff := .queued n.kind
        fli.notices := placeNotice (.holdoff n.kind) (s.fli.notices.filter fun q => !q.isClaim) } := by
  rw [State.settles_withdrawn hk hq hf, State.permitTest_holdsOff (s := s.claimWithdrawn) hn rfl hf hb]
  simp only [State.blockOn_fcu, State.blockOn_fli]
  rfl

end

/-- A peer's mark of a kind, with a new expiry (R62, R64, R66). -/
def State.newMark (s : State) (k : ClaimKind) : PeerMark :=
  { kind := k, expiry := { setAt := s.tbu.stationTime, interval := s.cfg.expiryMultiplier * s.cfg.refreshInterval } }

/-- The state with a peer's CLAIM recorded (R64). -/
def State.claimHeard (s : State) (r : Nat) (k : ClaimKind) : State :=
  s.heard r (.claim k) fun v => { v with claim := some (s.newMark k), holdoff := v.holdoff.filter fun m => m.kind != k }

/-- The state with a peer's HOLDOFF recorded (R66). -/
def State.holdoffHeard (s : State) (r : Nat) (k : ClaimKind) : State :=
  s.heard r (.holdoff k) fun v => { v with holdoff := some (s.newMark k) }

section
variable {s : State} {r : Nat} {k : ClaimKind}

theorem State.claimHeard_opposes (hv : ∃ v ∈ s.fcu.view, v.rank = r) :
    ∃ w ∈ (s.claimHeard r k).fcu.view, ∃ m, w.claim = some m ∧ m.kind = k := by
  obtain ⟨v, hmem, rfl⟩ := hv
  exact ⟨_, State.sender_mem_heard hmem _ _, s.newMark k, rfl, rfl⟩

theorem State.holdoffHeard_opposes (hv : ∃ v ∈ s.fcu.view, v.rank = r) :
    ∃ w ∈ (s.holdoffHeard r k).fcu.view, ∃ m, w.holdoff = some m ∧ m.kind = k := by
  obtain ⟨v, hmem, rfl⟩ := hv
  exact ⟨_, State.sender_mem_heard hmem _ _, s.newMark k, rfl, rfl⟩

/-- A CLAIM adds no holdoff to the view. -/
theorem State.claimHeard_unheld (hv : ∀ v ∈ s.fcu.view, ∀ m, v.holdoff = some m → m.kind ≠ k) :
    ¬∃ w ∈ (s.claimHeard r k).fcu.view, ∃ m, w.holdoff = some m ∧ m.kind = k := by
  rintro ⟨w, hw, m, hm, hk⟩
  obtain ⟨u, hu, rfl | rfl⟩ := State.mem_heard hw
  · exact hv _ hu m hm hk
  · exact hv u hu m (Option.filter_eq_some_iff.mp hm).1 hk

/-- A HOLDOFF adds no claim to the view. -/
theorem State.holdoffHeard_unclaimed (hv : ∀ v ∈ s.fcu.view, ∀ m, v.claim = some m → m.kind ≠ k) :
    ¬∃ w ∈ (s.holdoffHeard r k).fcu.view, ∃ m, w.claim = some m ∧ m.kind = k := by
  rintro ⟨w, hw, m, hm, hk⟩
  obtain ⟨u, hu, rfl | rfl⟩ := State.mem_heard hw
  · exact hv _ hu m hm hk
  · exact hv u hu m hm hk

end

section
variable {s : State} {r : Nat} (hl : s.live) (hr : r ≤ 7) (ho : r ≠ s.fli.rank) (hv : ∃ v ∈ s.fcu.view, v.rank = r)
  (ha : s.fcu.state = .listenIn ∨ s.fcu.state = .active) (he : s.fli.engine = .receiving) (ht : s.fli.transmitter = none)
  (k : ClaimKind)
include hl hr ho hv ha he ht

/-- A peer's CLAIM with no claim held here is recorded, and the own claim and need are tested (R57, R64). -/
theorem exec_frameEnd_peerClaim (hc : ∀ j, s.fcu.claim ≠ .held j) :
    exec (.frameEnd (noticeLine r (.claim k))) s = .next (s.claimHeard r k).recheckPending.permitTest := by
  have recorded : exec (.frameEnd (noticeLine r (.claim k))) s =
      .next ((s.claimHeard r k).meetClaim r k).recheckPending.permitTest :=
    exec_frameEnd_recorded hl hr ho hv ha he ht (.claim k) fun v => v.take_claim k _ _
  rwa [State.meetClaim_unheld (by exact hc)] at recorded

/-- A peer's HOLDOFF is recorded and met by the own one, and the own claim and need are tested (R57, R66). -/
theorem exec_frameEnd_peerHoldoff :
    exec (.frameEnd (noticeLine r (.holdoff k))) s = .next ((s.holdoffHeard r k).meetHoldoff k).recheckPending.permitTest :=
  exec_frameEnd_recorded hl hr ho hv ha he ht (.holdoff k) fun v => v.take_holdoff k _ _

end

/-- Settles O38, by the entry, the own holdoff and the recheck of a PENDING claim. -/
theorem peerClaimAndHoldoff : Obligations.PeerClaimAndHoldoff := by
  intro s r k hl hr ho hv ha he ht mark heard heldOff unqueued
  have claims := exec_frameEnd_peerClaim hl hr ho hv ha he ht k
  have holds := exec_frameEnd_peerHoldoff hl hr ho hv ha he ht k
  refine ⟨claims, fun hq hs => ?_, fun hh hq => ?_, fun hh => ?_, fun n hactive hd hk hn hkind => ?_⟩
  · rwa [State.meetHoldoff_stands (by exact hq) (by exact hs)] at holds
  · rwa [State.meetHoldoff_withdraws (by exact hh) (by exact hq) (by exact ht)] at holds
  · rwa [State.meetHoldoff_yields (by exact hh) (by exact ht)] at holds
  · intro claimed withdrawn patient
    have own : s.fcu.claim = .pending n.kind := by rw [hk, hkind]
    obtain rfl : k = n.kind.opposite := by rw [hkind, ClaimKind.opposite_opposite]
    have claimWaits : withdrawn claimed .peerClaim = (s.claimHeard r n.kind.opposite).claimWithdrawn.blockOn .peerClaim := rfl
    have holdoffWaits : withdrawn heldOff .peerHoldoff =
        (s.holdoffHeard r n.kind.opposite).claimWithdrawn.blockOn .peerHoldoff := rfl
    rw [claimWaits, holdoffWaits]
    have meets := claims (by simp [hk])
    have opposed : (s.claimHeard r n.kind.opposite).fcu.firstFailure n.kind = some .peerClaim :=
      Fcu.firstFailure_peerClaim hactive hd (State.claimHeard_opposes hv)
    refine ⟨fun hq => ?_, fun hq => ⟨fun hb => ?_, fun hp hh hv' => ?_, fun hh hv' => ?_⟩⟩
    · exact meets.trans (congrArg _ (State.settles_onLine own hq))
    · refine meets.trans (congrArg _ (State.settles_blocked own hn hq opposed ?_))
      rcases hb with hp | hh
      · exact State.holdoff_impatient (Nat.not_le.mp hp)
      · exact State.holdoff_inHand hh
    · refine meets.trans (congrArg _ (State.settles_holdsOff own hn hq opposed ?_))
      exact State.holdoffAllowed_iff.mpr ⟨hp, rfl, hh, hactive, hd, State.claimHeard_unheld hv'⟩
    · have unheld : (s.holdoffHeard r n.kind.opposite).fcu.holdoff = .none := hh
      rw [State.meetHoldoff_stands (by simp [unheld]) (by simp [unheld])] at holds
      exact holds.trans (congrArg _ (State.settles_blocked own hn hq
        (Fcu.firstFailure_peerHoldoff hactive hd (State.holdoffHeard_unclaimed hv') (State.holdoffHeard_opposes hv))
        (State.holdoff_opposed (State.holdoffHeard_opposes hv))))

end Sys2Proof.Machine
end

section
/-!
PROOFS. The tick (O44) and the deadlines of Frame Coordination: the ends of listen-in and doubt (O45), the refreshes of claim and holdoff
(O46, O47), and the lapses of the view (O48).
-/

-- One theorem after another: each one elaborated beside the others takes a thread with a stack of its own.
set_option Elab.async false

namespace Sys2Proof.Machine

/-! ### The tick (R54, R129) -/

section
variable {s : State}

theorem State.countWait_quiet (h : s.fcu.need = none ∨ ∃ k, s.fcu.claim = .held k) : s.countWait = s := by
  unfold State.countWait
  split
  · next n hn =>
    obtain ⟨k, hk⟩ := h.resolve_left (by simp [hn])
    exact if_neg (by simp [Fcu.needBlocked, hk])
  · rfl

/-- A need that no HELD claim meets counts its wait. -/
theorem State.countWait_counts {n : Need} (hn : s.fcu.need = some n) (hc : ∀ k, s.fcu.claim ≠ .held k) :
    s.countWait = s.signal .waitMs (qualifierBit n.kind.code) := by
  have blocked : s.fcu.needBlocked = true := by
    unfold Fcu.needBlocked
    split
    · next k hk => exact absurd hk (hc k)
    · simp [hn]
  simp only [State.countWait, hn, blocked, if_true]

end

/-- Settles O44, by the need that waits. -/
theorem tickAdvances : Obligations.TickAdvances := by
  rintro s ⟨hr, -, -⟩ ticked
  have ticks : exec .tick s = .next ticked.countWait := by
    rw [exec_tick, State.act_live hr]
    rfl
  exact ⟨fun h => ticks.trans (congrArg _ (State.countWait_quiet h)),
    fun n hn hc => ticks.trans (congrArg _ (State.countWait_counts hn hc))⟩

/-! ### Listen-in and doubt (R69, R70) -/

theorem State.due_late {s : State} {o : Option Deadline} {d : Deadline} (ho : o = some d)
    (h : d.interval ≤ (s.tbu.stationTime - d.setAt).toNat) : due o s.now = true := ho ▸ due_reached h

theorem State.due_before {s : State} {o : Option Deadline} {d : Deadline} (ho : o = some d)
    (h : (s.tbu.stationTime - d.setAt).toNat < d.interval) : due o s.now = false := ho ▸ due_early h

/-- Settles O45, by the deadline that is reached or not. -/
theorem listenInAndDoubtEnd : Obligations.ListenInAndDoubtEnd := by
  rintro s d ⟨hr, -, -⟩
  refine ⟨fun hs hd => ⟨fun late => ?_, fun early => ?_⟩, fun hd => ⟨fun late => ?_, fun early => ?_⟩⟩
  · rw [exec_listenInEnd, State.act_live hr, State.listenInEnd, if_pos ⟨hs, State.due_late hd late⟩]
  · rw [exec_listenInEnd, State.act_live hr, State.listenInEnd, if_neg (by simp [State.due_before hd early])]
  · rw [exec_doubtEnd, State.act_live hr, State.doubtEnd, if_pos (State.due_late hd late)]
  · rw [exec_doubtEnd, State.act_live hr, State.doubtEnd, if_neg (by simp [State.due_before hd early])]

/-! ### The refresh of a HELD claim (R56, R60) -/

theorem Notice.sameKind_claim (k : ClaimKind) (q : Notice) : (Notice.claim k).sameKind q = q.isClaim := by cases q <;> rfl

/-- A notice takes the place of the queued one of its kind. -/
theorem placeNotice_replaces {n q : Notice} {before after : List Notice} (hq : n.sameKind q = true)
    (hb : ∀ p ∈ before, n.sameKind p = false) (ha : ∀ p ∈ after, n.sameKind p = false) :
    placeNotice n (before ++ q :: after) = before ++ n :: after := by
  have others : ∀ l : List Notice, (∀ p ∈ l, n.sameKind p = false) → (l.map fun p => if n.sameKind p then n else p) = l := by
    intro l h
    rw [List.map_congr_left fun p hp => if_neg (by simp [h p hp]), List.map_id']
  rw [placeNotice, if_pos (by simp [hq]), List.map_append, List.map_cons, others before hb, others after ha, if_pos hq]

section
variable {s : State} {k : ClaimKind}

theorem State.claimRefresh_due (hk : s.fcu.claim = .held k) (hd : due s.fcu.claimRefresh s.now = true) :
    s.claimRefresh =
      { s with
        fcu.claimRefresh := some (s.ahead s.cfg.refreshInterval)
        fli.notices := placeNotice (.claim k) s.fli.notices } := by
  simp only [State.claimRefresh, hk, hd, if_true]
  rfl

theorem State.claimRefresh_early (hk : s.fcu.claim = .held k) (hd : due s.fcu.claimRefresh s.now = false) :
    s.claimRefresh = s := by simp [State.claimRefresh, hk, hd]

theorem State.claimRefresh_unheld (h : ∀ j, s.fcu.claim ≠ .held j) : s.claimRefresh = s := by
  unfold State.claimRefresh
  split
  · next j hj => exact absurd hj (h j)
  · rfl

end

/-- Settles O46, by the claim and its deadline, and by the place of the queued refresh. -/
theorem claimRefreshQueued : Obligations.ClaimRefreshQueued := by
  rintro s k d ⟨hr, -, -⟩
  refine ⟨fun hk hd late => ⟨some (s.ahead s.cfg.refreshInterval), ?_⟩, fun hk hd early => ?_, fun hk => ?_,
    fun hk ha ht => ?_, fun before j after hn hb ha => ?_, fun hn => ?_⟩
  · rw [exec_claimRefreshDue, State.act_live hr, State.claimRefresh_due hk (State.due_late hd late)]
  · rw [exec_claimRefreshDue, State.act_live hr, State.claimRefresh_early hk (State.due_before hd early)]
  · rw [exec_claimRefreshDue, State.act_live hr, State.claimRefresh_unheld hk]
  · exact ⟨_, exec_ownFrameCompleted_held hr ht rfl (.inr ha) hk, rfl, rfl⟩
  · rw [hn]
    exact placeNotice_replaces rfl (by simpa only [Notice.sameKind_claim] using hb)
      (by simpa only [Notice.sameKind_claim] using ha)
  · exact placeNotice_new (by simpa only [Notice.sameKind_claim] using hn)

/-! ### The own HOLDOFF (R71, R72) -/

theorem ClaimKind.eq_opposite_iff {a b : ClaimKind} : a = b.opposite ↔ a ≠ b := by cases a <;> cases b <;> decide

section
variable {s : State} {n : Need}

theorem State.tryHoldoff_queues (hn : s.fcu.need = some n) (h : s.holdoffAllowed n = true) :
    s.tryHoldoff =
      { s with fcu.holdoff := .queued n.kind, fli.notices := placeNotice (.holdoff n.kind) s.fli.notices } := by
  simp only [State.tryHoldoff, hn, h, if_true]
  rfl

theorem State.tryHoldoff_barred (hn : s.fcu.need = some n) (h : s.holdoffAllowed n = false) : s.tryHoldoff = s := by
  simp [State.tryHoldoff, hn, h]

/-- The own HOLDOFF completed is SENT, with its refresh one interval ahead. -/
theorem exec_ownFrameCompleted_holdoff {k : ClaimKind} {sent : Fli} (hr : s.resetHeld = false)
    (ht : s.fli.transmitter = some { frame := .notice (.holdoff k), stale := false, unreported := false })
    (hs : sent = { s.fli.frameEnded (noticeLine s.fli.rank (.holdoff k)) with transmitter := none })
    (ha : s.fcu.state = .listenIn ∨ s.fcu.state = .active) (hh : s.fcu.holdoff = .queued k) :
    exec .ownFrameCompleted s =
      .next { s with
        fli := sent
        fcu.holdoff := .sent k
        fcu.holdoffRefresh := some { setAt := s.tbu.stationTime, interval := s.cfg.refreshInterval } } := by
  have listening : s.fcu.listening = true := Fcu.listening_iff.mpr ha
  rw [exec_ownFrameCompleted_notice hr ht hs]
  simp [State.noticeCompleted, listening, State.holdoffCompleted, hh, State.reportGrant, State.ahead, State.now]

theorem State.holdoffRefresh_due {k : ClaimKind} (hh : s.fcu.holdoff = .sent k)
    (hd : due s.fcu.holdoffRefresh s.now = true) (hg : s.fcu.holdoffGoesOn k = true) :
    s.holdoffRefresh =
      { s with
        fcu.holdoffRefresh := some (s.ahead s.cfg.refreshInterval)
        fli.notices := placeNotice (.holdoff k) s.fli.notices } := by
  simp only [State.holdoffRefresh, hh, hd, hg, and_self, if_true]
  rfl

end

/-- Settles O47, by what allows the holdoff and by the need that it goes on for. -/
theorem holdoffQueuedAndRefreshed : Obligations.HoldoffQueuedAndRefreshed := by
  refine ⟨fun s hl hn => ?_, fun s n hl hn => ?_⟩
  · rw [exec_holdoffQueued, State.act_live hl.1]
    simp only [State.tryHoldoff, hn]
  · have bars : s.holdoffAllowed n = false → exec .holdoffQueued s = .next s := fun h => by
      rw [exec_holdoffQueued, State.act_live hl.1, State.tryHoldoff_barred hn h]
    refine ⟨fun hc hh ha hd hv => ⟨fun patient => ?_, fun early => ?_⟩, fun h => ?_, fun hc hh ha ht => ?_,
      fun d hc hh hd late => ?_⟩
    · have unopposed : ¬∃ v ∈ s.fcu.view, ∃ m, v.holdoff = some m ∧ m.kind = n.kind.opposite := by
        rintro ⟨v, hmem, m, hm, hk⟩
        exact ClaimKind.eq_opposite_iff.mp hk (hv v hmem m hm)
      rw [exec_holdoffQueued, State.act_live hl.1,
        State.tryHoldoff_queues hn (State.holdoffAllowed_iff.mpr ⟨patient, hc, hh, ha, hd, unopposed⟩)]
    · exact bars (State.holdoff_impatient early)
    · refine bars (State.holdoff_barred fun _ hc hh ha hd => ?_)
      rcases h with h | h | h | h | ⟨v, hmem, m, hm, hk⟩
      · exact absurd hc h
      · exact absurd hh h
      · exact absurd ha h
      · exact absurd hd h
      · exact ⟨v, hmem, m, hm, ClaimKind.eq_opposite_iff.mpr hk⟩
    · exact exec_ownFrameCompleted_holdoff hl.1 ht rfl (.inr ha) hh
    · have goesOn : s.fcu.holdoffGoesOn n.kind = true := by simp [Fcu.holdoffGoesOn, hn, Fcu.holds, hc]
      refine ⟨some (s.ahead s.cfg.refreshInterval), ?_⟩
      rw [exec_holdoffRefreshDue, State.act_live hl.1, State.holdoffRefresh_due hh (State.due_late hd late) goesOn]

/-! ### The lapses of the view (R68) -/

theorem lapsed_eq_any (m : Option PeerMark) (now : Time) :
    lapsed m now = m.any fun p => decide (p.expiry.interval ≤ (now - p.expiry.setAt).toNat) := by cases m <;> rfl

theorem lapse_eq_filter (m : Option PeerMark) (now : Time) :
    lapse m now = m.filter fun p => !decide (p.expiry.interval ≤ (now - p.expiry.setAt).toNat) := by
  cases m with
  | none => rfl
  | some p =>
    change (if p.expiry.reached now then none else some p) = if !p.expiry.reached now then some p else none
    cases p.expiry.reached now <;> rfl

theorem ViewEntry.expire_eq (now : Time) :
    ViewEntry.expire now = fun v =>
      { v with
        claim := v.claim.filter fun p => !decide (p.expiry.interval ≤ (now - p.expiry.setAt).toNat)
        holdoff := v.holdoff.filter fun p => !decide (p.expiry.interval ≤ (now - p.expiry.setAt).toNat) } :=
  funext fun v => by rw [ViewEntry.expire, lapse_eq_filter, lapse_eq_filter]

theorem Fcu.expires_iff {f : Fcu} {now : Time} :
    f.expires now = true ↔
      ∃ v ∈ f.view, ∃ m, (v.claim = some m ∨ v.holdoff = some m) ∧ m.expiry.interval ≤ (now - m.expiry.setAt).toNat := by
  have marks : ∀ o : Option PeerMark,
      lapsed o now = true ↔ ∃ m, o = some m ∧ m.expiry.interval ≤ (now - m.expiry.setAt).toNat := by
    intro o
    cases o <;> simp [lapsed_eq_any]
  simp only [Fcu.expires, List.any_eq_true, Bool.or_eq_true, marks, or_and_right, exists_or]

section
variable {s : State}

theorem State.viewExpiry_lapses (h : s.fcu.expires s.now = true) : s.viewExpiry = s.expireView.permitTest := if_pos h

theorem State.viewExpiry_nothing (h : s.fcu.expires s.now = false) : s.viewExpiry = s := if_neg (by simp [h])

/-- With no expiry reached the sweep changes nothing. -/
theorem State.expireView_nothing (h : s.fcu.expires s.now = false) : s.expireView = s := by
  have live : ∀ v ∈ s.fcu.view, lapsed v.claim s.now = false ∧ lapsed v.holdoff s.now = false := by
    simpa [Fcu.expires] using h
  have marks : ∀ o : Option PeerMark, lapsed o s.now = false → lapse o s.now = o := by
    intro o ho
    cases o with
    | none => rfl
    | some p =>
      have early : p.expiry.reached s.now = false := ho
      simp [lapse, early]
  have view : s.fcu.view.map (ViewEntry.expire s.now) = s.fcu.view := by
    rw [List.map_congr_left fun v hv => show v.expire s.now = v by
      rw [ViewEntry.expire, marks _ (live v hv).1, marks _ (live v hv).2], List.map_id']
  have counts : ∀ l : List ViewEntry, (∀ v ∈ l, lapsed v.claim s.now = false ∧ lapsed v.holdoff s.now = false) →
      l.foldl (fun acc v => acc.signalLapses s.now v) s = s := by
    intro l hl
    induction l with
    | nil => rfl
    | cons v rest ih =>
      have still : s.signalLapses s.now v = s := by simp [State.signalLapses, hl v (by simp)]
      rw [List.foldl_cons, still, ih fun w hw => hl w (by simp [hw])]
  rw [State.expireView, counts _ live, view]

variable {v : ViewEntry} {m : PeerMark} (hv : s.fcu.view = [v])
  (hl : m.expiry.interval ≤ (s.tbu.stationTime - m.expiry.setAt).toNat)
include hv hl

/-- The claim of a view's one entry lapses. -/
theorem State.viewExpiry_claim (hm : v.claim = some m) (hh : v.holdoff = none) :
    s.viewExpiry = (State.signal { s with fcu.view := [{ v with claim := none }] } .expiry (qualifierBit 0)).permitTest := by
  have reached : s.fcu.expires s.now = true := Fcu.expires_iff.mpr ⟨v, by simp [hv], m, .inl hm, hl⟩
  have lapses : m.expiry.reached s.now = true := decide_eq_true hl
  rw [State.viewExpiry_lapses reached]
  simp [State.expireView, hv, State.signalLapses, lapsed, hm, hh, lapses, ViewEntry.expire, lapse, State.signal]

/-- The holdoff of a view's one entry lapses. -/
theorem State.viewExpiry_holdoff (hm : v.holdoff = some m) (hc : v.claim = none) :
    s.viewExpiry = (State.signal { s with fcu.view := [{ v with holdoff := none }] } .expiry (qualifierBit 1)).permitTest := by
  have reached : s.fcu.expires s.now = true := Fcu.expires_iff.mpr ⟨v, by simp [hv], m, .inr hm, hl⟩
  have lapses : m.expiry.reached s.now = true := decide_eq_true hl
  rw [State.viewExpiry_lapses reached]
  simp [State.expireView, hv, State.signalLapses, lapsed, hm, hc, lapses, ViewEntry.expire, lapse, State.signal]

end

/-- Settles O48, by the entries whose marks lapse. -/
theorem viewExpiryLapses : Obligations.ViewExpiryLapses := by
  rintro s ⟨hr, -, -⟩ lapsed claims holdoffs counted swept
  have expires : exec .viewExpiry s = .next s.viewExpiry := by rw [exec_viewExpiry, State.act_live hr]
  refine ⟨fun hb => ?_, fun h => ?_, fun v m n hv hm hl hh hn hc ha hd => ?_, fun v m hn hv hm hl hh => ?_,
    fun v m hn hv hm hl hc => ?_⟩
  · have sweeps : s.expireView = swept := by
      rw [State.expireView_counted hb]
      simp only [lapsed_eq_any, ViewEntry.expire_eq]
      rfl
    refine ⟨fun hn => ?_, fun h => ?_⟩
    · cases h : s.fcu.expires s.now with
      | true => rw [expires, State.viewExpiry_lapses h, sweeps, State.permitTest_no_need (by exact hn)]
      | false => rw [expires, State.viewExpiry_nothing h, ← sweeps, State.expireView_nothing h]
    · rw [expires, State.viewExpiry_lapses (Fcu.expires_iff.mpr h), sweeps]
  · have unreached : s.fcu.expires s.now = false := by
      rw [Bool.eq_false_iff, Ne, Fcu.expires_iff]
      rintro ⟨v, hv, m, hm, hl⟩
      exact h v hv m hm hl
    rw [expires, State.viewExpiry_nothing unreached]
  · rw [expires, State.viewExpiry_claim hv hl hm hh]
    exact congrArg _ (State.permitTest_passes hn hc (Fcu.firstFailure_none ha hd (by simp) (by simp [hh])))
  · rw [expires, State.viewExpiry_claim hv hl hm hh, State.permitTest_no_need (by exact hn)]
  · rw [expires, State.viewExpiry_holdoff hv hl hm hc, State.permitTest_no_need (by exact hn)]

end Sys2Proof.Machine
end

section
/-!
PROOFS. The line coding (O7, O8, O9) and the commands while RESET_N is held (O3).
-/

-- One theorem after another: each one elaborated beside the others takes a thread with a stack of its own.
set_option Elab.async false

namespace Sys2Proof.Machine

/-- Settles O7: the inserted bits are removed, and the bytes spell the frame. -/
theorem linkFrameReadsBack : Obligations.LinkFrameReadsBack := fun _ h => readFrame_line h

/-! ### Dominant runs (R79) -/

/-- Nine levels, with the `run` dominant ones that precede a sender's next levels counted in, hold a recessive one. -/
theorem recessive_mem_take_stuff (bits : List Bool) {run k : Nat} (hr : run ≤ 7) (hk : 9 ≤ run + k)
    (hl : k ≤ (stuff run bits).length) : true ∈ (stuff run bits).take k := by
  obtain ⟨k, rfl⟩ : ∃ j, k = j + 2 := ⟨k - 2, by omega⟩
  induction bits generalizing run k with
  | nil => simp [stuff] at hl
  | cons bit rest ih =>
    cases bit with
    | true => simp [stuff]
    | false =>
      by_cases h7 : run = 7
      · simp [stuff, h7]
      · rw [stuff, if_neg h7] at hl ⊢
        obtain ⟨k, rfl⟩ : ∃ j, k = j + 1 := ⟨k - 1, by omega⟩
        exact List.mem_cons_of_mem _ (ih (by omega) k (by omega) (by simpa using hl))

/-- Any nine consecutive levels that a sender puts on the line hold a recessive one. -/
theorem recessive_mem_drop_stuff (bits : List Bool) {run i : Nat} (hr : run ≤ 7) (hl : i + 9 ≤ (stuff run bits).length) :
    true ∈ ((stuff run bits).drop i).take 9 := by
  induction bits generalizing run i with
  | nil => simp [stuff] at hl
  | cons bit rest ih =>
    cases i with
    | zero => exact recessive_mem_take_stuff _ hr (by omega) (by simpa using hl)
    | succ i =>
      cases bit with
      | true =>
        rw [stuff] at hl ⊢
        exact ih (Nat.zero_le 7) (by simpa [Nat.add_right_comm] using hl)
      | false =>
        by_cases h7 : run = 7
        · rw [stuff, if_pos h7] at hl ⊢
          cases i with
          | zero => simp
          | succ i => exact ih (Nat.zero_le 7) (by simpa [Nat.add_right_comm] using hl)
        · rw [stuff, if_neg h7] at hl ⊢
          exact ih (by omega) (by simpa [Nat.add_right_comm] using hl)

/-- Settles O8: after at most eight dominant levels a sender's next one is recessive. -/
theorem dominantRunsStayShort : Obligations.DominantRunsStayShort :=
  fun _ _ h => recessive_mem_drop_stuff _ (Nat.zero_le 7) h

/-- Settles O9: the published check value is computed, and a notice is read from its own bytes. -/
theorem checkAndNoticeCodes : Obligations.CheckAndNoticeCodes := ⟨by simp [crc16, byteBits, crcBit], decodeNotice_sent⟩

/-! ### Commands while RESET_N is held (R91, R110, R127, R129) -/

/-- Every command but DEVICE_RESET and RESET_N_RELEASE leaves the state as it is while RESET_N is held. -/
theorem exec_gated {c : Instr} (s : State) (hd : ∀ straps, c ≠ .deviceReset straps) (hr : c ≠ .resetNRelease) :
    ∃ t, exec c s = .next (if s.resetHeld then s else t) := by
  cases c with
  | deviceReset straps => exact absurd rfl (hd straps)
  | resetNRelease => exact absurd rfl hr
  | _ => exact ⟨_, rfl⟩

/-- Settles O3: no effect is taken while RESET_N is held. -/
theorem resetHoldsCommands : Obligations.ResetHoldsCommands := by
  intro c s held hd hr
  obtain ⟨t, gated⟩ := exec_gated s hd hr
  rw [gated, if_pos held]

end Sys2Proof.Machine
end

section
/-!
PROOFS. The transmitter (O32), the CLEAR pulse (O41), and the line's measures with the STOP drive (O43).
-/

-- One theorem after another: each one elaborated beside the others takes a thread with a stack of its own.
set_option Elab.async false

namespace Sys2Proof.Machine

/-! ### The start of a frame (R80) -/

section
variable {f : Fli}

/-- A start takes the head of the notice queue. -/
theorem Fli.start_notice {n : Notice} {rest : List Notice} (hm : f.mayStart = true) (hn : f.notices = n :: rest) :
    f.start =
      { f.startBit with
        notices := rest, transmitter := some { frame := .notice n, stale := false, unreported := false } } := by
  simp [Fli.start, Fli.nextFrame, Fli.dequeued, hn, hm, Fli.startBit]

/-- With no notice queued a start takes the head of the message queue. -/
theorem Fli.start_message {m : QueuedMessage} {rest : List QueuedMessage} (hm : f.mayStart = true) (hn : f.notices = [])
    (hq : f.messages = m :: rest) :
    f.start =
      { f.startBit with
        messages := rest, transmitter := some { frame := .message m, stale := false, unreported := false } } := by
  simp [Fli.start, Fli.nextFrame, Fli.dequeued, hn, hq, hm, Fli.startBit]

theorem Fli.start_barred (hm : f.mayStart = false) : f.start = f := by
  unfold Fli.start
  split
  · exact if_neg (by simp [hm])
  · rfl

theorem Fli.start_nothing (hn : f.notices = []) (hq : f.messages = []) : f.start = f := by
  simp [Fli.start, Fli.nextFrame, hn, hq]

/-- The line idle, the transmitter empty, a rank and no STOP pulse of the station's own let a start be made (R80, R91). -/
theorem Fli.mayStart_iff :
    f.mayStart = true ↔ f.idleCount = 12 ∧ f.transmitter = none ∧ f.rank ≠ 0 ∧ f.stopDrive ≠ .driving := by
  simp [Fli.mayStart, and_assoc]

end

/-! ### What levels on the line leave (R78, R85) -/

section
variable (f : Fli) (levels : List Bool)

/-- Levels on the line change the two measures and the engine alone, each to what it is then (R78, R85). -/
theorem Fli.sees_eq :
    f.sees levels =
      { f with
        idleCount := (f.sees levels).idleCount, runLength := (f.sees levels).runLength
        engine := (f.sees levels).engine } := by
  obtain ⟨idle, run, engine, h⟩ := f.sees_rest levels
  rw [h]

@[simp] theorem Fli.sees_rank : (f.sees levels).rank = f.rank := by rw [Fli.sees_eq]
@[simp] theorem Fli.sees_notices : (f.sees levels).notices = f.notices := by rw [Fli.sees_eq]
@[simp] theorem Fli.sees_messages : (f.sees levels).messages = f.messages := by rw [Fli.sees_eq]
@[simp] theorem Fli.sees_transmitter : (f.sees levels).transmitter = f.transmitter := by rw [Fli.sees_eq]
@[simp] theorem Fli.sees_stopDrive : (f.sees levels).stopDrive = f.stopDrive := by rw [Fli.sees_eq]

/-- The first bit of a frame after some levels (R78, R80, R85). -/
theorem Fli.startBit_sees :
    (f.sees levels).startBit = { f with idleCount := 0, runLength := 1, engine := (f.sees levels).engine.atDominant } := by
  rw [Fli.startBit, Fli.sees_eq]

end

/-! ### A lost arbitration (R81) -/

section
variable {f : Fli}

/-- A notice that is stale, or whose kind was queued meanwhile, is discarded. -/
theorem Fli.returned_discarded {n : Notice} {stale : Bool}
    (ht : f.transmitter = some { frame := .notice n, stale := stale, unreported := false })
    (h : stale = true ∨ ∃ q ∈ f.notices, n.sameKind q = true) : f.returned = { f with transmitter := none } := by
  cases stale with
  | true => simp [Fli.returned, ht]
  | false =>
    have queued : f.notices.any n.sameKind = true := by simpa using h
    simp [Fli.returned, ht, queued]

/-- Any other notice returns to the head of its queue. -/
theorem Fli.returned_notice {n : Notice} (ht : f.transmitter = some { frame := .notice n, stale := false, unreported := false })
    (h : ∀ q ∈ f.notices, n.sameKind q = false) : f.returned = { f with transmitter := none, notices := n :: f.notices } := by
  have unqueued : f.notices.any n.sameKind = false := by simpa using h
  simp [Fli.returned, ht, unqueued]

/-- A message returns to the head of its queue. -/
theorem Fli.returned_message {m : QueuedMessage}
    (ht : f.transmitter = some { frame := .message m, stale := false, unreported := false }) :
    f.returned = { f with transmitter := none, messages := m :: f.messages } := by
  simp [Fli.returned, ht]

/-- An own frame that loses arbitration returns after the dominant bit that it read (R78, R81). -/
theorem Fli.lost_returned {t : Transmission} (ht : f.transmitter = some t) (since : List Bool) :
    f.lost since = (f.dominantAfter since).returned := by
  rw [Fli.lost, if_pos (by simp [ht]), Fli.dominantAfter_returned]

end

/-- Settles O32, by the queue that a start takes from and by the frame that lost arbitration. -/
theorem transmitterMoves : Obligations.TransmitterMoves := by
  rintro s since ⟨hr, h1, -⟩ seen lost
  have starts : exec (.transmitStart since) s = .next { s with fli := seen.start } := by
    rw [exec_transmitStart, State.act_live hr]
  have loses : exec (.arbitrationLoss since) s = .next { s with fli := s.fli.lost since } := by
    rw [exec_arbitrationLoss, State.act_live hr]
  have begun : seen.startBit = _ := s.fli.startBit_sees since
  have dominant := s.fli.dominantAfter_eq since
  refine ⟨fun hi ht hd => ?_, fun h => ?_, fun n stale ht => ⟨fun h => ?_, fun hs h => ?_⟩, fun m ht => ?_⟩
  · have may : seen.mayStart = true := Fli.mayStart_iff.mpr ⟨hi, by simp [seen, ht], by simp [seen]; omega, by simp [seen, hd]⟩
    refine ⟨fun n rest hn => ?_, fun m rest hn hq => ?_⟩
    · rw [starts, Fli.start_notice may ((Fli.sees_notices _ _).trans hn), begun]
      rfl
    · rw [starts, Fli.start_message may ((Fli.sees_notices _ _).trans hn) ((Fli.sees_messages _ _).trans hq), begun]
      rfl
  · by_cases hq : s.fli.notices = [] ∧ s.fli.messages = []
    · rw [starts, Fli.start_nothing ((Fli.sees_notices _ _).trans hq.1) ((Fli.sees_messages _ _).trans hq.2)]
    · have barred : seen.mayStart = false := by
        rw [Bool.eq_false_iff, Ne, Fli.mayStart_iff, Fli.sees_transmitter]
        rintro ⟨idle, empty, -, -⟩
        exact h.elim (· idle) (Or.elim · (· empty) hq)
      rw [starts, Fli.start_barred barred]
  · rw [loses, Fli.lost_returned ht, Fli.returned_discarded (by simpa using ht) (by simpa using h), dominant]
    rfl
  · subst hs
    rw [loses, Fli.lost_returned ht, Fli.returned_notice (by simpa using ht) (by simpa using h), dominant]
    rfl
  · rw [loses, Fli.lost_returned ht, Fli.returned_message (by simpa using ht), dominant]
    rfl

/-! ### The CLEAR pulse (R70, R89) -/

theorem State.countRun_clear {s : State} {n : Nat} (h : 50 ≤ n ∧ n ≤ 150) : s.countRun n = s.beginDoubt := by
  rw [State.countRun, if_neg (by omega), if_neg (by omega), if_neg (by omega), if_pos h.2]

/-- Settles O41, by what the doubt has to settle. -/
theorem clearPulseBeginsDoubt : Obligations.ClearPulseBeginsDoubt := by
  rintro s n ⟨hr, -, -⟩ h50 h150 runOver doubtful
  have doubts : exec (.dominantRunEnd n) s = .next { s with fli := runOver }.beginDoubt := by
    rw [exec_dominantRunEnd_counted hr (by omega), State.countRun_clear ⟨h50, h150⟩]
  refine ⟨doubts, fun hq ha => ?_, fun ha hn hc hh => ?_, fun hs => ?_⟩
  · rw [doubts, State.beginDoubt_quiet (by exact hq) (by exact ha)]
    rfl
  · have blocks : State.beginDoubt { s with fli := runOver } = doubtful.blockNeed :=
      State.beginDoubt_blocks (.inl ha) (.inl (by simp [hc])) (by simp [hh])
    obtain ⟨need, hn⟩ := Option.ne_none_iff_exists'.mp hn
    have blocked : doubtful.blockNeed = doubtful.blockOn .doubt := by
      rw [State.blockNeed, show doubtful.fcu.need = some need from hn]
    rw [doubts, blocks, blocked]
    rfl
  · rw [doubts, State.beginDoubt_silent (by exact hs)]

/-! ### The two measures, level by level (R78) -/

section
variable (levels : List Bool)

theorem recessiveTail_recessive : recessiveTail (levels ++ [true]) = min 12 (recessiveTail levels + 1) := by
  simp only [recessiveTail, List.reverse_append, List.reverse_singleton, List.singleton_append, List.takeWhile_cons, if_true,
    List.length_cons]
  omega

theorem recessiveTail_dominant : recessiveTail (levels ++ [false]) = 0 := by simp [recessiveTail]

theorem dominantTail_dominant : dominantTail (levels ++ [false]) = dominantTail levels + 1 := by simp [dominantTail]

theorem dominantTail_recessive : dominantTail (levels ++ [true]) = 0 := by simp [dominantTail]

theorem Fli.sees_snoc (f : Fli) (level : Bool) : f.sees (levels ++ [level]) = (f.sees levels).sample level :=
  List.foldl_concat ..

variable {levels}

/-- Once a dominant level is seen the idle count is that of the levels alone (R78). -/
theorem Fli.sees_idleCount (f : Fli) (h : false ∈ levels) : (f.sees levels).idleCount = recessiveTail levels := by
  induction levels using List.reverseRecOn with
  | nil => simp at h
  | append_singleton levels level ih =>
    cases level with
    | true =>
      have before : (f.sees levels).idleCount = recessiveTail levels := ih (by simpa using h)
      rw [Fli.sees_snoc, recessiveTail_recessive, ← before]
      rfl
    | false =>
      rw [Fli.sees_snoc, recessiveTail_dominant]
      rfl

/-- Once a recessive level is seen the run length is that of the levels alone (R78). -/
theorem Fli.sees_runLength (f : Fli) (h : true ∈ levels) : (f.sees levels).runLength = dominantTail levels := by
  induction levels using List.reverseRecOn with
  | nil => simp at h
  | append_singleton levels level ih =>
    cases level with
    | true =>
      rw [Fli.sees_snoc, dominantTail_recessive]
      rfl
    | false =>
      have before : (f.sees levels).runLength = dominantTail levels := ih (by simpa using h)
      rw [Fli.sees_snoc, dominantTail_dominant, ← before]
      rfl

end

/-! ### The STOP drive (R91) -/

section
variable {s : State} (past : Bool) (since : List Bool)

theorem exec_stopAsserted_drives (hr : s.resetHeld = false) (hd : s.fli.stopDrive ≠ .driving) :
    exec (.stopAsserted past since) s = .next (s.drivePulse past since) := by
  rw [exec_stopAsserted, State.act_live hr, State.stopAsserted, if_neg hd]

theorem exec_stopPulseRepeat_drives (hr : s.resetHeld = false) (hd : s.fli.stopDrive = .waiting) :
    exec (.stopPulseRepeat past since) s = .next (s.drivePulse past since) := by
  rw [exec_stopPulseRepeat, State.act_live hr, State.stopPulseRepeat_waiting hd]

/-- A command that drives a pulse over an own frame does first what that frame's error does past its arbitration byte, and what
its loss does within it (R81, R82, R91). -/
theorem drivePulse_overrides {c : Bool → Instr} (hr : s.resetHeld = false) (ht : s.fli.transmitter ≠ none)
    (drives : ∀ past, exec (c past) s = .next (s.drivePulse past since)) :
    (∃ t, exec (.ownFrameError since) s = .next t ∧ exec (c true) s = .next { t with fli.stopDrive := .driving }) ∧
      (∃ t, exec (.arbitrationLoss since) s = .next t ∧ exec (c false) s = .next { t with fli.stopDrive := .driving }) := by
  refine ⟨⟨_, by rw [exec_ownFrameError, State.act_live hr], ?_⟩, ⟨_, by rw [exec_arbitrationLoss, State.act_live hr], ?_⟩⟩
  · rw [drives, State.drivePulse_failed ht]
  · rw [drives, State.drivePulse_lost ht]

end

/-- Settles O43, by the level that ends the ones seen, by the engine, and by the drive with and without an own frame. -/
theorem lineAndStopDrive : Obligations.LineAndStopDrive := by
  refine ⟨fun levels => ?_, fun f levels => ?_, ?_⟩
  · exact ⟨recessiveTail_recessive levels, recessiveTail_dominant levels, dominantTail_dominant levels,
      dominantTail_recessive levels, rfl, rfl, fun f => rfl⟩
  · refine ⟨rfl, ⟨f.sees_snoc levels true, f.sees_snoc levels false⟩, fun hrec hdom => ?_⟩
    rw [← f.sees_idleCount hdom, ← f.sees_runLength hrec]
    exact f.sees_eq levels
  · rintro s ⟨hr, -, -⟩ pulsed
    have line : ∀ f : Fli → Fli, s.act (fun s => { s with fli := f s.fli }) = .next { s with fli := f s.fli } :=
      fun f => State.act_live hr _
    have pulse : ∀ past since, s.fli.transmitter = none → s.drivePulse past since = pulsed (s.fli.sees since) := by
      intro past since ht
      rw [State.drivePulse_empty ht, Fli.dominantAfter_eq]
      rfl
    refine ⟨fun hd => ?_, fun he => ?_, fun he => ?_, fun he => ?_, fun he => ?_, fun past since hd ht => ?_,
      fun since hd ht => ?_, fun past since hd => ?_, fun hd => ⟨?_, ?_⟩, fun past since hd ht => ?_, fun since hd ht => ?_,
      fun past since hd => ?_⟩
    · rw [exec_lineIdle, line, Fli.idle, if_neg hd]
      simp [EngineState.atIdle]
    · rw [exec_startBit, line, Fli.startBit, he]
      rfl
    · rw [exec_startBit, line, Fli.startBit, EngineState.atDominant, if_neg he]
    · rw [exec_dominantRunReaches9, line, Fli.runOf9, if_pos he]
    · rw [exec_dominantRunReaches9, line, Fli.runOf9, if_neg he]
    · rw [exec_stopAsserted_drives past since hr hd, pulse past since ht]
    · exact drivePulse_overrides since hr ht fun past => exec_stopAsserted_drives past since hr hd
    · rw [exec_stopAsserted, State.act_live hr, State.stopAsserted, if_pos hd]
    · rw [exec_stopPulseEnd, line (·.stopPulseEnd true), Fli.stopPulseEnd, if_pos hd]
      rfl
    · rw [exec_stopPulseEnd, line (·.stopPulseEnd false), Fli.stopPulseEnd, if_pos hd]
      rfl
    · rw [exec_stopPulseRepeat_drives past since hr hd, pulse past since ht]
    · exact drivePulse_overrides since hr ht fun past => exec_stopPulseRepeat_drives past since hr hd
    · rw [exec_stopPulseRepeat, State.act_live hr, State.stopPulseRepeat, if_neg hd]

end Sys2Proof.Machine
end

section
/-!
PROOFS. The end of a piece of a motion sequence and the start of the next (O49).
-/

-- One theorem after another: each one elaborated beside the others takes a thread with a stack of its own.
set_option Elab.async false

namespace Sys2Proof.Machine

/-! ### A piece that has ended (R96) -/

/-- The record between two pieces: no move deadline and no settle end stand (R96). -/
def Mot.betweenPieces (m : Mot) : Mot := { m with moveDeadline := none, settleEnd := none }

theorem Mot.standsAt_betweenPieces {m : Mot} {p : Piece} : m.betweenPieces.standsAt p ↔ m.standsAt p := by
  cases p <;> rfl

theorem State.withMotion_still (s : State) : s.withMotion (s.mot, []) = s := rfl

section
variable {s : State} {p : Piece} {rest : List Piece} {c : Instr} {m : Mot}

/-- A completion hands on the pieces behind the one in hand, as a grant hands out a whole sequence (R96). -/
theorem State.withMotion_nextPiece (hq : m.sequence = some (p :: rest)) :
    s.withMotion (m.nextPiece s.cfg s.interlockOpen s.now) =
      State.handSequence { s with mot := m.betweenPieces } rest := by
  rw [Mot.nextPiece_cons hq]
  rfl

/-- A command that ends the piece in hand begins the first piece behind it that does not stand (R96 to R104). -/
theorem exec_endsPiece (hr : s.resetHeld = false) (hq : m.sequence = some (p :: rest))
    (hc : exec c s = .next (s.withMotion (m.nextPiece s.cfg s.interlockOpen s.now))) (n : Nat) (q : Piece)
    (first : rest[n]? = some q) (passed : ∀ r ∈ rest.take n, m.standsAt r) (undone : ¬m.standsAt q) (index : m.mayIndex q)
    (opens : q ≠ .settle → s.interlockPasses) (last : q = .settle → rest.drop (n + 1) = []) :
    let begun : State := { s with mot := m.betweenPieces.begun s.cfg s.tbu.stationTime q (rest.drop (n + 1)) }
    ((q = .settle → 0 < s.cfg.settleTime) → exec c s = .next begun) ∧
      (q = .settle → s.cfg.settleTime = 0 → exec c s = exec .settleEnd begun) := by
  intro begun
  let ended : State := { s with mot := m.betweenPieces }
  have stand : ∀ r ∈ rest.take n, ended.mot.standsAt r := fun r hm => Mot.standsAt_betweenPieces.mpr (passed r hm)
  rw [hc, State.withMotion_nextPiece hq]
  refine ⟨fun timed => congrArg _ ?_, ?_⟩
  · by_cases settles : q = .settle
    · subst settles
      exact State.handSequence_settles (s := ended) first stand (last rfl) (timed rfl)
    · exact State.handSequence_begun (s := ended) first stand (mt Mot.standsAt_betweenPieces.mp undone) index settles
        (opens settles)
  · rintro rfl untimed
    rw [State.handSequence_done (s := ended) first stand untimed]
    exact (exec_settleEnd_begun (s := ended) hr untimed rfl _).symm

end

/-! ### Each completion, by the activity it ends (R98 to R102) -/

section
variable {m : Mot} (hs : m.stopping = false) (c : ConfigImage) (i : Bool) (now : Time)
include hs

theorem Mot.turretHome_homing (h : m.turretActivity = .homing) :
    m.turretHome c i now = ({ m with turret := some 0, turretActivity := .idle } : Mot).nextPiece c i now :=
  if_pos ⟨h, hs⟩

theorem Mot.indexDone_counted {target slots : Nat} {positive : Bool} (h : m.turretActivity = .indexing target slots positive) :
    m.indexDone c i now slots = ({ m with turret := some target, turretActivity := .idle } : Mot).nextPiece c i now := by
  simp [Mot.indexDone, h, hs]

theorem Mot.axisHome_xLast (h : m.carriageActivity = .homing false true) :
    m.axisHome c i now .x =
      ({ m with x := c.xHome, carriageHomed := true, carriageActivity := .idle } : Mot).nextPiece c i now := by
  simp [Mot.axisHome, Mot.carriageHome, h, hs]

theorem Mot.axisHome_yLast (h : m.carriageActivity = .homing true false) :
    m.axisHome c i now .y =
      ({ m with y := c.yHome, carriageHomed := true, carriageActivity := .idle } : Mot).nextPiece c i now := by
  simp [Mot.axisHome, Mot.carriageHome, h, hs]

theorem Mot.axisHome_xFirst (h : m.carriageActivity = .homing false false) :
    m.axisHome c i now .x = ({ m with x := c.xHome, carriageActivity := .homing true false }, []) := by
  simp [Mot.axisHome, h, hs]

theorem Mot.axisHome_yFirst (h : m.carriageActivity = .homing false false) :
    m.axisHome c i now .y = ({ m with y := c.yHome, carriageActivity := .homing false true }, []) := by
  simp [Mot.axisHome, h, hs]

theorem Mot.carriageDone_moving {x y : Int} (h : m.carriageActivity = .moving x y) :
    m.carriageDone c i now = ({ m with x := x, y := y, carriageActivity := .idle } : Mot).nextPiece c i now := by
  simp [Mot.carriageDone, h, hs]

theorem Mot.zHome_homing (h : m.zActivity = .homing) :
    m.zHome c i now = ({ m with z := 500000, zHomed := true, zActivity := .idle } : Mot).nextPiece c i now :=
  if_pos ⟨h, hs⟩

theorem Mot.rapidDone_rapid {z : Nat} (h : m.zActivity = .rapid z) :
    m.rapidDone c i now = ({ m with z := z, zActivity := .idle } : Mot).nextPiece c i now := by
  simp [Mot.rapidDone, h, hs]

end

/-- A count of index edges other than the slots to be passed completes nothing (R99). -/
theorem Mot.indexDone_miscounted {m : Mot} {target slots edges : Nat} {positive : Bool}
    (h : m.turretActivity = .indexing target slots positive) (he : edges ≠ slots) (c : ConfigImage) (i : Bool) (now : Time) :
    m.indexDone c i now edges = (m, []) := by
  simp [Mot.indexDone, h, he]

/-- Settles O49, by the activity that the completion ends. -/
theorem motionPiecesComplete : Obligations.MotionPiecesComplete := by
  rintro s p rest ⟨hr, -, -⟩ hq hs ended
  have ends : ∀ {c : Instr} {m : Mot} {f : Mot → ConfigImage → Bool → Time → Mot × List MotionReport},
      exec c s = s.act (fun s => s.motion f) → f s.mot s.cfg s.interlockOpen s.now = m.nextPiece s.cfg s.interlockOpen s.now →
      m.sequence = some (p :: rest) → ended c m := by
    intro c m f acts completes sequence
    exact exec_endsPiece hr sequence (by rw [acts, State.act_live hr, State.motion, completes])
  refine ⟨fun h => ?_, fun target slots positive h => ⟨?_, fun edges he => ?_⟩, fun h => ⟨?_, ?_⟩, fun h => ?_, fun h => ?_,
    fun x y h => ?_, fun h => ?_, fun z h => ?_⟩
  · exact ends (exec_turretHomeFound s) (Mot.turretHome_homing hs _ _ _ h) hq
  · exact ends (exec_indexComplete s slots) (Mot.indexDone_counted hs _ _ _ h) hq
  · rw [exec_indexComplete, State.act_live hr, State.motion, Mot.indexDone_miscounted h he, State.withMotion_still]
  · rw [exec_carriageAxisHome, State.act_live hr, State.motion, Mot.axisHome_xFirst hs _ _ _ h]
    rfl
  · rw [exec_carriageAxisHome, State.act_live hr, State.motion, Mot.axisHome_yFirst hs _ _ _ h]
    rfl
  · exact ends (exec_carriageAxisHome s .y) (Mot.axisHome_yLast hs _ _ _ h) hq
  · exact ends (exec_carriageAxisHome s .x) (Mot.axisHome_xLast hs _ _ _ h) hq
  · exact ends (exec_carriageInPosition s) (Mot.carriageDone_moving hs _ _ _ h) hq
  · exact ends (exec_zHomeFound s) (Mot.zHome_homing hs _ _ _ h) hq
  · exact ends (exec_zInPosition s) (Mot.rapidDone_rapid hs _ _ _ h) hq

end Sys2Proof.Machine
end

section
/-!
PROOFS. The sample pairs of a force cycle from the approach to the fast unload (O53): what the tests of a pair answer, what
the Cycle Controller makes of their reports, and the force loop's move.
-/

-- One theorem after another: each one elaborated beside the others takes a thread with a stack of its own.
set_option Elab.async false

namespace Sys2Proof.Machine

/-! ### The tests of a pair with a cycle in hand (R112) -/

/-- The force states whose pairs are tested against the thresholds of the cycle in hand (R112). -/
def ForceState.tested : ForceState → Bool
  | .approach | .load | .hold | .unload | .fastUnload => true
  | _ => false

/-- A pair in these states: the tests of the cycle, then the force loop (R112). -/
theorem Frc.takePair_tested {f : Frc} {k : ForceCycle} (hk : f.cycle = some k) (hs : f.state.tested = true) (c : ConfigImage)
    (p q : Int) (mark : TickSource) (now : Time) :
    f.takePair c p q mark now =
      (((f.record c p q).cyclePair c k mark now).1.afterTests c f.state, ((f.record c p q).cyclePair c k mark now).2) := by
  have cycle : (f.record c p q).cycle = some k := hk
  have same : (f.record c p q).state = f.state := rfl
  unfold Frc.takePair Frc.testPair
  rw [same, cycle]
  revert hs
  cases f.state <;> simp [ForceState.tested]

theorem exec_loadRampEnd_named {s : State} {k : ForceCycle} (hr : s.resetHeld = false) (hk : s.frc.cycle = some k)
    (p q : RawSample) :
    exec (.loadRampEnd p q) s =
      if s.frc.state = .load ∧ s.frc.pairs + 1 = k.loadTime then exec (.samplePair p q) s else .next s :=
  exec_namedPair hr (named := s.frc.rampEnds) (by rw [exec_loadRampEnd, State.act_live hr]) (by simp [Frc.rampEnds, hk])

theorem exec_dwellEnd_named {s : State} {k : ForceCycle} (hr : s.resetHeld = false) (hk : s.frc.cycle = some k)
    (p q : RawSample) :
    exec (.dwellEnd p q) s =
      if s.frc.state = .hold ∧ s.frc.holdTicks + 1 = k.dwell then exec (.samplePair p q) s else .next s :=
  exec_namedPair hr (named := s.frc.dwellEnds) (by rw [exec_dwellEnd, State.act_live hr]) (by simp [Frc.dwellEnds, hk])

theorem Frc.overloaded_iff {f : Frc} {k : ForceCycle} :
    f.overloaded k = true ↔ (k.overloadAt : Int) < f.reading ∨ (k.overloadAt : Int) < f.checkReading := by
  simp [Frc.overloaded]

/-- An overload outside HOLD reports itself alone (R121). -/
theorem Frc.overload_alone {f : Frc} (h : f.state ≠ .hold) (c : ConfigImage) (now : Time) :
    f.overload c now = (f.enterFastUnload now, [.overload f.contact]) := by
  simp [Frc.overload, Frc.cutHold, h]

/-- An overload in HOLD hands over the results of the hold first (R120, R121). -/
theorem Frc.overload_hold {f : Frc} (h : f.state = .hold) (c : ConfigImage) (now : Time) :
    f.overload c now = (f.enterFastUnload now, [f.holdReport c, .overload f.contact]) := by
  simp [Frc.overload, Frc.cutHold, h]

/-- RETRACT entered at a known stroke (R124, R125). -/
theorem Frc.enterRetract_at {f : Frc} {z : Nat} (h : f.stroke = some z) (now : Time) :
    f.enterRetract now =
      { f with
        state := .retract, setPoint := 0, pairs := 0, testCurrent := false, stroke := some z
        deadline := some { setAt := now, interval := 2000 }, drive := if z = 0 then .freeTest else .running } := by
  cases f
  subst h
  exact Frc.enterRetract_eq ..

/-! ### The force loop (R112) -/

/-- The stroke after one step of the force loop (R112). -/
def Frc.loopStroke (f : Frc) (c : ConfigImage) : Option Nat :=
  if f.reading < f.setPoint then f.stroke.map fun z => min (z + c.forceLoopStep) (c.strokeLength * 1000)
  else if (f.setPoint : Int) < f.reading then f.stroke.map fun z => z - c.forceLoopStep
  else f.stroke

/-- Where the state before the pair and the one after it both run the loop, the stroke makes one step (R112; log 25). -/
theorem Frc.afterTests_moves {f : Frc} {before : ForceState} (hb : before.looped = true) (hf : f.state.looped = true)
    (c : ConfigImage) : f.afterTests c before = { f with stroke := f.loopStroke c } := by
  simp only [Frc.afterTests, hb, hf, Bool.and_self, if_true, Frc.loopStep, Frc.loopStroke]
  split
  · rfl
  · split <;> rfl

theorem Frc.afterTests_still {f : Frc} {before : ForceState} (h : before.looped = false ∨ f.state.looped = false)
    (c : ConfigImage) : f.afterTests c before = f := by
  rcases h with h | h <;> simp [Frc.afterTests, h]

/-! ### Pairs of the approach (R115) -/

section
variable {f : Frc} {c : ConfigImage} {k : ForceCycle} {mark : TickSource} {now : Time}

/-- LOAD as contact enters it (R115). -/
def Frc.contacted (f : Frc) (k : ForceCycle) : Frc :=
  { f with contact := true, state := .load, pairs := 0, setPoint := k.contactAt }

theorem Frc.cyclePair_approach (hs : f.state = .approach) : f.cyclePair c k mark now = f.approachPair c k now := by
  simp only [Frc.cyclePair, hs]

theorem Frc.approachPair_contact (hc : (k.contactAt : Int) ≤ f.reading) (ho : f.overloaded k ≠ true) :
    f.approachPair c k now = (f.contacted k, [.contact]) := by
  have free : (f.contacted k).overloaded k ≠ true := ho
  exact (if_pos hc).trans (if_neg free)

theorem Frc.approachPair_contactOverloaded (hc : (k.contactAt : Int) ≤ f.reading) (ho : f.overloaded k = true) :
    f.approachPair c k now = ((f.contacted k).enterFastUnload now, [.contact, .overload true]) := by
  have exceeds : (f.contacted k).overloaded k = true := ho
  have alone := Frc.overload_alone (f := f.contacted k) (by rintro ⟨⟩) c now
  refine ((if_pos hc).trans (if_pos exceeds)).trans ?_
  exact congrArg (fun r : Frc × List ForceReport => (r.1, ForceReport.contact :: r.2)) alone

theorem Frc.approachPair_overloaded (hs : f.state = .approach) (hc : f.reading < k.contactAt) (ho : f.overloaded k = true) :
    f.approachPair c k now = (f.enterFastUnload now, [.overload f.contact]) := by
  rw [Frc.approachPair, if_neg (Int.not_le.mpr hc), if_pos ho]
  exact Frc.overload_alone (by simp [hs]) c now

theorem Frc.approachPair_advances {z : Nat} (hc : f.reading < k.contactAt) (ho : f.overloaded k ≠ true)
    (hz : f.stroke = some z) (hl : z ≠ c.strokeLength * 1000) :
    f.approachPair c k now = ({ f with stroke := some (min (z + c.approachSpeed) (c.strokeLength * 1000)) }, []) := by
  have notEnd : f.stroke ≠ some (c.strokeLength * 1000) := by simpa [hz] using hl
  rw [Frc.approachPair, if_neg (Int.not_le.mpr hc), if_neg ho, if_neg notEnd, hz, Option.map_some]

theorem Frc.approachPair_exhausted (hc : f.reading < k.contactAt) (ho : f.overloaded k ≠ true)
    (hz : f.stroke = some (c.strokeLength * 1000)) :
    f.approachPair c k now = (f.enterRetract now, [.strokeExhausted]) := by
  rw [Frc.approachPair, if_neg (Int.not_le.mpr hc), if_neg ho, if_pos hz]

/-! ### Pairs of the ramp and of the unloads (R116, R121 to R123) -/

theorem Frc.cyclePair_load (hs : f.state = .load) : f.cyclePair c k mark now = f.loadPair c k mark now := by
  simp only [Frc.cyclePair, hs]

theorem Frc.cyclePair_unload (hs : f.state = .unload) : f.cyclePair c k mark now = f.unloadPair c k now := by
  simp only [Frc.cyclePair, hs]

/-- In LOAD and UNLOAD the count and the set-point of an overloaded pair do not last (R121). -/
theorem Frc.cyclePair_overloaded (hs : f.state = .load ∨ f.state = .unload) (ho : f.overloaded k = true) :
    f.cyclePair c k mark now = (f.enterFastUnload now, [.overload f.contact]) := by
  have ends : ∀ n target, ({ f with pairs := n, setPoint := target } : Frc).overload c now =
      (f.enterFastUnload now, [.overload f.contact]) := fun n target =>
    Frc.overload_alone (f := { f with pairs := n, setPoint := target }) (by rcases hs with hs | hs <;> simp [hs]) c now
  rcases hs with hs | hs
  · exact (Frc.cyclePair_load hs).trans ((if_pos ho).trans (ends ..))
  · exact (Frc.cyclePair_unload hs).trans ((if_pos ho).trans (ends ..))

/-- Load pair t before pair T (R116). -/
theorem Frc.loadPair_ramps (ho : f.overloaded k ≠ true) (hn : f.pairs + 1 ≠ k.loadTime) :
    f.loadPair c k mark now =
      ({ f with
          pairs := f.pairs + 1, setPoint := k.contactAt + (k.force - k.contactAt) * (f.pairs + 1) / k.loadTime }, []) :=
  (if_neg ho).trans (if_neg hn)

/-- Load pair T reaches F and enters HOLD (R116, R134). -/
theorem Frc.loadPair_ends (ho : f.overloaded k ≠ true) (hn : f.pairs + 1 = k.loadTime) (hf : k.contactAt ≤ k.force) :
    f.loadPair c k mark now =
      ({ f with
          state := .hold, setPoint := k.force, pairs := 0, holdSource := some { opening := mark, marks := [] } }, []) := by
  have reaches : k.contactAt + (k.force - k.contactAt) * (f.pairs + 1) / k.loadTime = k.force := by
    rw [hn, Nat.mul_div_cancel _ (by omega)]
    omega
  simp only [Frc.loadPair, reaches]
  exact (if_neg ho).trans (if_pos hn)

/-- Unload pair u: the falling set-point, and the end of the unload at 0 with a low reading (R122). -/
theorem Frc.unloadPair_lowers (ho : f.overloaded k ≠ true) :
    f.unloadPair c k now =
      if unloadSetPoint c k (f.pairs + 1) = 0 ∧ 2 * f.reading < k.contactAt then (f.enterRetract now, [])
      else ({ f with pairs := f.pairs + 1, setPoint := unloadSetPoint c k (f.pairs + 1) }, []) :=
  if_neg ho

theorem Frc.cyclePair_fastUnload (hs : f.state = .fastUnload) : f.cyclePair c k mark now = (f.fastUnloadPair k now, []) := by
  simp only [Frc.cyclePair, hs]

/-- A pair of the fast unload withdraws, and ends it with a low reading (R123; log 26). -/
theorem Frc.fastUnloadPair_withdraws {z : Nat} (hz : f.stroke = some z) :
    f.fastUnloadPair k now =
      if 2 * f.reading < k.contactAt then ({ f with stroke := some (z - 2000) } : Frc).enterRetract now
      else { f with stroke := some (z - 2000) } := by
  have moved : f.withdrawn = { f with stroke := some (z - 2000) } := by simp [Frc.withdrawn, hz, retractSpeed]
  rw [Frc.fastUnloadPair, moved]

/-! ### Pairs of the hold (R117 to R121) -/

theorem Frc.cyclePair_hold (hs : f.state = .hold) : f.cyclePair c k mark now = f.holdPair c k mark now := by
  simp only [Frc.cyclePair, hs]

/-- A hold tick counted in the hold-source record at hand (R117). -/
def Frc.ticked (f : Frc) (mark : TickSource) (h : HoldSource) : Frc :=
  { f with holdTicks := f.holdTicks + 1, holdSource := some { h with marks := mark :: h.marks } }

theorem Frc.countHold_ticked {h : HoldSource} (hh : f.holdSource = some h) : f.countHold mark = f.ticked mark h := by
  simp [Frc.countHold, Frc.ticked, hh]

/-- An overload in HOLD: the tick is counted, and the results are handed over (R117, R120, R121). -/
theorem Frc.holdPair_overloaded {h : HoldSource} (hs : f.state = .hold) (hh : f.holdSource = some h)
    (ho : f.overloaded k = true) :
    f.holdPair c k mark now =
      ((f.ticked mark h).enterFastUnload now, [(f.ticked mark h).holdReport c, .overload f.contact]) := by
  rw [Frc.holdPair, Frc.countHold_ticked hh]
  exact (if_pos ho).trans (Frc.overload_hold (f := f.ticked mark h) hs c now)

/-- A lost contact ends the hold, its pair unaccumulated (R117, R119). -/
theorem Frc.holdPair_lostContact {h : HoldSource} (hh : f.holdSource = some h) (ho : f.overloaded k ≠ true)
    (hl : f.reading < k.contactAt) :
    f.holdPair c k mark now =
      ((f.ticked mark h).enterUnload c k now, [.lostContact, (f.ticked mark h).holdReport c]) := by
  rw [Frc.holdPair, Frc.countHold_ticked hh]
  exact (if_neg ho).trans (if_pos hl)

/-- The run of disagreements after a cross-check (R118). -/
def Frc.checkedRun (f : Frc) (k : ForceCycle) : Nat :=
  if k.crossLimit < (f.reading - f.checkReading).natAbs then min (f.disagreement + 1) 3
  else if f.disagreement = 3 then 3 else 0

/-- Whether a cross-check reports the third disagreement in a row (R118). -/
def Frc.disagrees (f : Frc) (k : ForceCycle) : Bool :=
  decide (k.crossLimit < (f.reading - f.checkReading).natAbs) && f.disagreement == 2

theorem Frc.crossCheck_eq (f : Frc) (k : ForceCycle) :
    f.crossCheck k = ({ f with disagreement := f.checkedRun k }, if f.disagrees k = true then [.forceDisagree] else []) := by
  unfold Frc.crossCheck Frc.checkedRun Frc.disagrees
  by_cases apart : k.crossLimit < (f.reading - f.checkReading).natAbs
  · have apart' : (k.crossLimit : Int) < (f.reading - f.checkReading).natAbs := Int.ofNat_lt.mpr apart
    rw [if_pos apart', if_pos apart]
    by_cases third : f.disagreement = 2 <;> simp [apart, third]
  · have agrees : ¬(k.crossLimit : Int) < (f.reading - f.checkReading).natAbs := mt Int.ofNat_lt.mp apart
    rw [if_neg agrees, if_neg apart, decide_eq_false apart, Bool.false_and, if_neg Bool.false_ne_true]
    by_cases stays : f.disagreement = 3
    · rw [if_pos stays, if_pos stays, ← stays]
    · rw [if_neg stays, if_neg stays]

/-- The record after a hold pair that is counted, accumulated and cross-checked (R117, R118). -/
def Frc.held (f : Frc) (k : ForceCycle) (mark : TickSource) (h : HoldSource) : Frc :=
  { (f.ticked mark h).accumulate with disagreement := f.checkedRun k }

/-- A pair within the dwell (R117, R118). -/
theorem Frc.holdPair_held {h : HoldSource} (hh : f.holdSource = some h) (ho : f.overloaded k ≠ true)
    (hl : (k.contactAt : Int) ≤ f.reading) (hd : f.holdTicks + 1 ≠ k.dwell) :
    f.holdPair c k mark now = (f.held k mark h, if f.disagrees k = true then [.forceDisagree] else []) := by
  rw [Frc.holdPair, Frc.countHold_ticked hh]
  refine (if_neg ho).trans ((if_neg (Int.not_lt.mpr hl)).trans ?_)
  rw [Frc.crossCheck_eq]
  exact if_neg hd

/-- The pair that completes the dwell enters UNLOAD with the results of the hold (R117 to R120). -/
theorem Frc.holdPair_ends {h : HoldSource} (hh : f.holdSource = some h) (ho : f.overloaded k ≠ true)
    (hl : (k.contactAt : Int) ≤ f.reading) (hd : f.holdTicks + 1 = k.dwell) :
    f.holdPair c k mark now =
      ((f.held k mark h).enterUnload c k now,
        (if f.disagrees k = true then [.forceDisagree] else []) ++ [(f.held k mark h).holdReport c]) := by
  rw [Frc.holdPair, Frc.countHold_ticked hh]
  refine (if_neg ho).trans ((if_neg (Int.not_lt.mpr hl)).trans ?_)
  rw [Frc.crossCheck_eq]
  exact if_pos hd

end

/-! ### The results of a hold (R120, R134) -/

/-- The results of a hold whose last tick is counted: a mark of INTERNAL, at a tick or at the opening, makes it untraceable
(R120, R134). -/
theorem Frc.holdReport_counted {f : Frc} {k : ForceCycle} {h : HoldSource} {mark : TickSource} (hk : f.cycle = some k)
    (hh : f.holdSource = some { h with marks := mark :: h.marks }) (c : ConfigImage) :
    f.holdReport c =
      .holdResults (outsideTolerance c.tolerancePermille k.force f.holdMean)
        ((mark :: h.marks).contains .internal || h.opening == .internal) := by
  have source : HoldSource.untraceable { h with marks := mark :: h.marks } =
      ((mark :: h.marks).contains .internal || h.opening == .internal) := by
    rw [HoldSource.untraceable_eq, List.contains_cons, Bool.or_comm, BEq.comm]
  simp only [Frc.holdReport, hk, hh, source]

/-! ### What the Cycle Controller makes of the reports (R11, R34, R39) -/

section
variable {s : State} {i : IndentItem}

/-- Contact creates the entry with the flags gathered so far, and keeps the mark of its tick (R11, R134). -/
theorem State.onForceReport_contact (hc : s.cyc.current = some { work := .indent i, phase := .indent, step := .working }) :
    s.onForceReport .contact =
      { s with
        sst.map := s.sst.map ++ [.atContact i.fields s.cyc.gatheredIndent s.now]
        cyc.contactMark := some s.tbu.tickMark } := by
  simp only [State.onForceReport, IndentFlags.gather, State.onContact, hc]
  rfl

/-- An item in ENDING after a force cycle that was written: its flags, and the mark of its contact (R39). -/
def State.forceEnding (s : State) (i : IndentItem) (flags : IndentFlags) (mark : Option TickSource) : State :=
  { s with
    cyc.current := some { work := .indent i, phase := .indent, step := .ending }
    cyc.contactMark := mark
    cyc.gatheredIndent := flags }

/-- The end of the stroke is written NO_CONTACT (R10, R39). -/
theorem State.onForceReport_exhausted (hc : s.cyc.current = some { work := .indent i, phase := .indent, step := .working })
    (hr : s.hasMessageRoom 1) :
    let e := Entry.unmade i.fields .noContact s.cyc.gatheredIndent s.now
    s.onForceReport .strokeExhausted =
      (s.forceEnding i s.cyc.gatheredIndent s.cyc.contactMark).reported (s.sst.map ++ [e]) e e.outcome e.measureFlags := by
  intro e
  have fields : s.cyc.indentFields = some i.fields := by simp [Cyc.indentFields, hc]
  have ends : s.onStrokeExhausted =
      { s.createUnmade i.fields .noContact s.cyc.gatheredIndent with cyc := s.cyc.setStep .ending } := by
    simp only [State.onStrokeExhausted, fields]
  refine Eq.trans (b := s.onStrokeExhausted) rfl ?_
  rw [ends, State.createUnmade_reported hr, Cyc.setStep_current hc]
  rfl

/-- An overload before contact is written ABORTED_BEFORE_CONTACT (R10, R39, R121). -/
theorem State.onForceReport_overloadBefore
    (hc : s.cyc.current = some { work := .indent i, phase := .indent, step := .working })
    (hm : s.cyc.contactMark = none) (hr : s.hasMessageRoom 1) (after : Bool) :
    let flags := { s.cyc.gatheredIndent with overload := true }
    let e := i.fields.abandoned flags s.tbu.stationTime
    s.onForceReport (.overload after) =
      (s.forceEnding i flags none).reported (s.sst.map ++ [e]) e e.outcome e.measureFlags := by
  intro flags e
  let t : State := { s with cyc.gatheredIndent := flags }
  have written := State.writeAbandoned_before (s := t) hc (by simp) rfl (.inr rfl) hm hr
  have ends : s.onForceReport (.overload after) = { t.writeAbandoned with cyc := t.cyc.setStep .ending } := rfl
  rw [ends, written, Cyc.setStep_current (c := t.cyc) hc, State.forceEnding, ← hm]
  rfl

/-- An overload after contact is written ABORTED with the flags gathered (R12, R39, R121). -/
theorem State.onForceReport_overloadAfter {mark : TickSource} {e : Entry} {map : List Entry} {written : Entry → Entry}
    (hc : s.cyc.current = some { work := .indent i, phase := .indent, step := .working })
    (hm : s.cyc.contactMark = some mark) (he : s.sst.entry? i.fields.site = some e) (hr : s.hasMessageRoom 1)
    (hw : State.impressionAbandoned { s with cyc.gatheredIndent := { s.cyc.gatheredIndent with overload := true } } mark =
      written) (hmap : s.mapWith i.fields.site written = map) (after : Bool) :
    s.onForceReport (.overload after) =
      (s.forceEnding i { s.cyc.gatheredIndent with overload := true } (some mark)).reported map (written e)
        (written e).outcome (written e).measureFlags := by
  subst hw hmap
  let t : State := { s with cyc.gatheredIndent := { s.cyc.gatheredIndent with overload := true } }
  have wrote := State.writeAbandoned_after (s := t) hc (by simp) rfl rfl hm he hr
  have ends : s.onForceReport (.overload after) = { t.writeAbandoned with cyc := t.cyc.setStep .ending } := rfl
  rw [ends, wrote, Cyc.setStep_current (c := t.cyc) hc, State.forceEnding, ← hm]
  rfl

/-- The entry just created is the one of its site, where no other carries the site id (R4, R11). -/
theorem Store.entry?_created {st : Store} {map : List Entry} {e : Entry} (hm : st.map = map ++ [e])
    (fresh : ∀ d ∈ map, d.fields.site ≠ e.fields.site) : st.entry? e.fields.site = some e := by
  have others : map.find? (fun d => d.fields.site == e.fields.site) = none := by simpa using fresh
  simp [Store.entry?, hm, others]

/-- Rewriting the entry just created leaves the others, where none carries its site id. -/
theorem State.mapWith_created {u : State} {map : List Entry} {e : Entry} (hm : u.sst.map = map ++ [e])
    (fresh : ∀ d ∈ map, d.fields.site ≠ e.fields.site) (f : Entry → Entry) :
    u.mapWith e.fields.site f = map ++ [f e] := by
  have others : (map.map fun d => if d.fields.site = e.fields.site then f d else d) = map := by
    refine (List.map_congr_left fun d hd => ?_).trans (List.map_id _)
    exact if_neg (fresh d hd)
  simp [State.mapWith, hm, others]

/-- The third disagreement in a row is gathered where it is reported (R34, R118). -/
theorem State.withForce_disagrees (s : State) (f : Frc) (third : Bool) (reports : List ForceReport) :
    s.withForce (f, (if third = true then [.forceDisagree] else []) ++ reports) =
      State.withForce
        { s with cyc.gatheredIndent.forceDisagree := s.cyc.gatheredIndent.forceDisagree || third } (f, reports) := by
  cases third
  · simp
  · simp only [Bool.or_true]
    rfl

end

/-! ### A sample pair of the cycle, whole (R112) -/

section
variable {s : State} {p q : RawSample} {k : ForceCycle} {g f : Frc} {reports : List ForceReport} {before after : ForceState}

/-- A pair without a move of the force loop: the tests' record and reports (R112; log 25). -/
theorem exec_samplePair_still (hr : s.resetHeld = false) (hk : s.frc.cycle = some k)
    (hg : s.frc.record s.cfg p.toInt q.toInt = g) (h : g.cyclePair s.cfg k s.tbu.tickMark s.now = (f, reports))
    (hs : s.frc.state = before) (tested : before.tested = true) (hf : before.looped = false ∨ f.state.looped = false) :
    exec (.samplePair p q) s = .next (s.withForce (f, reports)) := by
  subst hs
  rw [exec_samplePair_live hr, Frc.takePair_tested hk tested, hg, h, Frc.afterTests_still hf]

/-- A pair after whose tests the force loop moves the stroke (R112; log 25). -/
theorem exec_samplePair_moves (hr : s.resetHeld = false) (hk : s.frc.cycle = some k)
    (hg : s.frc.record s.cfg p.toInt q.toInt = g) (h : g.cyclePair s.cfg k s.tbu.tickMark s.now = (f, reports))
    (hs : s.frc.state = before) (hb : before.looped = true) (hf : f.state = after) (ha : after.looped = true) :
    exec (.samplePair p q) s = .next (s.withForce ({ f with stroke := f.loopStroke s.cfg }, reports)) := by
  subst hs hf
  have tested : s.frc.state.tested = true := by
    revert hb
    cases s.frc.state <;> simp [ForceState.looped, ForceState.tested]
  rw [exec_samplePair_live hr, Frc.takePair_tested hk tested, hg, h, Frc.afterTests_moves hb ha]

end

/-- Settles O53: each pair by the force state and the branch of its tests. -/
theorem contactRampAndDwell : Obligations.ContactRampAndDwell := by
  unfold Obligations.ContactRampAndDwell
  intro s p q k zp zq hl hk ht reading a b read ahead moved retract fast overloaded mean outside counted untraceable
  have hr := hl.1
  have read_eq : s.frc.record s.cfg p.toInt q.toInt = read := by
    simp only [Frc.record, Frc.calibrated, ht, read]
    rfl
  have exceeds : read.overloaded k = true ↔ overloaded := Frc.overloaded_iff
  have still : ∀ {f : Frc} {reports : List ForceReport} {before : ForceState},
      read.cyclePair s.cfg k s.tbu.tickMark s.now = (f, reports) → s.frc.state = before → before.tested = true →
      before.looped = false ∨ f.state.looped = false → exec (.samplePair p q) s = .next (s.withForce (f, reports)) :=
    exec_samplePair_still hr hk read_eq
  have moves : ∀ {f : Frc} {reports : List ForceReport} {before after : ForceState},
      read.cyclePair s.cfg k s.tbu.tickMark s.now = (f, reports) → s.frc.state = before → before.looped = true →
      f.state = after → after.looped = true →
      exec (.samplePair p q) s = .next (s.withForce ({ f with stroke := f.loopStroke s.cfg }, reports)) :=
    exec_samplePair_moves hr hk read_eq
  have outside_eq : ∀ m, outsideTolerance s.cfg.tolerancePermille k.force m = outside m := fun m => by cases m <;> rfl
  have results : ∀ {f : Frc} {h : HoldSource}, f.cycle = some k → f.holdSource = some (counted h) →
      f.holdReport s.cfg = .holdResults (outside f.holdMean) (untraceable h) := fun hk' hh => by
    rw [← outside_eq]
    exact Frc.holdReport_counted hk' hh s.cfg
  have approach : ∀ {r : Frc × List ForceReport}, s.frc.state = .approach → read.approachPair s.cfg k s.now = r →
      exec (.samplePair p q) s = .next (s.withForce r) := fun hs h =>
    still ((Frc.cyclePair_approach (f := read) hs).trans h) hs rfl (.inl rfl)
  have inHold : s.frc.state = .hold →
      read.cyclePair s.cfg k s.tbu.tickMark s.now = read.holdPair s.cfg k s.tbu.tickMark s.now := Frc.cyclePair_hold (f := read)
  refine ⟨fun hs hn => ?_, fun hs hn => ?_, fun z hs hz => ?_, fun i hc => ?_⟩
  · rw [exec_loadRampEnd_named hr hk, if_pos ⟨hs, hn⟩]
  · rw [exec_dwellEnd_named hr hk, if_pos ⟨hs, hn⟩]
  · refine (still (Frc.cyclePair_fastUnload (f := read) hs) hs rfl (.inl rfl)).trans ?_
    rw [Frc.fastUnloadPair_withdraws (f := read) hz, Frc.enterRetract_at (z := z - 2000) rfl]
    rfl
  intro g unmade ended made abandoned rewritten
  refine ⟨fun hs ho reached => ?_, fun hs ho reached hroom hfresh => ?_,
    fun z hs ho below hz => ⟨fun onTheWay => ?_, fun atEnd hroom => ?_⟩, fun hs ho below hm hroom => ?_,
    fun mark e hs ho hm he hroom => ?_, fun mark e h hs ho hm he hh hroom => ?_, fun hs ho hn hF => ?_,
    fun hs ho hn hF => ?_, fun h hs ho reached hh hn => ?_, fun h hs ho below hh => ?_,
    fun h hs ho reached hh hn => ?_, fun z hs ho hz => ?_⟩
  · exact (approach hs (Frc.approachPair_contact reached (mt exceeds.mp ho))).trans
      (congrArg _ (State.onForceReport_contact (s := { s with frc := read.contacted k }) hc))
  · let contacted : State := { s with frc := (read.contacted k).enterFastUnload s.now }
    have created := State.onForceReport_contact (s := contacted) hc
    have writes := State.onForceReport_overloadAfter
      (s := { contacted with sst.map := s.sst.map ++ [made], cyc.contactMark := some s.tbu.tickMark }) hc rfl
      (Store.entry?_created (e := made) rfl hfresh) hroom rfl (State.mapWith_created (e := made) rfl hfresh _) true
    exact (approach hs (Frc.approachPair_contactOverloaded reached (exceeds.mpr ho))).trans
      (congrArg _ ((congrArg (State.onForceReport · (.overload true)) created).trans writes))
  · exact approach hs (Frc.approachPair_advances below (mt exceeds.mp ho) hz onTheWay)
  · subst atEnd
    refine (approach hs (Frc.approachPair_exhausted below (mt exceeds.mp ho) hz)).trans (congrArg _ ?_)
    rw [Frc.enterRetract_at (f := read) hz]
    exact State.onForceReport_exhausted (s := { s with frc := retract read _ }) hc hroom
  · exact (approach hs (Frc.approachPair_overloaded hs below (exceeds.mpr ho))).trans
      (congrArg _ (State.onForceReport_overloadBefore (s := { s with frc := fast }) hc hm hroom _))
  · have tested : s.frc.state.tested = true := by rcases hs with hs | hs <;> rw [hs] <;> rfl
    exact (still (Frc.cyclePair_overloaded (f := read) hs (exceeds.mpr ho)) rfl tested (.inr rfl)).trans
      (congrArg _ (State.onForceReport_overloadAfter (s := { s with frc := fast }) hc hm he hroom rfl rfl _))
  · intro flags written
    let handedOver : State :=
      { s with
        frc := (read.ticked s.tbu.tickMark h).enterFastUnload s.now
        cyc.gatheredIndent :=
          { g with
            forceTol := g.forceTol || outside (mean s.frc.holdSum s.frc.holdSamples)
            dwellUntraceable := g.dwellUntraceable || untraceable h } }
    have pair := (inHold hs).trans (Frc.holdPair_overloaded (f := read) hs hh (exceeds.mpr ho))
    rw [results (f := read.ticked s.tbu.tickMark h) (h := h) hk rfl] at pair
    have same : State.impressionAbandoned { handedOver with cyc.gatheredIndent := flags } mark = written := by
      funext d
      simp only [written, abandoned, hh]
      rfl
    exact (still pair hs rfl (.inr rfl)).trans
      (congrArg _ (State.onForceReport_overloadAfter (s := handedOver) hc hm he hroom same rfl _))
  · exact moves ((Frc.cyclePair_load (f := read) hs).trans (Frc.loadPair_ramps (mt exceeds.mp ho) hn)) hs rfl hs rfl
  · rw [exec_loadRampEnd_named hr hk, if_pos ⟨hs, hn⟩]
    exact moves ((Frc.cyclePair_load (f := read) hs).trans (Frc.loadPair_ends (mt exceeds.mp ho) hn hF)) hs rfl rfl rfl
  · have gathers := State.withForce_disagrees s
      { read.held k s.tbu.tickMark h with stroke := (read.held k s.tbu.tickMark h).loopStroke s.cfg } (read.disagrees k) []
    rw [List.append_nil] at gathers
    exact (moves ((inHold hs).trans (Frc.holdPair_held hh (mt exceeds.mp ho) reached hn)) hs rfl hs rfl).trans
      (congrArg _ gathers)
  · have pair := (inHold hs).trans (Frc.holdPair_lostContact (f := read) hh (mt exceeds.mp ho) below)
    rw [results (f := read.ticked s.tbu.tickMark h) (h := h) hk rfl] at pair
    exact moves pair hs rfl rfl rfl
  · have pair := (inHold hs).trans (Frc.holdPair_ends (f := read) hh (mt exceeds.mp ho) reached hn)
    rw [results (f := read.held k s.tbu.tickMark h) (h := h) hk rfl] at pair
    rw [← hn]
    exact (moves pair hs rfl rfl rfl).trans
      (congrArg _ (State.withForce_disagrees ..))
  · intro u target
    have pair : read.cyclePair s.cfg k s.tbu.tickMark s.now = _ :=
      (Frc.cyclePair_unload (f := read) hs).trans (Frc.unloadPair_lowers (mt exceeds.mp ho))
    by_cases low : target = 0 ∧ 2 * a < k.contactAt
    · rw [if_pos low]
      refine (still (pair.trans (if_pos low)) hs rfl (.inr rfl)).trans ?_
      rw [Frc.enterRetract_at (f := read) hz]
      rfl
    · rw [if_neg low]
      exact moves (pair.trans (if_neg low)) hs rfl hs rfl

end Sys2Proof.Machine
end

section
/-!
PROOFS. The reference monitor: REF_RESELECT (O26), the ends of its windows and the switch of the source (O55).
-/

-- One theorem after another: each one elaborated beside the others takes a thread with a stack of its own.
set_option Elab.async false

namespace Sys2Proof.Machine

/-! ### REF_RESELECT (R133) -/

section
variable {t : Tbu}

theorem Tbu.reselect_lost (h : t.monitor = .lost) :
    t.reselect = { t with goodRun := 0, badRun := 0, monitor := .qualifying } := by simp only [Tbu.reselect, h]

/-- The run of good windows begins again, whether or not it was complete (R133). -/
theorem Tbu.reselect_unselected (h : t.monitor = .qualifying ∨ t.monitor = .qualified) :
    t.reselect = { t with goodRun := 0, monitor := .qualifying } := by
  rcases h with h | h
  · simp only [Tbu.reselect, h]
  · simp only [Tbu.reselect, h]

theorem Tbu.reselect_selected (h : t.monitor = .selected) : t.reselect = t := by simp only [Tbu.reselect, h]

end

/-- REF_RESELECT to the station's own rank meets the test of R133. -/
theorem exec_refReselect_heard {s : State} {dest : BitVec 4} {tag : Byte} (hh : s.hears dest) :
    exec (.refReselect dest [tag]) s =
      .next (s.answerThen tag 0x19#8 s.reselectCode fun s => { s with tbu := s.tbu.reselect }) := by
  obtain ⟨hl, ho, -⟩ := hh
  rw [exec_refReselect, State.act_live hl.1, State.takeRequest_own hl ho (r := .refReselect) rfl]
  rfl

/-- Settles O26: R133's test, and the effect by the monitor state. -/
theorem reselectAnswer : Obligations.ReselectAnswer := by
  intro dest tag s hh refused accepted
  have room : s.hasMessageRoom 1 := hh.2.2
  have accepts : ¬refused → ∀ {t : Tbu}, s.tbu.reselect = t →
      exec (.refReselect dest [tag]) s = .next { accepted with tbu := t } := by
    intro free t effect
    have code : s.reselectCode = .accepted := if_neg free
    subst effect
    rw [exec_refReselect_heard hh, State.answerThen_accepted room code]
    rfl
  refine ⟨fun h => ?_, fun free h => accepts free (Tbu.reselect_lost h),
    fun free h => accepts free (Tbu.reselect_unselected h), fun free h => accepts free (Tbu.reselect_selected h)⟩
  have code : s.reselectCode = .wrongMode := if_pos h
  rw [exec_refReselect_heard hh, code, State.answerThen_refused room (by decide)]

/-! ### The end of a window (R130, R132) -/

theorem goodWindow_iff {divider edges : Nat} :
    goodWindow divider edges = true ↔ ((edges : Int) - (divider / 10 : Nat)).natAbs ≤ divider / 10 / 32 := decide_eq_true_iff

section
variable {t : Tbu} {divider edges : Nat}

/-- A good window short of the 64th (R130). -/
theorem Tbu.windowEnd_counts (h : t.monitor = .qualifying) (good : goodWindow divider edges = true) (hn : t.goodRun < 63) :
    t.windowEnd divider edges = { t with goodRun := t.goodRun + 1 } := by
  have short : t.goodRun + 1 < 64 := by omega
  simp [Tbu.windowEnd, h, Tbu.qualify, good, short]

/-- The 64th good window in a row (R130). -/
theorem Tbu.windowEnd_qualifies (h : t.monitor = .qualifying) (good : goodWindow divider edges = true) (hn : t.goodRun = 63) :
    t.windowEnd divider edges = { t with goodRun := 64, monitor := .qualified } := by
  simp [Tbu.windowEnd, h, Tbu.qualify, good, hn]

/-- A bad window before the switch begins the qualification again (R130). -/
theorem Tbu.windowEnd_disqualifies (h : t.monitor = .qualifying ∨ t.monitor = .qualified)
    (bad : ¬goodWindow divider edges = true) :
    t.windowEnd divider edges = { t with goodRun := 0, monitor := .qualifying } := by
  rcases h with h | h
  · simp [Tbu.windowEnd, h, Tbu.qualify, bad]
  · simp [Tbu.windowEnd, h, bad]

/-- A window that nothing rests on: no reference is watched, or a qualified one stays good (R130). -/
theorem Tbu.windowEnd_idle
    (h : t.monitor = .off ∨ t.monitor = .lost ∨ (t.monitor = .qualified ∧ goodWindow divider edges = true)) :
    t.windowEnd divider edges = t := by
  rcases h with h | h | ⟨h, good⟩
  · simp only [Tbu.windowEnd, h]
  · simp only [Tbu.windowEnd, h]
  · simp only [Tbu.windowEnd, h, good, if_true]

theorem Tbu.windowEnd_selected (h : t.monitor = .selected) :
    t.windowEnd divider edges = t.watch (goodWindow divider edges) edges := by simp only [Tbu.windowEnd, h]

/-- A single bad window with edges is kept in mind (R132). -/
theorem Tbu.watch_firstBad {good : Bool} (bad : ¬good = true) (he : edges ≠ 0) (hn : t.badRun = 0) :
    t.watch good edges = { t with badRun := 1 } := by simp [Tbu.watch, bad, he, hn]

/-- A window with no edge, or a bad one after a bad one, loses the reference (R132). -/
theorem Tbu.watch_loses {good : Bool} (bad : ¬good = true) (h : edges = 0 ∨ t.badRun = 1) : t.watch good edges = t.lose := by
  have second : edges = 0 ∨ t.badRun ≠ 0 := h.imp_right fun one => by omega
  exact (if_neg bad).trans (if_pos second)

end

/-! ### The switch of the source (R131) -/

/-- The force states that hold the switch off (R131). -/
theorem ForceState.looped_iff {f : ForceState} : f.looped = true ↔ f = .load ∨ f = .hold ∨ f = .unload := by
  cases f <;> simp [ForceState.looped]

theorem Tbu.switch_qualified {t : Tbu} {f : ForceState} (h : t.monitor = .qualified) (hf : ¬f.looped = true) :
    t.switch f = { t with source := .reference, monitor := .selected, badRun := 0 } :=
  if_pos ⟨h, Bool.eq_false_iff.mpr hf⟩

theorem Tbu.switch_heldOff {t : Tbu} {f : ForceState} (h : t.monitor ≠ .qualified ∨ f.looped = true) : t.switch f = t :=
  if_neg fun ⟨qualified, free⟩ => h.elim (· qualified) fun looped => Bool.eq_false_iff.mp free looped

/-- Settles O55: a window by the monitor state in which it ends, and the switch by R131's test. -/
theorem referenceMonitor : Obligations.ReferenceMonitor := by
  rintro s edges ⟨hr, -, -⟩ expected good answer
  have judged : goodWindow s.cfg.referenceDivider edges = true ↔ good := goodWindow_iff
  have ends : ∀ {t : Tbu}, s.tbu.windowEnd s.cfg.referenceDivider edges = t → answer t := by
    rintro t rfl
    exact (exec_refWindowEnd s edges).trans (State.act_live hr _)
  have switches : ∀ {t : Tbu}, s.tbu.switch s.frc.state = t → exec .sourceSwitch s = .next { s with tbu := t } := by
    rintro t rfl
    exact (exec_sourceSwitch s).trans (State.act_live hr _)
  refine ⟨fun h hg hn => ?_, fun h hg hn => ?_, fun h hb => ?_, fun h => ?_, fun h hg => ?_, fun h hb he hn => ?_,
    fun h hb lost => ⟨min (s.tbu.badRun + 1) 2, ?_⟩, fun h load hold unload => ?_, fun h => ?_⟩
  · exact ends (Tbu.windowEnd_counts h (judged.mpr hg) hn)
  · exact ends (Tbu.windowEnd_qualifies h (judged.mpr hg) hn)
  · exact ends (Tbu.windowEnd_disqualifies h (mt judged.mp hb))
  · exact ends (Tbu.windowEnd_idle (h.imp_right (.imp_right (.imp_right judged.mpr))))
  · exact ends ((Tbu.windowEnd_selected h).trans (if_pos (judged.mpr hg)))
  · exact ends ((Tbu.windowEnd_selected h).trans (Tbu.watch_firstBad (mt judged.mp hb) he hn))
  · exact ends ((Tbu.windowEnd_selected h).trans (Tbu.watch_loses (mt judged.mp hb) lost))
  · have free : ¬s.frc.state.looped = true := by simp [ForceState.looped_iff, load, hold, unload]
    exact switches (Tbu.switch_qualified h free)
  · exact switches (Tbu.switch_heldOff (h.imp_right ForceState.looped_iff.mpr))

end Sys2Proof.Machine
end

section
/-!
PROOFS. From profile to result (O60): the levels, the search for the edges, the rounded quotients and the union of the flags.
-/

-- One theorem after another: each one elaborated beside the others takes a thread with a stack of its own.
set_option Elab.async false

namespace Sys2Proof.Machine

/-! ### Guard and levels (R155) -/

/-- The guard leaves a centre of three points, and is the largest up to G that does (R155). -/
theorem guardOf_clamped {g n : Nat} (hn : 64 ≤ n) :
    guardOf g n ≤ g ∧ 2 * guardOf g n + 3 ≤ n ∧ (guardOf g n = g ∨ n < 2 * (guardOf g n + 1) + 3) := by
  unfold guardOf
  omega

theorem guardOf_pos {g n : Nat} (hg : 0 < g) (hn : 64 ≤ n) : 0 < guardOf g n := by
  unfold guardOf
  omega

theorem leastOf_mem_le {l : List Nat} (h : l ≠ []) : leastOf l ∈ l ∧ ∀ v ∈ l, leastOf l ≤ v := by
  obtain ⟨v, rest, rfl⟩ := List.exists_cons_of_ne_nil h
  exact List.min?_eq_some_iff.mp List.min?_cons'

theorem mem_betweenGuards {p : List Nat} {g v : Nat} :
    v ∈ betweenGuards p g ↔ ∃ c, g ≤ c ∧ c + g < p.length ∧ point p c = v := by
  simp only [betweenGuards, List.mem_iff_getElem, List.getElem_take, List.getElem_drop, List.length_take, List.length_drop]
  constructor
  · rintro ⟨i, hi, rfl⟩
    exact ⟨g + i, by omega, by omega, List.getD_eq_getElem ..⟩
  · rintro ⟨c, hg, hc, rfl⟩
    refine ⟨c - g, by omega, ?_⟩
    simp only [Nat.add_sub_cancel' hg]
    exact (List.getD_eq_getElem ..).symm

/-- The dark level is the least point between the guards (R155). -/
theorem darkLevel_least {p : List Nat} {g : Nat} (h : 2 * g < p.length) :
    (∀ c, g ≤ c → c + g < p.length → darkLevel p g ≤ point p c) ∧
      ∃ c, g ≤ c ∧ c + g < p.length ∧ point p c = darkLevel p g := by
  have inside : betweenGuards p g ≠ [] := List.ne_nil_of_mem (mem_betweenGuards.mpr ⟨g, le_rfl, by omega, rfl⟩)
  obtain ⟨mem, least⟩ := leastOf_mem_le inside
  exact ⟨fun c hg hc => least _ (mem_betweenGuards.mpr ⟨c, hg, hc, rfl⟩), mem_betweenGuards.mp mem⟩

/-! ### The first points at or above the threshold (R159) -/

/-- `c` is the first point at or above the threshold to the right of the centre `k`, before the guard. -/
def FirstRight (p : List Nat) (g k t c : Nat) : Prop :=
  k < c ∧ c + g < p.length ∧ t ≤ point p c ∧ ∀ b, k < b → b < c → point p b < t

/-- `c` is the first point at or above the threshold to the left of the centre `k`, before the guard. -/
def FirstLeft (p : List Nat) (g k t c : Nat) : Prop :=
  c < k ∧ g ≤ c ∧ t ≤ point p c ∧ ∀ b, c < b → b < k → point p b < t

theorem find?_map_range_eq_some {f : Nat → Nat} {q : Nat → Bool} {n c : Nat} :
    ((List.range n).map f).find? q = some c ↔ ∃ i < n, f i = c ∧ q (f i) = true ∧ ∀ j < i, q (f j) = false := by
  simp only [List.find?_map, Option.map_eq_some_iff, List.find?_range_eq_some, List.mem_range, Function.comp_apply,
    Bool.not_eq_true']
  exact exists_congr fun i => by tauto

theorem rightFound_eq_some {p : List Nat} {g k t c : Nat} : rightFound p g k t = some c ↔ FirstRight p g k t c := by
  simp only [rightFound, find?_map_range_eq_some, decide_eq_true_eq, decide_eq_false_iff_not, not_le]
  constructor
  · rintro ⟨i, hi, rfl, found, before⟩
    refine ⟨by omega, by omega, found, fun b hk hb => ?_⟩
    have below := before (b - (k + 1)) (by omega)
    rwa [Nat.add_sub_cancel' hk] at below
  · rintro ⟨hk, hc, found, before⟩
    rw [← Nat.add_sub_cancel' hk] at found
    exact ⟨c - (k + 1), by omega, Nat.add_sub_cancel' hk, found, fun j hj => before _ (by omega) (by omega)⟩

theorem leftFound_eq_some {p : List Nat} {g k t c : Nat} : leftFound p g k t = some c ↔ FirstLeft p g k t c := by
  simp only [leftFound, find?_map_range_eq_some, decide_eq_true_eq, decide_eq_false_iff_not, not_le]
  constructor
  · rintro ⟨i, hi, rfl, found, before⟩
    refine ⟨by omega, by omega, found, fun b hc hb => ?_⟩
    have below := before (k - 1 - b) (by omega)
    rwa [Nat.sub_sub_self (Nat.le_sub_one_of_lt hb)] at below
  · rintro ⟨hk, hc, found, before⟩
    have place : k - 1 - (k - 1 - c) = c := Nat.sub_sub_self (Nat.le_sub_one_of_lt hk)
    exact ⟨k - 1 - c, by omega, place, by rwa [place], fun j hj => before _ (by omega) (by omega)⟩

theorem rightFound_eq_none {p : List Nat} {g k t : Nat} (h : ∀ c, ¬FirstRight p g k t c) : rightFound p g k t = none :=
  Option.eq_none_iff_forall_ne_some.mpr fun c found => h c (rightFound_eq_some.mp found)

theorem leftFound_eq_none {p : List Nat} {g k t : Nat} (h : ∀ c, ¬FirstLeft p g k t c) : leftFound p g k t = none :=
  Option.eq_none_iff_forall_ne_some.mpr fun c found => h c (leftFound_eq_some.mp found)

/-- The point before the first one on the right lies below the threshold, the centre itself where they are neighbours. -/
theorem FirstRight.inner_lt {p : List Nat} {g k t c : Nat} (h : FirstRight p g k t c) (hk : point p k < t) :
    point p (c - 1) < t := by
  obtain ⟨hc, -, -, before⟩ := h
  rcases (Nat.le_sub_one_of_lt hc).eq_or_lt with rfl | inside
  · exact hk
  · exact before _ inside (by omega)

/-- The point before the first one on the left lies below the threshold, the centre itself where they are neighbours. -/
theorem FirstLeft.inner_lt {p : List Nat} {g k t c : Nat} (h : FirstLeft p g k t c) (hk : point p k < t) :
    point p (c + 1) < t := by
  obtain ⟨hc, -, -, before⟩ := h
  rcases (Nat.succ_le_of_lt hc).eq_or_lt with rfl | inside
  · exact hk
  · exact before _ (by omega) inside

/-- The interpolated fraction is the floor of its quotient: the two points never have equal values (R159). -/
theorem edgeFraction_floor {t inner found : Nat} (below : inner < t) (reached : t ≤ found) :
    edgeFraction t inner found * (found - inner) ≤ 256 * (t - inner) ∧
      256 * (t - inner) < (edgeFraction t inner found + 1) * (found - inner) := by
  have gap : 0 < found - inner := by omega
  exact ⟨Nat.div_mul_le_self .., Nat.lt_mul_of_div_lt (Nat.lt_succ_self _) gap⟩

theorem FirstRight.fraction_floor {p : List Nat} {g k t c : Nat} (h : FirstRight p g k t c) (hk : point p k < t) :
    let x := edgeFraction t (point p (c - 1)) (point p c)
    x * (point p c - point p (c - 1)) ≤ 256 * (t - point p (c - 1)) ∧
      256 * (t - point p (c - 1)) < (x + 1) * (point p c - point p (c - 1)) := by
  have below := h.inner_lt hk
  obtain ⟨-, -, reached, -⟩ := h
  exact edgeFraction_floor below reached

theorem FirstLeft.fraction_floor {p : List Nat} {g k t c : Nat} (h : FirstLeft p g k t c) (hk : point p k < t) :
    let y := edgeFraction t (point p (c + 1)) (point p c)
    y * (point p c - point p (c + 1)) ≤ 256 * (t - point p (c + 1)) ∧
      256 * (t - point p (c + 1)) < (y + 1) * (point p c - point p (c + 1)) := by
  have below := h.inner_lt hk
  obtain ⟨-, -, reached, -⟩ := h
  exact edgeFraction_floor below reached

/-! ### The length between the edges (R156, R158 to R160) -/

theorem lengthAt_noImpression {p : List Nat} {g k t : Nat} (h : t ≤ point p k) :
    lengthAt p g k t = .error .noImpression := if_pos h

theorem lengthAt_edgeNotFound {p : List Nat} {g k t : Nat} (hk : point p k < t)
    (h : (∀ c, ¬FirstRight p g k t c) ∨ ∀ c, ¬FirstLeft p g k t c) : lengthAt p g k t = .error .edgeNotFound := by
  rw [lengthAt, if_neg (Nat.not_le_of_lt hk)]
  rcases h with none_right | none_left
  · rw [rightFound_eq_none none_right]
  · rw [leftFound_eq_none none_left]
    cases rightFound p g k t <;> rfl

theorem lengthAt_edges {p : List Nat} {g k t r l : Nat} (hk : point p k < t) (hr : FirstRight p g k t r)
    (hl : FirstLeft p g k t l) : lengthAt p g k t = .ok (rightEdge p t r - leftEdge p t l) := by
  rw [lengthAt, if_neg (Nat.not_le_of_lt hk), rightFound_eq_some.mpr hr, leftFound_eq_some.mpr hl]

section
variable {o : ObjectiveRecord} {g : Nat} {p : List Nat}

theorem profileLength_lowContrast
    (h : brightLevel p (guardOf g p.length) < darkLevel p (guardOf g p.length) + o.minContrast) :
    profileLength o g p = .error .lowContrast := if_pos (by omega)

theorem profileLength_contrast
    (h : darkLevel p (guardOf g p.length) + o.minContrast ≤ brightLevel p (guardOf g p.length)) :
    profileLength o g p =
      lengthAt p (guardOf g p.length) (p.length / 2)
        (darkLevel p (guardOf g p.length) +
          thresholdHeight o.ladder o.ladderStep
            (brightLevel p (guardOf g p.length) - darkLevel p (guardOf g p.length))) := if_neg (by omega)

end

/-! ### Diagonals and hardness (R161 to R163) -/

/-- The diagonal is the scaled length rounded half up, or the largest diagonal, which is then not too large (R161). -/
theorem diagonalOf_rounded (scale n : Nat) :
    diagonalOf scale n ≤ 4194303 ∧
      (diagonalOf scale n < 4194303 →
        65536 * diagonalOf scale n ≤ n * scale + 32768 ∧ n * scale + 32768 < 65536 * (diagonalOf scale n + 1)) ∧
      (diagonalOf scale n = 4194303 → 65536 * diagonalOf scale n ≤ n * scale + 32768) := by
  unfold diagonalOf
  omega

theorem meanDiagonal_rounded (a b : Nat) : 2 * meanDiagonal a b = a + b ∨ 2 * meanDiagonal a b = a + b + 1 := by
  unfold meanDiagonal
  omega

theorem asymmetric_iff {permille a b : Nat} :
    asymmetric permille a b = true ↔ permille * meanDiagonal a b < (max a b - min a b) * 1000 := by
  have difference : ((a : Int) - b).natAbs = max a b - min a b := by omega
  rw [asymmetric, decide_eq_true_eq, difference]

theorem hardnessOf_zero (kind : IndenterKind) (force : Nat) :
    hardnessOf kind force 0 = (none, { MeasureFlags.none with edgeNotFound := true }) := rfl

/-- The hardness is the nearest integer to num / d², a half rounded up, or 999,999 with SATURATED where that integer is higher;
`num` is the kind's factor times the force (R163). -/
theorem hardnessOf_rounded {kind : IndenterKind} {force d num : Nat} (hd : 0 < d)
    (quotient : hardnessQuotient kind force d = (2 * num + d * d) / (2 * (d * d))) :
    ∃ (h : Nat) (flags : MeasureFlags), hardnessOf kind force d = (some h, flags) ∧ h ≤ 999999 ∧
      (flags = MeasureFlags.none → (2 * h) * (d * d) ≤ 2 * num + d * d ∧ 2 * num + d * d < (2 * h + 2) * (d * d)) ∧
      (flags ≠ MeasureFlags.none → flags = { MeasureFlags.none with saturated := true } ∧ h = 999999 ∧
        2 * 1000000 * (d * d) ≤ 2 * num + d * d) := by
  have square : 0 < 2 * (d * d) := by positivity
  by_cases above : 999999 < hardnessQuotient kind force d
  · refine ⟨999999, _, by rw [hardnessOf, if_neg hd.ne', if_pos above], le_rfl, fun plain => absurd plain (by decide),
      fun _ => ⟨rfl, rfl, ?_⟩⟩
    have reached : 1000000 * (2 * (d * d)) ≤ 2 * num + d * d := (Nat.le_div_iff_mul_le square).mp (quotient ▸ above)
    omega
  · refine ⟨_, _, by rw [hardnessOf, if_neg hd.ne', if_neg above], by omega, fun _ => ?_, fun raised => absurd rfl raised⟩
    rw [quotient]
    have low := Nat.mul_div_le (2 * num + d * d) (2 * (d * d))
    have high := Nat.lt_mul_div_succ (2 * num + d * d) square
    constructor
    · linarith
    · linarith

/-! ### The union of the flags (R164) -/

/-- `flags` holds a flag exactly where `base` or one of the stages raises it (R164). -/
def MeasureFlags.IsUnion (flags base : MeasureFlags) (stages : List MeasureFlags) : Prop :=
  let flagged := fun (set : MeasureFlags → Bool) => set flags = true ↔ set base = true ∨ ∃ f ∈ stages, set f = true
  flagged (·.lowContrast) ∧ flagged (·.noImpression) ∧ flagged (·.edgeNotFound) ∧ flagged (·.tooSmall) ∧
    flagged (·.tooLarge) ∧ flagged (·.asymmetric) ∧ flagged (·.saturated) ∧ flagged (·.focusFailed) ∧
    flagged (·.captureStall) ∧ flagged (·.frameDisturbedImage) ∧ flagged (·.measureAborted)

/-- A flag that each union takes from either set is in the union of a list where some member raises it. -/
theorem MeasureFlags.foldl_union_flag {set : MeasureFlags → Bool} (hu : ∀ f g, set (f.union g) = (set f || set g))
    (stages : List MeasureFlags) (base : MeasureFlags) :
    set (stages.foldl MeasureFlags.union base) = true ↔ set base = true ∨ ∃ f ∈ stages, set f = true := by
  induction stages generalizing base with
  | nil => simp
  | cons f rest ih => simp [ih, hu, or_assoc]

theorem MeasureFlags.isUnion_foldl (base : MeasureFlags) (stages : List MeasureFlags) :
    (stages.foldl MeasureFlags.union base).IsUnion base stages := by
  refine ⟨?_, ?_, ?_, ?_, ?_, ?_, ?_, ?_, ?_, ?_, ?_⟩ <;> exact foldl_union_flag (fun _ _ => rfl) stages base

theorem MeasureFlags.union_right_comm (f g h : MeasureFlags) : (f.union g).union h = (f.union h).union g := by
  simp only [MeasureFlags.union, Bool.or_right_comm]

/-! ### The result of a delivery (R164) -/

section
variable {o : ObjectiveRecord} {g permille d1 d2 : Nat} {d : Delivery} {p : Profiles}

/-- A KNOOP delivery has Ph's diagonal, its hardness, and the flags of both (R164). -/
theorem knoopResult_eq :
    knoopResult o g d p =
      let h := profileLength o g p.ph
      { site := d.site, d1 := lengthDiagonal o h, d2 := none
        hardness := (lengthDiagonal o h).bind fun d1 => (hardnessOf .knoop d.force d1).1
        flags := (lengthFlags o h :: (lengthDiagonal o h).toList.map fun d1 => (hardnessOf .knoop d.force d1).2).foldl
          MeasureFlags.union d.measureSet } := by
  unfold knoopResult
  dsimp only
  cases lengthDiagonal o (profileLength o g p.ph) <;> rfl

/-- Each diagonal of a VICKERS delivery comes from its own profile, whatever the other one gives (R164). -/
theorem vickersResult_diagonals :
    (vickersResult o g permille d p).d1 = lengthDiagonal o (profileLength o g p.ph) ∧
      (vickersResult o g permille d p).d2 = lengthDiagonal o (profileLength o g p.pv) := by
  unfold vickersResult
  dsimp only
  split
  case h_1 h1 h2 => exact ⟨h1.symm, h2.symm⟩
  case h_2 => exact ⟨rfl, rfl⟩

/-- A VICKERS delivery that lacks a diagonal has no hardness; the other diagonal stands (R164). -/
theorem vickersResult_lacking
    (h : lengthDiagonal o (profileLength o g p.ph) = none ∨ lengthDiagonal o (profileLength o g p.pv) = none) :
    vickersResult o g permille d p =
      { site := d.site, d1 := lengthDiagonal o (profileLength o g p.ph), d2 := lengthDiagonal o (profileLength o g p.pv)
        hardness := none
        flags := [lengthFlags o (profileLength o g p.ph), lengthFlags o (profileLength o g p.pv)].foldl
          MeasureFlags.union d.measureSet } := by
  unfold vickersResult
  rcases h with h | h
  · simp only [h, List.foldl]
  · cases h' : lengthDiagonal o (profileLength o g p.ph) <;> simp only [h, h', List.foldl]

/-- A VICKERS delivery with both diagonals has the hardness of their mean (R162 to R164). -/
theorem vickersResult_measured (h1 : lengthDiagonal o (profileLength o g p.ph) = some d1)
    (h2 : lengthDiagonal o (profileLength o g p.pv) = some d2) :
    vickersResult o g permille d p =
      let number := hardnessOf .vickers d.force (meanDiagonal d1 d2)
      { site := d.site, d1 := some d1, d2 := some d2, hardness := number.1
        flags := [lengthFlags o (profileLength o g p.ph), lengthFlags o (profileLength o g p.pv), number.2,
          { MeasureFlags.none with asymmetric := asymmetric permille d1 d2 }].foldl MeasureFlags.union d.measureSet } := by
  simp only [vickersResult, h1, h2, List.foldl, MeasureFlags.union_right_comm _ (hardnessOf _ _ _).2]

variable {c : ConfigImage}

theorem ConfigImage.resultOf_knoop (hp : d.profiles = some p) (ho : c.slot d.objective = .objective o)
    (hk : d.kind = .knoop) : c.resultOf d = knoopResult o c.guardPoints d p := by
  simp only [ConfigImage.resultOf, hp, ConfigImage.objective?_of_slot ho, hk]

theorem ConfigImage.resultOf_vickers (hp : d.profiles = some p) (ho : c.slot d.objective = .objective o)
    (hk : d.kind = .vickers) : c.resultOf d = vickersResult o c.guardPoints c.asymmetryPermille d p := by
  simp only [ConfigImage.resultOf, hp, ConfigImage.objective?_of_slot ho, hk]

end

/-- Settles O60: each stage by its own lemma, from the guard to the union of the flags. -/
theorem hardnessArithmetic : Obligations.HardnessArithmetic := by
  refine ⟨fun g n => guardOf_clamped, fun o g p hp hg => ?profile,
    fun o n => ⟨⟨_, rfl, diagonalOf_rounded ..⟩, decide_eq_true_iff, decide_eq_true_iff⟩,
    fun a b permille => ⟨meanDiagonal_rounded a b, asymmetric_iff⟩, hardnessOf_zero, fun kind force d hd => ?hardness,
    fun o f => ⟨rfl, by cases f <;> rfl⟩, fun c d => ⟨ConfigImage.resultOf_bare, fun p o hp ho => ?result⟩⟩
  case profile =>
    intro m k ends bright dark span height t right left
    obtain ⟨-, centre, -⟩ := guardOf_clamped (g := g) hp
    have guard : 0 < 2 * m := Nat.mul_pos two_pos (guardOf_pos hg hp)
    refine ⟨⟨Nat.mul_div_le .., Nat.lt_mul_div_succ _ guard⟩, darkLevel_least (by omega), profileLength_lowContrast,
      fun wide => ?_, fun narrow => ?_, fun contrast => ?_⟩
    · simp only [height, thresholdHeight, wide]
      omega
    · simp only [height, thresholdHeight, narrow]
      omega
    · rw [profileLength_contrast contrast]
      exact ⟨lengthAt_noImpression, lengthAt_edgeNotFound, fun r l hk hr hl =>
        ⟨_, _, lengthAt_edges hk hr hl, and_assoc.mp ⟨FirstRight.fraction_floor hr hk, FirstLeft.fraction_floor hl hk⟩⟩⟩
  case hardness =>
    cases kind
    case vickers => exact hardnessOf_rounded hd rfl
    case knoop => exact hardnessOf_rounded hd rfl
  case result =>
    refine ⟨ConfigImage.resultOf_site c d, fun knoop => ?_, fun vickers => ?_⟩
    · rw [ConfigImage.resultOf_knoop hp ho knoop, knoopResult_eq]
      exact ⟨rfl, rfl, rfl, MeasureFlags.isUnion_foldl ..⟩
    · rw [ConfigImage.resultOf_vickers hp ho vickers]
      obtain ⟨first, second⟩ := vickersResult_diagonals (o := o) (g := c.guardPoints) (d := d) (p := p)
      refine ⟨first, second, fun lacking => ?_, fun d1 d2 h1 h2 => ?_⟩
      · rw [vickersResult_lacking lacking]
        exact ⟨rfl, MeasureFlags.isUnion_foldl ..⟩
      · rw [vickersResult_measured h1 h2]
        exact ⟨rfl, MeasureFlags.isUnion_foldl ..⟩

end Sys2Proof.Machine
end

section
/-!
PROOFS. Requests that decoding or the destination refuses (O30).
-/

-- One theorem after another: each one elaborated beside the others takes a thread with a stack of its own.
set_option Elab.async false

namespace Sys2Proof.Machine

/-! ### Decoding: kind, length, fields (R175) -/

/-- A kind outside 10h..1Eh has no length of its own (R175). -/
theorem requestLength_none {k : Nat} (h : k < 0x10 ∨ 0x1E < k) : requestLength k = none := by
  unfold requestLength
  split
  case h_16 => rfl
  all_goals omega

theorem decodeRequest_unknownKind {k : Byte} (h : k.toNat < 0x10 ∨ 0x1E < k.toNat) (p : List Byte) :
    decodeRequest k p = .refusal .unknownKind := by
  simp only [decodeRequest, requestLength_none h]

theorem decodeRequest_badLength {k : Byte} {n : Nat} {p : List Byte} (hk : requestLength k.toNat = some n)
    (hp : p.length ≠ n) : decodeRequest k p = .refusal .badLength := by
  simp only [decodeRequest, hk, if_neg hp]

theorem decodeRequest_fields {k : Byte} {n : Nat} {p : List Byte} (hk : requestLength k.toNat = some n)
    (hp : p.length = n) : decodeRequest k p = requestFields k.toNat p := by
  simp only [decodeRequest, hk, if_pos hp]

/-- What decoding finds in a request that is not taken from destination 15: the request, or a field out of its range. -/
def Decoded.refusedToAll (d : Decoded) : Prop :=
  d = .refusal .badValue ∨ ∃ r : Request, d = .request r ∧ r.broadcast = false

/-- A field of one byte. -/
theorem fieldNat_byte {p : List Byte} {i : Nat} {b : Byte} (h : p[i]? = some b) : fieldNat p i 1 = b.toNat := by
  simp [fieldNat, List.take_one, h, natOfBytes]

/-- SET_MODE takes the work modes 0 and 1 (R168, R175). -/
theorem requestFields_setMode (p : List Byte) :
    requestFields 0x1A p =
      if fieldNat p 1 1 ≤ 1 then
        .request (.setMode (if fieldNat p 1 1 = 0 then .perSite else .batch) (fieldNat p 2 1))
      else .refusal .badValue := by
  simp only [requestFields]
  split
  next h => rw [h]; rfl
  next h => rw [h]; rfl
  next h0 h1 => exact (if_neg fun h => (Nat.le_one_iff_eq_zero_or_eq_one.mp h).elim h0 h1).symm

/-- QUERY_STATUS takes the pages 0 to 5 (R170, R175). -/
theorem requestFields_queryStatus (p : List Byte) :
    requestFields 0x1B p =
      if fieldNat p 1 1 ≤ 5 then .request (.queryStatus (fieldNat p 1 1)) else .refusal .badValue := rfl

theorem Decoded.refusedToAll.of_request {r : Request} (h : r.broadcast = false) : (Decoded.request r).refusedToAll :=
  .inr ⟨r, rfl, h⟩

/-- A test of a field keeps a request that is not broadcast refused to all. -/
theorem Decoded.refusedToAll.of_tested {r : Request} (h : r.broadcast = false) (taken : Prop) [Decidable taken] :
    (if taken then Decoded.request r else .refusal .badValue).refusedToAll := by
  split
  · exact .of_request h
  · exact .inl rfl

/-! ### A request command by what its decoding finds (R166, R167, R175) -/

section
variable {s : State} {c : Instr} {d : BitVec 4} {k : Byte} {p : List Byte}

/-- A request that decodes, to the station's own rank, has its owner's answer (R166). -/
theorem exec_request_own {r : Request} (he : exec c s = s.act fun s => s.takeRequest d k p) (hl : s.live) (ho : s.own d)
    (h : decodeRequest k p = .request r) : exec c s = .next (s.answer (requestTag p) k r) := by
  rw [he, State.act_live hl.1, State.takeRequest_own hl ho h]

/-- A request that decoding refuses is answered with the refusal, to the station or to all (R175). -/
theorem exec_request_undecoded {code : ReplyCode} (he : exec c s = s.act fun s => s.takeRequest d k p) (hl : s.live)
    (hd : s.own d ∨ d = 15#4) (h : decodeRequest k p = .refusal code) :
    exec c s = .next (s.placed (.reply (requestTag p) k code)) := by
  rw [he, State.act_live hl.1, State.takeRequest_taken hl hd, State.handleRequest_refused h]
  exact congrArg _ (s.send_placed _)

/-- A request that is not broadcast, to all, is answered BAD_VALUE, whether its fields decode or not (R167, R175). -/
theorem exec_request_toAll (he : exec c s = s.act fun s => s.takeRequest 15#4 k p) (hl : s.live)
    (h : (decodeRequest k p).refusedToAll) : exec c s = .next (s.placed (.reply (requestTag p) k .badValue)) := by
  rcases h with refused | ⟨r, decoded, other⟩
  · exact exec_request_undecoded he hl (.inr rfl) refused
  · rw [he, State.act_live hl.1, State.takeRequest_taken hl (.inr rfl), State.handleRequest_decoded decoded,
      State.direct, if_pos ⟨rfl, other⟩]
    exact congrArg _ (s.send_placed _)

end

/-- Settles O30: the decoding tests in their order, then the destination. -/
theorem undecodableRefused : Obligations.UndecodableRefused := by
  intro dest kind p s hl hr hd refused byLength toAll
  have replies : ∀ {c k code}, exec c s = .next (s.placed (.reply (requestTag p) k code)) → refused c k code :=
    fun h => h.trans (congrArg _ (State.placed_room hr _))
  have short : ∀ {c k n}, exec c s = (s.act fun s => s.takeRequest dest k p) → requestLength k.toNat = some n →
      byLength c k n := fun he hk hp =>
    replies (exec_request_undecoded he hl hd (decodeRequest_badLength hk hp))
  have misdirected : ∀ {c k n}, exec c s = (s.act fun s => s.takeRequest dest k p) → requestLength k.toNat = some n →
      (requestFields k.toNat p).refusedToAll → toAll c k n := by
    intro c k n he hk hf all hp
    subst all
    exact replies (exec_request_toAll he hl (decodeRequest_fields hk hp ▸ hf))
  refine ⟨fun hk => replies (exec_request_undecoded (exec_unknownKind ..) hl hd (decodeRequest_unknownKind hk p)),
    short (exec_planSite ..) rfl, short (exec_planRemeasure ..) rfl, short (exec_planWithdraw ..) rfl,
    short (exec_mapClear ..) rfl, short (exec_start ..) rfl, short (exec_pause ..) rfl, short (exec_resume ..) rfl,
    short (exec_abortSite ..) rfl, short (exec_restart ..) rfl, short (exec_refReselect ..) rfl,
    short (exec_setMode ..) rfl, short (exec_queryStatus ..) rfl, short (exec_queryEntry ..) rfl,
    short (exec_queryCounters ..) rfl, short (exec_setCounter ..) rfl,
    misdirected (exec_planSite ..) rfl (.of_request rfl), misdirected (exec_planRemeasure ..) rfl (.of_request rfl),
    misdirected (exec_planWithdraw ..) rfl (.of_request rfl), misdirected (exec_abortSite ..) rfl (.of_request rfl),
    misdirected (exec_restart ..) rfl (.of_request rfl), misdirected (exec_refReselect ..) rfl (.of_request rfl),
    misdirected (exec_setMode ..) rfl (requestFields_setMode p ▸ .of_tested rfl _),
    misdirected (exec_queryStatus ..) rfl (.of_tested rfl _),
    misdirected (exec_queryEntry ..) rfl (.of_request rfl), misdirected (exec_queryCounters ..) rfl (.of_request rfl),
    misdirected (exec_setCounter ..) rfl (.of_request rfl)⟩

end Sys2Proof.Machine
end

section
/-!
PROOFS. SET_MODE (O27), the three queries (O28) and SET_COUNTER (O29).
-/

-- One theorem after another: each one elaborated beside the others takes a thread with a stack of its own.
set_option Elab.async false

namespace Sys2Proof.Machine

/-! ### SET_MODE (R168) -/

theorem decodeRequest_setMode (tag mode limit : Byte) :
    decodeRequest 0x1A#8 [tag, mode, limit] =
      if mode.toNat ≤ 1 then .request (.setMode (if mode.toNat = 0 then .perSite else .batch) limit.toNat)
      else .refusal .badValue := by
  have first : fieldNat [tag, mode, limit] 1 1 = mode.toNat := fieldNat_byte rfl
  have second : fieldNat [tag, mode, limit] 2 1 = limit.toNat := fieldNat_byte rfl
  rw [decodeRequest_fields rfl rfl, ← first, ← second]
  exact requestFields_setMode _

/-- An empty measure list is a map without an entry that waits for its measurement (R13). -/
theorem Store.measureList_isEmpty_iff {st : Store} :
    st.measureList.isEmpty = true ↔ ¬∃ e ∈ st.map, e.outcome = .awaitingMeasure := by
  simp [Store.measureList]

/-- SET_MODE to the station's own rank, its mode in range, meets the tests of R168. -/
theorem exec_setMode_heard {s : State} {dest : BitVec 4} {mode : Byte} (hl : s.live) (ho : s.own dest)
    (hm : mode.toNat ≤ 1) (tag limit : Byte) :
    exec (.setMode dest [tag, mode, limit]) s =
      .next (s.answerThen tag 0x1A#8 s.setModeCode
        (·.setMode (if mode.toNat = 0 then .perSite else .batch) limit.toNat)) :=
  exec_request_own (exec_setMode ..) hl ho ((decodeRequest_setMode tag mode limit).trans (if_pos hm))

/-- Settles O27: the mode at decoding, then R168's two tests in their order. -/
theorem setModeAnswer : Obligations.SetModeAnswer := by
  intro dest tag mode limit s ⟨hl, ho, room⟩ answered waiting
  have refuses : ∀ {code}, mode.toNat ≤ 1 → s.setModeCode = code → code ≠ .accepted → answered code := by
    intro code hm hc hn
    change exec _ s = _
    rw [exec_setMode_heard hl ho hm, hc, State.answerThen_refused room hn]
  refine ⟨fun hm => ?_, fun hm hr => refuses hm (if_pos hr) (by decide), fun hm hr hw => ?_, fun hm hr hw => ?_⟩
  · have decoded := (decodeRequest_setMode tag mode limit).trans (if_neg (Nat.not_le.mpr hm))
    exact (exec_request_undecoded (exec_setMode ..) hl (.inl ho) decoded).trans (congrArg _ (State.placed_room room _))
  · refine refuses hm ?_ (by decide : ReplyCode.busy ≠ .accepted)
    rw [State.setModeCode, if_neg (not_not.mpr hr), if_neg fun he => Store.measureList_isEmpty_iff.mp he hw]
  · have code : s.setModeCode = .accepted := by
      rw [State.setModeCode, if_neg (not_not.mpr hr), if_pos (Store.measureList_isEmpty_iff.mpr hw)]
    have zero : mode.toNat = 0 ↔ mode = 0#8 := BitVec.toNat_inj (y := 0#8)
    rw [exec_setMode_heard hl ho hm, State.answerThen_accepted room code]
    simp only [zero]
    rfl

/-! ### The three queries (R170, R171, R174) -/

theorem decodeRequest_queryStatus (tag page : Byte) :
    decodeRequest 0x1B#8 [tag, page] =
      if page.toNat ≤ 5 then .request (.queryStatus page.toNat) else .refusal .badValue := by
  have first : fieldNat [tag, page] 1 1 = page.toNat := fieldNat_byte rfl
  rw [decodeRequest_fields rfl rfl, ← first]
  exact requestFields_queryStatus _

theorem decodeRequest_queryEntry (tag hi lo : Byte) :
    decodeRequest 0x1C#8 [tag, hi, lo] = .request (.queryEntry (hi.toNat * 256 + lo.toNat)) := by
  rw [decodeRequest_fields rfl rfl, ← fieldNat_site tag hi lo]
  rfl

/-- The draw of free bytes and the placing of a message do not touch each other. -/
theorem State.placed_freeCount (s : State) (m : Message) (n : Nat) :
    ({ s with freeCount := n } : State).placed m = { s.placed m with freeCount := n } := by
  unfold State.placed
  split
  · rfl
  · rfl

theorem State.answerStatus_placed (s : State) (tag page : Byte) :
    s.answerStatus tag page.toNat =
      { s.placed (.status tag page (s.statusFields page.toNat)) with freeCount := s.freeCount + 1 } := by
  rw [State.answerStatus, BitVec.ofNat_toNat, BitVec.setWidth_eq, State.send_placed, State.placed_freeCount]

theorem State.answerEntry_known {s : State} {site : Nat} {e : Entry} (h : s.sst.entry? site = some e) (tag kind : Byte) :
    s.answerEntry tag kind site = s.placed (.entry tag e) := by
  simp only [State.answerEntry, h, State.send_placed]

theorem State.answerEntry_unknown {s : State} {site : Nat} (h : s.sst.entry? site = none) (tag kind : Byte) :
    s.answerEntry tag kind site = s.placed (.reply tag kind .unknownId) := by
  simp only [State.answerEntry, h, State.reply, State.send_placed]

/-- Settles O28, by the answer of each query. -/
theorem queriesAnswered : Obligations.QueriesAnswered := by
  refine fun dest tag b1 b0 s hl ho => ⟨fun hp => ?status, fun hp => ?page, fun e he => ?entry, fun hn => ?unknown, ?counters⟩
  case status =>
    rw [exec_request_own (exec_queryStatus ..) hl ho ((decodeRequest_queryStatus tag b0).trans (if_pos hp))]
    exact congrArg _ (s.answerStatus_placed tag b0)
  case page =>
    have decoded := (decodeRequest_queryStatus tag b0).trans (if_neg (Nat.not_le.mpr hp))
    exact exec_request_undecoded (exec_queryStatus ..) hl (.inl ho) decoded
  case entry =>
    rw [exec_request_own (exec_queryEntry ..) hl ho (decodeRequest_queryEntry tag b1 b0)]
    exact congrArg _ (State.answerEntry_known he tag _)
  case unknown =>
    rw [exec_request_own (exec_queryEntry ..) hl ho (decodeRequest_queryEntry tag b1 b0)]
    exact congrArg _ (State.answerEntry_unknown (Store.entry?_none hn) tag _)
  case counters =>
    rw [exec_request_own (exec_queryCounters ..) hl ho (r := .queryCounters) rfl]
    exact congrArg _ (s.send_placed _)

/-! ### SET_COUNTER (R173) -/

theorem EventKind.ofCode?_none {n : Nat} (h : 10 < n) : EventKind.ofCode? n = Option.none := by
  unfold EventKind.ofCode?
  split
  case h_12 => rfl
  all_goals omega

theorem EventKind.ofCode?_code (k : EventKind) : EventKind.ofCode? k.code = some k := by
  cases k <;> rfl

theorem EventKind.admits_iff {k : EventKind} {mask : Nat} : k.admits mask = true ↔ mask &&& k.qualifiers.toNat = mask :=
  beq_iff_eq

theorem setCounterCode_badKind {kind : Nat} (h : 10 < kind) (index mask : Nat) :
    setCounterCode index kind mask = .badValue := by
  simp only [setCounterCode, EventKind.ofCode?_none h]

/-- R173's tests of a kind that exists. -/
theorem setCounterCode_kind (index mask : Nat) (k : EventKind) :
    setCounterCode index k.code mask =
      if index ≤ 3 ∧ mask &&& k.qualifiers.toNat = mask then .accepted else .badValue := by
  simp only [setCounterCode, EventKind.ofCode?_code, EventKind.admits_iff]

theorem decodeRequest_setCounter (tag index kind m2 m1 m0 : Byte) :
    decodeRequest 0x1E#8 [tag, index, kind, m2, m1, m0] =
      .request (.setCounter index.toNat kind.toNat ((m2.toNat * 256 + m1.toNat) * 256 + m0.toNat)) := by
  rw [decodeRequest_fields rfl rfl]
  simp [requestFields, fieldNat, natOfBytes]

theorem State.setCounter_kind (s : State) (index mask : Nat) (k : EventKind) :
    s.setCounter index k.code mask =
      { s with evc := s.evc.set index { kind := k, mask := BitVec.ofNat 20 mask, value := 0 } } := by
  rw [State.setCounter, EventKind.ofCode?_code, Option.getD_some]

/-- A counter of a kind with qualifiers counts the qualifier its mask names (R174). -/
theorem Counter.matches_qualifierBit {c : Counter} {n : Nat} (hq : c.kind.qualified = true) (hm : c.mask.getLsbD n = true) :
    c.matches c.kind (qualifierBit n) = true := by
  have hn : n < 20 := BitVec.lt_of_getLsbD hm
  have bit : c.mask &&& qualifierBit n ≠ 0#20 := by
    rw [qualifierBit, BitVec.and_twoPow, if_pos hm]
    exact fun h => by simpa [hn] using congrArg (·.getLsbD n) h
  simp [Counter.matches, hq, bit]

/-- A message dropped counts one up at a counter that has LINK_ERROR with overflow (R84, R174). -/
theorem State.placed_counts {s : State} {i : Nat} {c : Counter} (full : ¬s.hasMessageRoom 1) (hc : s.evc[i]? = some c)
    (hk : c.kind = .linkError) (hm : c.mask.getLsbD 5 = true) (m : Message) :
    (s.placed m).evc[i]? = some { c with value := min (c.value + 1) 4294967295 } := by
  have counts : c.matches .linkError (qualifierBit 5) = true := hk ▸ Counter.matches_qualifierBit (hk ▸ rfl) hm
  rw [State.placed, if_neg full, State.signal_evc, List.getElem?_map, hc, Option.map_some, Counter.count, if_pos counts]

/-- Settles O29: R173's tests, and the counter set before the reply is placed. -/
theorem setCounterAnswer : Obligations.SetCounterAnswer := by
  intro dest tag index kind m2 m1 m0 s hl ho mask command
  have answer : exec command s = .next (s.answerSetCounter tag 0x1E#8 index.toNat kind.toNat mask) :=
    exec_request_own (exec_setCounter ..) hl ho (decodeRequest_setCounter tag index kind m2 m1 m0)
  have refused : setCounterCode index.toNat kind.toNat mask = .badValue →
      exec command s = .next (s.placed (.reply tag 0x1E#8 .badValue)) := by
    intro code
    rw [answer, State.answerSetCounter, if_neg (code ▸ by decide)]
    exact congrArg _ (s.send_placed _)
  refine ⟨fun hk => refused (setCounterCode_badKind hk _ _), fun k hk => ⟨fun bad => refused ?_, fun hi hq => ?_⟩⟩
  · rw [← hk, setCounterCode_kind, if_neg]
    rintro ⟨inRange, own⟩
    exact bad.elim (fun high => absurd inRange (Nat.not_le.mpr high)) (absurd own)
  · intro set
    have code : setCounterCode index.toNat kind.toNat mask = .accepted := by
      rw [← hk, setCounterCode_kind, if_pos ⟨hi, hq⟩]
    have placed : exec command s = .next (set.placed (.reply tag 0x1E#8 .accepted)) := by
      rw [answer, State.answerSetCounter, if_pos code, ← hk, State.setCounter_kind]
      exact congrArg _ (State.send_placed _ _)
    refine ⟨placed, fun room => ?_, fun full hlen hkind hbit => ?_⟩
    · exact placed.trans (congrArg _ (State.placed_room (s := set) room _))
    · have stands : set.evc[index.toNat]? = some { kind := k, mask := BitVec.ofNat 20 mask, value := 0 } :=
        List.getElem?_set_self hlen
      have unplaced : (set.placed (.reply tag 0x1E#8 .accepted)).fli = { s.fli with txOverflow := true } := by
        rw [State.placed, if_neg full]
        rfl
      have counted := State.placed_counts (s := set) full stands hkind hbit (.reply tag 0x1E#8 .accepted)
      exact ⟨_, _, placed, unplaced, counted, hkind, Nat.min_eq_left (by simp)⟩

end Sys2Proof.Machine
end

section
/-!
PROOFS. A command is run with the rest of the queue, completes, and leaves the queue as it is (O1, O2): what each shared operation
leaves of the queue of waiting commands.
-/

-- One theorem after another: each one elaborated beside the others takes a thread with a stack of its own.
set_option Elab.async false

namespace Sys2Proof.Machine

/-- Settles O1: a step takes the front command, and idles where none waits. -/
theorem stepRunsFrontCommand : Obligations.StepRunsFrontCommand := by
  refine ⟨fun c rest s => step_cons s c rest, fun s empty => ?_⟩
  rw [step, empty]

/-! ### Messages, notices and Frame Coordination -/

theorem OnlyCoordination.pending {s t : State} (h : OnlyCoordination s t) : t.pending = s.pending := by
  obtain ⟨_, _, _, _, rfl, _⟩ := h
  rfl

theorem OnlyReports.pending {s t : State} (h : OnlyReports s t) : t.pending = s.pending := by
  obtain ⟨_, _, _, _, rfl⟩ := h
  rfl

theorem OnlyImage.pending {s t : State} (h : OnlyImage s t) : t.pending = s.pending := by
  obtain ⟨_, _, _, _, rfl, _⟩ := h
  rfl

section
variable (s : State)

@[simp] theorem State.linkError_pending (n : Nat) : (s.linkError n).pending = s.pending := rfl

@[simp] theorem State.queueMessage_pending (m : QueuedMessage) : (s.queueMessage m).pending = s.pending := by
  unfold State.queueMessage
  split
  · rfl
  · rfl

@[simp] theorem State.send_pending (m : Message) : (s.send m).pending = s.pending := s.queueMessage_pending _

@[simp] theorem State.reply_pending (tag kind : Byte) (code : ReplyCode) : (s.reply tag kind code).pending = s.pending :=
  s.send_pending _

@[simp] theorem State.enterListenIn_pending (cause : HelloCause) : (s.enterListenIn cause).pending = s.pending := rfl

@[simp] theorem State.permitTest_pending : s.permitTest.pending = s.pending := (OnlyCoordination.permitTest s).pending
@[simp] theorem State.tryHoldoff_pending : s.tryHoldoff.pending = s.pending := (OnlyCoordination.tryHoldoff s).pending
@[simp] theorem State.trySetNeed_pending : s.trySetNeed.pending = s.pending := (OnlyCoordination.trySetNeed s).pending
@[simp] theorem State.clearNeed_pending : s.clearNeed.pending = s.pending := (OnlyCoordination.clearNeed s).pending
@[simp] theorem State.release_pending : s.release.pending = s.pending := (OnlyCoordination.release s).pending
@[simp] theorem State.beginDoubt_pending : s.beginDoubt.pending = s.pending := (OnlyCoordination.beginDoubt s).pending

@[simp] theorem State.recheckPending_pending : s.recheckPending.pending = s.pending :=
  (OnlyCoordination.recheckPending s).pending

@[simp] theorem State.noticeCompleted_pending (n : Notice) (stale : Bool) : (s.noticeCompleted n stale).1.pending = s.pending :=
  (OnlyCoordination.noticeCompleted s n stale).pending

@[simp] theorem State.noticeFailed_pending (n : Notice) : (s.noticeFailed n).pending = s.pending :=
  (OnlyCoordination.noticeFailed s n).pending

@[simp] theorem State.meetHoldoff_pending (w : ClaimKind) : (s.meetHoldoff w).pending = s.pending :=
  (OnlyCoordination.meetHoldoff s w).pending

@[simp] theorem State.collide_pending (r : Nat) (k : ClaimKind) : (s.collide r k).pending = s.pending := by
  simp only [State.collide]
  split <;> split <;> rfl

@[simp] theorem State.meetNotice_pending (r : Nat) (n : Notice) : (s.meetNotice r n).pending = s.pending := by
  unfold State.meetNotice
  split
  · unfold State.meetClaim
    split
    · split <;> simp
    · rfl
  · simp
  · rfl

@[simp] theorem State.acceptNotice_pending (r : Nat) (n : Notice) : (s.acceptNotice r n).pending = s.pending := by
  simp [State.acceptNotice, State.recordNotice]

@[simp] theorem State.noticeTaken_pending (f : LinkFrame) : (s.noticeTaken f).pending = s.pending := by
  unfold State.noticeTaken
  split
  · split
    · rfl
    · split
      · rfl
      · split <;> simp
  · rfl

/-! ### Entries and results -/

@[simp] theorem State.createUnmade_pending (f : SiteFields) (o : SiteOutcome) (g : IndentFlags) :
    (s.createUnmade f o g).pending = s.pending :=
  (OnlyReports.createUnmade s f o g).pending

@[simp] theorem State.writeAbandoned_pending : s.writeAbandoned.pending = s.pending := (OnlyReports.writeAbandoned s).pending

@[simp] theorem State.writeResult_pending (r : MeasureResult) : (s.writeResult r).pending = s.pending :=
  (OnlyReports.writeResult s r).pending

/-! ### Choices (R18, R35, R46) -/

@[simp] theorem State.enterPhase_pending (w : Work) (p : Phase) : (s.enterPhase w p).pending = s.pending := by
  obtain ⟨_, _, _, _, _, entered⟩ := s.enterPhase_frame w p
  exact entered.pending

@[simp] theorem State.select_pending : s.select.2.pending = s.pending := by
  unfold State.select
  split
  · rfl
  · rfl
  · split
    · rfl
    · unfold State.defer
      split <;> rfl
    · simp [State.takeHead]

@[simp] theorem State.waitFor_pending (cue : Cue) : (s.waitFor cue).1.pending = s.pending := by
  unfold State.waitFor
  split <;> rfl

@[simp] theorem State.onSelection_pending (a : Selection) : (s.onSelection a).1.pending = s.pending := by
  unfold State.onSelection
  split <;> simp

@[simp] theorem State.askSelection_pending : s.askSelection.1.pending = s.pending :=
  (s.select.2.onSelection_pending s.select.1).trans s.select_pending

@[simp] theorem State.chooseUnbatched_pending : s.chooseUnbatched.1.pending = s.pending := by
  unfold State.chooseUnbatched
  split
  · simp
  · split
    · unfold State.chooseInBatchMode
      split
      · split <;> simp
      · simp
    · simp

@[simp] theorem State.chooseOnce_pending : s.chooseOnce.1.pending = s.pending := by
  simp only [State.chooseOnce]
  split
  · split <;> simp
  · simp

/-- However often a choice is repeated. -/
theorem State.chooseUpTo_pending (n : Nat) : ∀ s : State, (State.chooseUpTo n s).pending = s.pending := by
  induction n with
  | zero => exact fun _ => rfl
  | succ n ih =>
    intro s
    have once := s.chooseOnce_pending
    unfold State.chooseUpTo
    split
    next s' chosen => rw [ih, ← once, chosen]
    next s' chosen => rw [← once, chosen]

@[simp] theorem State.choose_pending : s.choose.pending = s.pending := State.chooseUpTo_pending _ s

@[simp] theorem State.checkPaused_pending : s.checkPaused.pending = s.pending := by
  unfold State.checkPaused
  split <;> rfl

@[simp] theorem State.continueWork_pending : s.continueWork.pending = s.pending := by
  unfold State.continueWork
  split
  · simp
  · unfold State.pausingNext
    split <;> simp
  · rfl

@[simp] theorem State.endItem_pending : s.endItem.pending = s.pending := State.continueWork_pending _

@[simp] theorem State.wake_pending (cue : Cue) : (s.wake cue).pending = s.pending := by
  unfold State.wake
  split <;> simp

/-! ### Computations (R152, R153) -/

@[simp] theorem State.afterWrite_pending : s.afterWrite.pending = s.pending := by
  simp only [State.afterWrite]
  split <;> simp

@[simp] theorem State.completeSlot_pending (name : SlotName) (d : Delivery) : (s.completeSlot name d).pending = s.pending := by
  simp [State.completeSlot]

@[simp] theorem State.startSlot_pending (name : SlotName) : (s.startSlot name).1.pending = s.pending := by
  unfold State.startSlot
  split
  · split
    · split <;> simp
    · rfl
  · rfl

@[simp] theorem State.startComputations_pending : s.startComputations.pending = s.pending := by
  simp only [State.startComputations]
  split <;> simp

@[simp] theorem State.computeDone_pending (name : SlotName) : (s.computeDone name).pending = s.pending := by
  unfold State.computeDone
  split <;> simp

/-! ### Faults, stops and the end of START (R30, R31, R50) -/

@[simp] theorem State.abandonImage_pending : s.abandonImage.pending = s.pending := by
  obtain ⟨_, _, abandoned⟩ := s.abandonImage_frame
  rw [abandoned]

@[simp] theorem State.withForceStop_pending (r : Frc × List ForceReport) : (s.withForceStop r).pending = s.pending := rfl

@[simp] theorem State.stationFault_pending (cause : FaultCause) : (s.stationFault cause).pending = s.pending := by
  simp only [State.stationFault]
  split <;> simp

@[simp] theorem State.tryEndStart_pending : s.tryEndStart.pending = s.pending := by
  unfold State.tryEndStart
  split
  · split
    · rfl
    · split <;> rfl
  · rfl

@[simp] theorem State.takeRestart_pending : s.takeRestart.pending = s.pending := rfl

@[simp] theorem State.halt_pending : s.halt.pending = s.pending := by
  have image : ∀ u : State, u.haltImage.pending = u.pending := by
    intro u
    unfold State.haltImage
    split <;> simp
  simp [State.halt, image]

/-! ### Reports of the Force Unit (R34, R39, R48, R49) -/

@[simp] theorem State.onContact_pending : s.onContact.pending = s.pending := by
  unfold State.onContact
  split <;> rfl

@[simp] theorem State.onStrokeExhausted_pending : s.onStrokeExhausted.pending = s.pending := by
  unfold State.onStrokeExhausted
  split <;> simp

@[simp] theorem State.onOverload_pending : s.onOverload.pending = s.pending := s.writeAbandoned_pending

@[simp] theorem State.indentCompleted_pending (i : IndentItem) : (s.indentCompleted i).pending = s.pending := by
  unfold State.indentCompleted
  split
  · unfold State.afterIndent
    split <;> simp [State.writeCompleted, State.rewrite]
  · simp

@[simp] theorem State.onRetracted_pending : s.onRetracted.pending = s.pending := by
  have atItem : ∀ u : State, u.retractedAtItem.pending = u.pending := by
    intro u
    unfold State.retractedAtItem
    split <;> simp
  simp [State.onRetracted, atItem]

@[simp] theorem State.onForceReport_pending (r : ForceReport) : (s.onForceReport r).pending = s.pending := by
  simp only [State.onForceReport]
  split <;> simp

@[simp] theorem State.withForce_pending (r : Frc × List ForceReport) : (s.withForce r).pending = s.pending := by
  have reported : ∀ (reports : List ForceReport) (u : State), (reports.foldl State.onForceReport u).pending = u.pending := by
    intro reports
    induction reports with
    | nil => exact fun _ => rfl
    | cons report rest ih => exact fun u => (ih _).trans (u.onForceReport_pending report)
  exact reported _ _

@[simp] theorem State.samplePair_pending (p q : RawSample) : (s.samplePair p q).pending = s.pending := s.withForce_pending _

@[simp] theorem State.namedPair_pending (named : Bool) (p q : RawSample) : (s.namedPair named p q).pending = s.pending := by
  unfold State.namedPair
  split <;> simp

/-! ### Reports of the Motion Unit (R38, R41, R44, R105) -/

@[simp] theorem State.onMotionReport_pending (r : MotionReport) : (s.onMotionReport r).pending = s.pending := by
  unfold State.onMotionReport
  split
  · unfold State.onSequenceDone
    split <;> simp
  · simp

@[simp] theorem State.withMotion_pending (r : Mot × List MotionReport) : (s.withMotion r).pending = s.pending := by
  have reported : ∀ (reports : List MotionReport) (u : State), (reports.foldl State.onMotionReport u).pending = u.pending := by
    intro reports
    induction reports with
    | nil => exact fun _ => rfl
    | cons report rest ih => exact fun u => (ih _).trans (u.onMotionReport_pending report)
  exact reported _ _

@[simp] theorem State.motion_pending (f : Mot → ConfigImage → Bool → Time → Mot × List MotionReport) :
    (s.motion f).pending = s.pending :=
  s.withMotion_pending _

@[simp] theorem State.axesStopped_pending (x y : Int) (z : Nat) : (s.axesStopped x y z).pending = s.pending := by
  have stopped : ∀ u : State, u.onStopped.pending = u.pending := by
    intro u
    unfold State.onStopped
    split <;> simp
  unfold State.axesStopped
  split <;> simp [stopped]

@[simp] theorem State.fineStepDone_pending : s.fineStepDone.pending = s.pending := by
  unfold State.fineStepDone
  split
  · split
    · exact (OnlyImage.stepReported _ _).pending
    · rfl
  · rfl

/-! ### Reports of the Image Unit (R42, R141 to R147) -/

@[simp] theorem State.windowReceived_pending (lines : List (List Pixel)) : (s.windowReceived lines).1.pending = s.pending :=
  (OnlyImage.windowReceived s lines).pending

@[simp] theorem State.attemptFailed_pending : s.attemptFailed.1.pending = s.pending := (OnlyImage.attemptFailed s).pending

@[simp] theorem State.imageEnded_pending (e : ImageEnding) (haltDue : Bool) : (s.imageEnded e haltDue).pending = s.pending := by
  unfold State.imageEnded
  split
  · split
    · simp only [State.computeDelivered]
      split <;> simp [State.deliver]
    · rfl
  · rfl

@[simp] theorem State.withImage_pending (r : State × Option ImageEnding) (haltDue : Bool) :
    (State.withImage r haltDue).pending = r.1.pending := by
  unfold State.withImage
  split <;> simp

@[simp] theorem State.focusSettleEnd_pending : s.focusSettleEnd.pending = s.pending := by
  unfold State.focusSettleEnd
  split <;> rfl

@[simp] theorem State.frameFails_pending (haltDue : Bool) : (s.frameFails haltDue).pending = s.pending := by
  unfold State.frameFails
  split <;> simp

@[simp] theorem State.noFrame_pending (haltDue : Bool) : (s.noFrame haltDue).pending = s.pending := by
  unfold State.noFrame
  split <;> simp

/-! ### Grants and aborts (R32, R44) -/

@[simp] theorem State.onGrant_pending : s.onGrant.pending = s.pending := by
  have handed : ∀ (u : State) (c : Current), (u.handOut c).pending = u.pending := by
    intro u c
    unfold State.handOut
    split
    · exact u.withMotion_pending _
    · exact u.withMotion_pending _
    · rfl
    · exact (OnlyImage.beginImage _ _ _).pending
    · rfl
  unfold State.onGrant
  split
  · split <;> simp [handed]
  · rfl

@[simp] theorem State.abortMotion_pending : s.abortMotion.pending = s.pending := by
  unfold State.abortMotion
  split <;> simp

@[simp] theorem State.abortImage_pending : s.abortImage.pending = s.pending := by
  unfold State.abortImage State.endImageAbort
  split <;> simp

@[simp] theorem State.abortItem_pending : s.abortItem.pending = s.pending := by
  have working : ∀ (u : State) (p : Phase), (u.abortWorking p).pending = u.pending := by
    intro u p
    cases p <;> simp [State.abortWorking]
  unfold State.abortItem
  split
  · rfl
  · split <;> simp [working]

/-! ### Requests (R166 to R175) -/

theorem State.planSite_pending (r : PlanRecord) : (s.planSite r).pending = s.pending := State.wake_pending _ _

theorem State.planRemeasure_pending (site : Nat) : (s.planRemeasure site).pending = s.pending := State.wake_pending _ _

theorem State.mapClear_pending : s.mapClear.pending = s.pending := State.wake_pending _ _

theorem State.startRunning_pending : s.startRunning.pending = s.pending :=
  (State.continueWork_pending _).trans (State.startComputations_pending _)

theorem State.pauseRunning_pending : s.pauseRunning.pending = s.pending := State.continueWork_pending _

theorem State.resumeHalted_pending : s.resumeHalted.pending = s.pending := rfl

theorem State.planWithdraw_pending (site : Nat) : (s.planWithdraw site).pending = s.pending := by
  unfold State.planWithdraw
  split <;> simp [State.withdrawItem]

/-- An answer keeps the queue where its effect does. -/
theorem State.answerThen_pending {effect : State → State} (h : ∀ u, (effect u).pending = u.pending) (tag kind : Byte)
    (code : ReplyCode) : (s.answerThen tag kind code effect).pending = s.pending := by
  unfold State.answerThen
  split <;> simp [h]

@[simp] theorem State.answerRestart_pending (tag kind : Byte) : (s.answerRestart tag kind).pending = s.pending := by
  unfold State.answerRestart
  split
  · unfold State.acceptRestart
    split
    · simp
    · split <;> simp
  · simp

/-- Every answer of an owner keeps the queue, by the request. -/
@[simp] theorem State.answer_pending (tag kind : Byte) (r : Request) : (s.answer tag kind r).pending = s.pending := by
  cases r with
  | planSite r => exact s.answerThen_pending (fun u => u.planSite_pending r) _ _ _
  | planRemeasure site => exact s.answerThen_pending (fun u => u.planRemeasure_pending site) _ _ _
  | planWithdraw site => exact s.answerThen_pending (fun u => u.planWithdraw_pending site) _ _ _
  | mapClear => exact s.answerThen_pending State.mapClear_pending _ _ _
  | start => exact s.answerThen_pending State.startRunning_pending _ _ _
  | pause => exact s.answerThen_pending State.pauseRunning_pending _ _ _
  | resume => exact s.answerThen_pending State.resumeHalted_pending _ _ _
  | abortSite => exact s.answerThen_pending State.abortItem_pending _ _ _
  | restart => exact s.answerRestart_pending tag kind
  | refReselect => exact s.answerThen_pending (effect := fun s => { s with tbu := s.tbu.reselect }) (fun _ => rfl) _ _ _
  | setMode m limit => exact s.answerThen_pending (effect := (·.setMode m limit)) (fun _ => rfl) _ _ _
  | queryStatus page => exact State.send_pending _ _
  | queryEntry site =>
    change (s.answerEntry tag kind site).pending = s.pending
    unfold State.answerEntry
    split <;> simp
  | queryCounters => exact s.send_pending _
  | setCounter index k mask =>
    change (s.answerSetCounter tag kind index k mask).pending = s.pending
    unfold State.answerSetCounter
    split <;> simp [State.setCounter]

@[simp] theorem State.handleRequest_pending (dest : BitVec 4) (kind : Byte) (payload : List Byte) :
    (s.handleRequest dest kind payload).pending = s.pending := by
  unfold State.handleRequest
  split
  · simp
  · unfold State.direct
    split <;> simp

@[simp] theorem State.takeRequest_pending (dest : BitVec 4) (kind : Byte) (payload : List Byte) :
    (s.takeRequest dest kind payload).pending = s.pending := by
  unfold State.takeRequest
  split
  · rfl
  · split <;> simp

/-! ### The frame link (R82 to R91) -/

@[simp] theorem State.ownCompleted_pending : s.ownCompleted.pending = s.pending := by
  have reported : ∀ (u : State) (t : Transmission), (u.reportCompleted t).pending = u.pending := by
    intro u t
    unfold State.reportCompleted
    split
    · rfl
    · split
      · unfold State.reportGrant
        split <;> simp
      · split <;> simp
  unfold State.ownCompleted
  split <;> simp [reported]

@[simp] theorem State.ownFailed_pending : s.ownFailed.pending = s.pending := by
  have reported : ∀ (u : State) (t : Transmission), (u.reportFailed t).pending = u.pending := by
    intro u t
    unfold State.reportFailed
    split
    · rfl
    · split
      · simp
      · split <;> simp
  unfold State.ownFailed
  split <;> simp [reported]

@[simp] theorem State.ownMismatched_pending (since : List Bool) : (s.ownMismatched since).pending = s.pending := by
  unfold State.ownMismatched
  split <;> simp

@[simp] theorem State.judgeOther_pending (f : LinkFrame) : (s.judgeOther f).pending = s.pending := by
  have handed : ∀ u : State, (u.handOn f).pending = u.pending := by
    intro u
    unfold State.handOn
    split
    · simp
    · split <;> simp
  unfold State.judgeOther
  split
  · simp
  · unfold State.judgeDestination
    split
    · rfl
    · split <;> simp [handed]

@[simp] theorem State.frameEnd_pending (line : List Bool) : (s.frameEnd line).pending = s.pending := by
  unfold State.frameEnd
  split
  · split
    · unfold State.judgeFrame
      split
      · split <;> simp
      · simp
    · rfl
  · rfl

@[simp] theorem State.badLength_pending (arbitration kind length : Byte) :
    (s.badLength arbitration kind length).pending = s.pending := by
  unfold State.badLength
  split <;> simp

@[simp] theorem State.runEnd_pending (length : Nat) : (s.runEnd length).pending = s.pending := by
  have counted : ∀ u : State, (u.countRun length).pending = u.pending := by
    intro u
    unfold State.countRun
    repeat' split
    all_goals simp
  unfold State.runEnd
  split <;> simp [counted]

@[simp] theorem State.haltPulse_pending : s.haltPulse.pending = s.pending := by
  simp [State.haltPulse]

@[simp] theorem State.drivePulse_pending (past : Bool) (since : List Bool) : (s.drivePulse past since).pending = s.pending := by
  simp only [State.drivePulse, State.overridden]
  split <;> simp

@[simp] theorem State.stopAsserted_pending (past : Bool) (since : List Bool) :
    (s.stopAsserted past since).pending = s.pending := by
  unfold State.stopAsserted
  split <;> simp

@[simp] theorem State.stopPulseRepeat_pending (past : Bool) (since : List Bool) :
    (s.stopPulseRepeat past since).pending = s.pending := by
  unfold State.stopPulseRepeat
  split <;> simp

/-! ### The configuration read, the tick and the deadlines -/

@[simp] theorem State.configRead_pending (image : List Byte) : (s.configRead image).pending = s.pending := by
  unfold State.configRead
  split
  · split
    · exact State.tryEndStart_pending _
    · exact State.stationFault_pending _ _
  · rfl

@[simp] theorem State.countWait_pending : s.countWait.pending = s.pending := by
  unfold State.countWait
  split
  · split <;> rfl
  · rfl

@[simp] theorem State.listenInEnd_pending : s.listenInEnd.pending = s.pending := by
  unfold State.listenInEnd
  split <;> simp

@[simp] theorem State.doubtEnd_pending : s.doubtEnd.pending = s.pending := by
  unfold State.doubtEnd
  split <;> simp

@[simp] theorem State.claimRefresh_pending : s.claimRefresh.pending = s.pending := by
  unfold State.claimRefresh
  split
  · split <;> rfl
  · rfl

@[simp] theorem State.holdoffRefresh_pending : s.holdoffRefresh.pending = s.pending := by
  unfold State.holdoffRefresh
  split
  · split <;> rfl
  · rfl

@[simp] theorem State.viewExpiry_pending : s.viewExpiry.pending = s.pending := by
  obtain ⟨_, _, swept⟩ := s.expireView_frame
  unfold State.viewExpiry
  split <;> simp [swept]

end

/-! ### Every command -/

/-- The command completes on a state and leaves the queue of waiting commands as it is. -/
def CompletesKeepingQueue (c : Instr) (s : State) : Prop := ∃ t, exec c s = .next t ∧ t.pending = s.pending

/-- A command whose effect leaves the queue completes, whether RESET_N holds its effect back or not. -/
theorem CompletesKeepingQueue.act {c : Instr} {s : State} {f : State → State} (he : exec c s = s.act f)
    (hf : (f s).pending = s.pending) : CompletesKeepingQueue c s := by
  refine ⟨_, he, ?_⟩
  split
  · rfl
  · exact hf

theorem exec_completesKeepingQueue (c : Instr) (s : State) : CompletesKeepingQueue c s := by
  cases c with
  | deviceReset straps => exact ⟨_, rfl, rfl⟩
  | resetNRelease =>
    refine ⟨_, rfl, ?_⟩
    split <;> rfl
  | configReadDone image => exact .act (exec_configReadDone ..) (s.configRead_pending image)
  | planSite => exact .act (exec_planSite ..) (s.takeRequest_pending ..)
  | planRemeasure => exact .act (exec_planRemeasure ..) (s.takeRequest_pending ..)
  | planWithdraw => exact .act (exec_planWithdraw ..) (s.takeRequest_pending ..)
  | mapClear => exact .act (exec_mapClear ..) (s.takeRequest_pending ..)
  | start => exact .act (exec_start ..) (s.takeRequest_pending ..)
  | pause => exact .act (exec_pause ..) (s.takeRequest_pending ..)
  | resume => exact .act (exec_resume ..) (s.takeRequest_pending ..)
  | abortSite => exact .act (exec_abortSite ..) (s.takeRequest_pending ..)
  | restart => exact .act (exec_restart ..) (s.takeRequest_pending ..)
  | refReselect => exact .act (exec_refReselect ..) (s.takeRequest_pending ..)
  | setMode => exact .act (exec_setMode ..) (s.takeRequest_pending ..)
  | queryStatus => exact .act (exec_queryStatus ..) (s.takeRequest_pending ..)
  | queryEntry => exact .act (exec_queryEntry ..) (s.takeRequest_pending ..)
  | queryCounters => exact .act (exec_queryCounters ..) (s.takeRequest_pending ..)
  | setCounter => exact .act (exec_setCounter ..) (s.takeRequest_pending ..)
  | unknownKind => exact .act (exec_unknownKind ..) (s.takeRequest_pending ..)
  | transmitStart => exact .act (exec_transmitStart ..) rfl
  | arbitrationLoss => exact .act (exec_arbitrationLoss ..) rfl
  | ownFrameCompleted => exact .act (exec_ownFrameCompleted s) s.ownCompleted_pending
  | ownFrameError since => exact .act (exec_ownFrameError ..) (s.ownMismatched_pending since)
  | frameEnd line => exact .act (exec_frameEnd ..) (s.frameEnd_pending line)
  | lengthAbove32 => exact .act (exec_lengthAbove32 ..) (s.badLength_pending ..)
  | dominantRunReaches9 => exact .act (exec_dominantRunReaches9 s) rfl
  | dominantRunEnd length => exact .act (exec_dominantRunEnd ..) (s.runEnd_pending length)
  | haltPulse => exact .act (exec_haltPulse s) s.haltPulse_pending
  | lineIdle => exact .act (exec_lineIdle s) rfl
  | stopAsserted past since => exact .act (exec_stopAsserted ..) (s.stopAsserted_pending past since)
  | stopPulseEnd => exact .act (exec_stopPulseEnd ..) rfl
  | stopPulseRepeat past since => exact .act (exec_stopPulseRepeat ..) (s.stopPulseRepeat_pending past since)
  | tick => exact .act (exec_tick s) (State.countWait_pending _)
  | listenInEnd => exact .act (exec_listenInEnd s) s.listenInEnd_pending
  | doubtEnd => exact .act (exec_doubtEnd s) s.doubtEnd_pending
  | claimRefreshDue => exact .act (exec_claimRefreshDue s) s.claimRefresh_pending
  | holdoffRefreshDue => exact .act (exec_holdoffRefreshDue s) s.holdoffRefresh_pending
  | viewExpiry => exact .act (exec_viewExpiry s) s.viewExpiry_pending
  | holdoffQueued => exact .act (exec_holdoffQueued s) s.tryHoldoff_pending
  | turretHomeFound => exact .act (exec_turretHomeFound s) (s.motion_pending _)
  | indexComplete => exact .act (exec_indexComplete ..) (s.motion_pending _)
  | carriageAxisHome => exact .act (exec_carriageAxisHome ..) (s.motion_pending _)
  | carriageInPosition => exact .act (exec_carriageInPosition s) (s.motion_pending _)
  | zHomeFound => exact .act (exec_zHomeFound s) (s.motion_pending _)
  | zInPosition => exact .act (exec_zInPosition s) (s.motion_pending _)
  | fineStepComplete => exact .act (exec_fineStepComplete s) s.fineStepDone_pending
  | moveDeadline => exact .act (exec_moveDeadline s) (s.withMotion_pending _)
  | settleEnd => exact .act (exec_settleEnd s) (s.withMotion_pending _)
  | axesStopped x y z => exact .act (exec_axesStopped ..) (s.axesStopped_pending x y z)
  | samplePair p q => exact .act (exec_samplePair ..) (s.samplePair_pending p q)
  | tareDone p q => exact .act (exec_tareDone ..) (s.namedPair_pending _ p q)
  | wireTestDone p q => exact .act (exec_wireTestDone ..) (s.namedPair_pending _ p q)
  | wireTestRecovered p q => exact .act (exec_wireTestRecovered ..) (s.namedPair_pending _ p q)
  | loadRampEnd p q => exact .act (exec_loadRampEnd ..) (s.namedPair_pending _ p q)
  | dwellEnd p q => exact .act (exec_dwellEnd ..) (s.namedPair_pending _ p q)
  | unloadTimeout => exact .act (exec_unloadTimeout s) (s.withForce_pending _)
  | fastUnloadTimeout => exact .act (exec_fastUnloadTimeout s) (s.withForce_pending _)
  | homeDriveDone p q => exact .act (exec_homeDriveDone ..) (s.namedPair_pending _ p q)
  | freeTestPass p q => exact .act (exec_freeTestPass ..) (s.namedPair_pending _ p q)
  | retractTimeout => exact .act (exec_retractTimeout s) (s.withForce_pending _)
  | refWindowEnd => exact .act (exec_refWindowEnd ..) rfl
  | sourceSwitch => exact .act (exec_sourceSwitch s) rfl
  | focusSettleEnd => exact .act (exec_focusSettleEnd s) s.focusSettleEnd_pending
  | fvalRise => exact .act (exec_fvalRise s) rfl
  | windowComplete => exact .act (exec_windowComplete ..) (by simp)
  | pclkStall haltDue => exact .act (exec_pclkStall ..) (s.frameFails_pending haltDue)
  | shortFrame haltDue => exact .act (exec_shortFrame ..) (s.frameFails_pending haltDue)
  | frameWaitEnd haltDue => exact .act (exec_frameWaitEnd ..) (s.noFrame_pending haltDue)
  | computeComplete slot => exact .act (exec_computeComplete ..) (s.computeDone_pending slot)
  | startBit => exact .act (exec_startBit s) rfl

/-- Settles O2, by what each operation leaves of the queue. -/
theorem everyCommandCompletes : Obligations.EveryCommandCompletes := exec_completesKeepingQueue

end Sys2Proof.Machine
end

section
/-!
PROOFS. Fields of bytes and bits: a site record is read back from its bytes (O10), and the records and messages have their stated
sizes (O11).
-/

-- One theorem after another: each one elaborated beside the others takes a thread with a stack of its own.
set_option Elab.async false

namespace Sys2Proof.Machine

/-! ### Fields read back (spec 11) -/

/-- The last byte of a field holds its low eight bits. -/
theorem bytesOf_succ (n v : Nat) : bytesOf (n + 1) v = bytesOf n (v / 2 ^ 8) ++ [BitVec.ofNat 8 v] := by
  simp only [bytesOf, List.range_succ, List.map_append, List.map_singleton]
  congr 1
  · refine List.map_congr_left fun i hi => ?_
    have place : 8 * (n + 1 - 1 - i) = 8 + 8 * (n - 1 - i) := by
      have := List.mem_range.mp hi
      omega
    rw [place, Nat.shiftRight_add, Nat.shiftRight_eq_div_pow v 8]
  · simp

theorem natOfBytes_append_singleton (bytes : List Byte) (b : Byte) :
    natOfBytes (bytes ++ [b]) = natOfBytes bytes * 2 ^ 8 + b.toNat := by
  simp [natOfBytes]

/-- A number is read back from as many bytes as hold it. -/
theorem natOfBytes_bytesOf {n v : Nat} (h : v < 2 ^ (8 * n)) : natOfBytes (bytesOf n v) = v := by
  induction n generalizing v with
  | zero => exact (Nat.lt_one_iff.mp h).symm
  | succ n ih =>
    have high : v / 2 ^ 8 < 2 ^ (8 * n) := Nat.div_lt_of_lt_mul (by rwa [← Nat.pow_add, Nat.add_comm])
    rw [bytesOf_succ, natOfBytes_append_singleton, ih high, BitVec.toNat_ofNat]
    exact Nat.div_add_mod' v (2 ^ 8)

@[simp] theorem bytesOf_length (n v : Nat) : (bytesOf n v).length = n := by simp [bytesOf]

@[simp] theorem signedBytes_length (n : Nat) (v : Int) : (signedBytes n v).length = n := bytesOf_length _ _

/-- A signed number is read back from three bytes in two's complement. -/
theorem intOfBytes_signedBytes_three {v : Int} (hl : -2 ^ 23 ≤ v) (hu : v < 2 ^ 23) : intOfBytes (signedBytes 3 v) = v := by
  have spelled : natOfBytes (signedBytes 3 v) = (BitVec.ofInt 24 v).toNat := natOfBytes_bytesOf (BitVec.isLt _)
  rw [intOfBytes, signedBytes_length, spelled, BitVec.ofNat_toNat, BitVec.setWidth_eq]
  exact BitVec.toInt_ofInt_eq_self (by decide) hl hu

/-- A field of a payload that holds a number's own bytes is read as that number. -/
theorem fieldNat_bytesOf {p : List Byte} {o n v : Nat} (hp : (p.drop o).take n = bytesOf n v) (h : v < 2 ^ (8 * n)) :
    fieldNat p o n = v := by
  rw [fieldNat, hp, natOfBytes_bytesOf h]

theorem fieldInt_signedBytes_three {p : List Byte} {o : Nat} {v : Int} (hp : (p.drop o).take 3 = signedBytes 3 v)
    (hl : -2 ^ 23 ≤ v) (hu : v < 2 ^ 23) : fieldInt p o 3 = v := by
  rw [fieldInt, hp, intOfBytes_signedBytes_three hl hu]

/-- Settles O10: each field stands at its offset and is read back from its own bytes. -/
theorem planRecordReadsBack : Obligations.PlanRecordReadsBack := by
  intro tag r site xl xu yl yu indenter objective force dwell loadTime expected
  refine (decodeRequest_fields rfl rfl).trans (congrArg (fun r => Decoded.request (.planSite r)) ?_)
  cases r
  rw [readPlanRecord, PlanRecord.mk.injEq]
  exact ⟨fieldNat_bytesOf rfl site, fieldInt_signedBytes_three rfl xl xu, fieldInt_signedBytes_three rfl yl yu,
    fieldNat_bytesOf rfl indenter, fieldNat_bytesOf rfl objective, fieldNat_bytesOf rfl force, fieldNat_bytesOf rfl dwell,
    fieldNat_bytesOf rfl loadTime, fieldNat_bytesOf rfl expected⟩

/-! ### Sizes of the record and of the messages (spec 11.3, 11.4) -/

@[simp] theorem bitsOf_length (n v : Nat) : (bitsOf n v).length = n := by simp [bitsOf]

@[simp] theorem signedBits_length (n : Nat) (v : Int) : (signedBits n v).length = n := bitsOf_length _ _

@[simp] theorem Entry.recordBits_length (e : Entry) : e.recordBits.length = 243 := by
  simp [Entry.recordBits, IndentFlags.bits, MeasureFlags.bits]

@[simp] theorem MeasureFlags.attemptBits_length (f : MeasureFlags) : f.attemptBits.length = 10 := rfl

/-- Bits are packed eight to a byte, a shorter remainder into one byte of its own. -/
theorem packBits_length : ∀ bits : List Bool, (packBits bits).length = (bits.length + 7) / 8
  | [] => rfl
  | [_] | [_, _] | [_, _, _] | [_, _, _, _] | [_, _, _, _, _] | [_, _, _, _, _, _] | [_, _, _, _, _, _, _] => by simp [packBits]
  | _ :: _ :: _ :: _ :: _ :: _ :: _ :: _ :: rest => by
    simp only [packBits, List.length_cons, packBits_length rest]
    omega

/-- Parts of one length, laid one after another. -/
theorem length_flatMap_of_length_eq {α β : Type} {n : Nat} {f : α → List β} (l : List α) (h : ∀ a, (f a).length = n) :
    (l.flatMap f).length = l.length * n := by
  simp [List.length_flatMap, h]

theorem Counter.bytes_length (c : Counter) : c.bytes.length = 7 := by simp [Counter.bytes]

/-! ### Sizes of the STATUS pages (spec 11.5) -/

@[simp] theorem oneByte_length (n : Nat) : (oneByte n).length = 1 := rfl

@[simp] theorem readingBytes_length (r : Option Int) : (readingBytes r).length = 3 := by
  cases r with
  | none => rfl
  | some r => exact signedBytes_length 3 r

section
variable (s : State)

@[simp] theorem State.freeBytes_length (field count : Nat) : (s.freeBytes field count).length = count := by
  simp [State.freeBytes]

@[simp] theorem State.currentBytes_length : s.currentBytes.length = 4 := by
  unfold State.currentBytes
  split <;> simp

@[simp] theorem State.viewBytes_length (place : Nat) (v : ViewEntry) : (s.viewBytes place v).length = 3 := by
  unfold State.viewBytes
  split <;> simp

@[simp] theorem State.noViewBytes_length (place : Nat) : (s.noViewBytes place).length = 3 := by simp [State.noViewBytes]

@[simp] theorem State.positionBytes_length (field : Nat) (underWay : Bool) (value : Int) :
    (s.positionBytes field underWay value).length = 3 := by
  unfold State.positionBytes
  split <;> simp

@[simp] theorem State.zBytes_length : s.zBytes.length = 3 := by
  unfold State.zBytes
  split <;> simp

@[simp] theorem State.slotBytes_length (field : Nat) (p : ProfileSlot) : (s.slotBytes field p).length = 3 := by
  cases p <;> simp [State.slotBytes]

@[simp] theorem State.bestBytes_length : s.bestBytes.length = 8 := by
  unfold State.bestBytes
  split <;> simp

theorem State.statusPage0_length : s.statusPage0.length = 22 := by simp [State.statusPage0]

theorem State.statusPage1_length : s.statusPage1.length = 24 := by
  rw [State.statusPage1, List.length_append, length_flatMap_of_length_eq (n := 3)]
  · simp
  · intro place
    split <;> simp

theorem State.statusPage2_length : s.statusPage2.length = 28 := by simp [State.statusPage2]

theorem State.statusPage3_length : s.statusPage3.length = 18 := by simp [State.statusPage3]

theorem State.statusListPage_length (first : Nat) : (s.statusListPage first).length = 17 := by
  rw [State.statusListPage, List.length_append, length_flatMap_of_length_eq _ fun _ => bytesOf_length 2 _]
  simp

/-- The size of each page. -/
theorem State.statusFields_length {page size : Nat}
    (h : (page, size) ∈ [(0, 22), (1, 24), (2, 28), (3, 18), (4, 17), (5, 17)]) : (s.statusFields page).length = size := by
  simp only [List.mem_cons, Prod.mk.injEq, List.not_mem_nil, or_false] at h
  obtain ⟨rfl, rfl⟩ | ⟨rfl, rfl⟩ | ⟨rfl, rfl⟩ | ⟨rfl, rfl⟩ | ⟨rfl, rfl⟩ | ⟨rfl, rfl⟩ := h
  · exact s.statusPage0_length
  · exact s.statusPage1_length
  · exact s.statusPage2_length
  · exact s.statusPage3_length
  · exact s.statusListPage_length 0
  · exact s.statusListPage_length 8

end

/-- Settles O11, by the sizes of the fields that each message lays together. -/
theorem messagesFitFrames : Obligations.MessagesFitFrames := by
  refine ⟨Entry.recordBits_length, fun _ _ _ => rfl, fun tag e => ?entry, fun e o flags => ?siteDone,
    fun tag cs four => ?counters, fun s tag page size listed => ⟨?status, ?fits⟩⟩
  case entry => rw [Message.payload, List.length_cons, packBits_length, Entry.recordBits_length]
  case siteDone => simp [Message.payload, packBits_length]
  case counters => rw [Message.payload, List.length_cons, length_flatMap_of_length_eq _ Counter.bytes_length, four]
  case status =>
    rw [Message.payload, List.length_cons, List.length_cons, s.statusFields_length listed]
    omega
  case fits =>
    have largest : ∀ p ∈ [(0, 22), (1, 24), (2, 28), (3, 18), (4, 17), (5, 17)], p.2 ≤ 30 := by decide
    have := largest _ listed
    omega

end Sys2Proof.Machine
end
